-- ==== Sys2Proof/Word.lean ====
section
/-! DEFINITION. The words of the Ivrel 1608: bytes, samples, levels and the ranges of its indices
(spec/00_scope.md, Conventions). -/

namespace Sys2Proof

/-- One byte of a cell, a frame header or the boot image. -/
abbrev Byte := BitVec 8

/-- A sample: a 24-bit two's-complement integer (Conventions, Samples). -/
abbrev Sample := BitVec 24

/-- A cell: its bytes in the order sent, the check byte last (R172). -/
abbrev Cell := List Byte

/-- A level, as a count of 0.01 dB from 0 to 19,999 (Conventions, Levels). -/
abbrev Level := Nat

/-- A channel, 0 to 15. -/
abbrev Chan := Fin 16

/-- A receptor group, 0 to 7. -/
abbrev Grp := Fin 8

/-- A period entry of the limit schedule, 0 to 23. -/
abbrev Per := Fin 24

/-- A set of channels: bit n stands for channel n (R170). -/
abbrev ChanSet := BitVec 16

/-- A set of groups: bit n stands for group n (R170). -/
abbrev GrpSet := BitVec 8

/-- An intensity held exactly (R43): the sum of `q * 10^(r/1000)` over its terms `(r, q)`. The residues
`r` lie below 1000 and rise, and no `q` is 0, so that two intensities are equal as numbers exactly when
they are equal as data (log 5). -/
abbrev Intensity := List (Nat × Rat)

end Sys2Proof
end

