-- ==== Sys2Proof/Syntax.lean ====
section
/-! DEFINITION. The commands of the part: one constructor of `Instr` for each row of
spec/opcode_table.json, with the operands the row's rule gives it. -/

namespace Sys2Proof

/-- A sample frame as it arrives (R171). -/
structure Frame where
  /-- byte 0: the slot count -/
  count : Byte
  /-- byte 1: the hub status byte -/
  status : Byte
  /-- the samples, slot 0 first -/
  samples : List Sample
  /-- the frame check -/
  check : BitVec 16
  deriving DecidableEq, Repr

/-- A taken control cell less its command code (R172): where it was sent, its write flag, its tag and its
payload. A row that names a form (a write, a read) fixes the write flag by itself. -/
structure Request where
  /-- sent to node 7, and not to this node -/
  broadcast : Bool
  /-- bit 7 of byte 0 -/
  write : Bool
  /-- byte 2 -/
  tag : Byte
  /-- the payload bytes -/
  payload : List Byte
  deriving DecidableEq, Repr

/-- Which transfers of one transaction of the memory port the memory acknowledged (R188). -/
structure PortAcks where
  /-- the device address with the write bit -/
  deviceWrite : Bool
  /-- the more significant byte of the start address -/
  addressHigh : Bool
  /-- the less significant byte of the start address -/
  addressLow : Bool
  /-- the device address with the read bit -/
  deviceRead : Bool
  deriving DecidableEq, Repr

/-- What the memory port met at the boot image load (R188): the acknowledgements of the header's and of the
body's transaction, and the bytes of the memory from address 0. -/
structure MemoryRead where
  /-- the transaction that reads the header -/
  header : PortAcks
  /-- the transaction that reads the body -/
  body : PortAcks
  /-- the memory's bytes from address 0 -/
  bytes : List Byte
  deriving DecidableEq, Repr

/-- The commands: what reaches the part from outside, one constructor a row of the table. -/
inductive Instr where
  | powerOn (straps : Fin 4)
  | bootLoadEnd (read : MemoryRead)
  | sampleFrame (frame : Frame)
  | framePeriod
  | linkLoss
  | linkRestoration
  | sliceBoundary
  | secondBoundary
  | intervalTimerExpiry (channel : Chan)
  | controlCell (bytes : Cell)
  | cellTimeout (arrived : List Byte) (startMark : Bool)
  | passThroughCell (cell : Cell)
  | forwardCellWindow
  | returnLaneSend
  | unknownCommand (code : Byte) (request : Request)
  | identify (request : Request)
  | status (request : Request)
  | setMode (request : Request)
  | setTime (request : Request)
  | trimTime (request : Request)
  | restart (request : Request)
  | lock (request : Request)
  | mapChannelWrite (request : Request)
  | mapChannelRead (request : Request)
  | mapGroupWrite (request : Request)
  | mapGroupRead (request : Request)
  | mapCommit (request : Request)
  | coefSectionWrite (request : Request)
  | coefSectionRead (request : Request)
  | periodEntryWrite (request : Request)
  | periodEntryRead (request : Request)
  | groupLimitWrite (request : Request)
  | groupLimitRemove (request : Request)
  | groupLimitRead (request : Request)
  | scheduleCommit (request : Request)
  | excludeAdd (request : Request)
  | excludeEnd (request : Request)
  | excludeClear (request : Request)
  | excludeRead (request : Request)
  | checkStart (request : Request)
  | checkAbort (request : Request)
  | checkRead (request : Request)
  | checkSummary (request : Request)
  | levelRead (request : Request)
  | statsRead (request : Request)
  | resultRead (request : Request)
  | eventTake (request : Request)
  | cellLengthFault (arrived : List Byte)
  deriving DecidableEq, Repr

end Sys2Proof
end

