-- ==== Sys2Proof/Decode.lean ====
section
/-! DEFINITION. The commands that a word spells by the table's bits. No row of spec/opcode_table.json gives bits: the
commands come as cells, frames and events (log 39). -/

namespace Sys2Proof

/-- The command a word of `nbits` bits spells: none, since no row of the table gives bits (log 39). -/
def decodeTableWord (_nbits _w : Nat) : Option Instr := none

end Sys2Proof
end

