-- ==== Sys2Proof/Machine/Bytes.lean ====
section
/-! DEFINITION. Byte order, absent values and check codes of cells, frames and the boot image
(R159, R165, R170). -/

namespace Sys2Proof.Machine

/-- A number in `w` bytes, most significant first (R170). -/
def beBytes : Nat → Nat → List Byte
  | 0, _ => []
  | w + 1, n => BitVec.ofNat 8 (n / 256 ^ w) :: beBytes w n

/-- The number that bytes spell, most significant first (R170). -/
def beNat (bs : List Byte) : Nat :=
  bs.foldl (fun acc b => 256 * acc + b.toNat) 0

/-- A signed number in `w` bytes, two's complement (R170). -/
def beSigned (w : Nat) (i : Int) : List Byte :=
  beBytes w (i % (256 ^ w : Nat)).toNat

/-- The all-ones value of `w` bytes: absent, for an unsigned field (R170). -/
def allOnes (w : Nat) : Nat := 256 ^ w - 1

/-- An unsigned field that may be absent (R170). -/
def beOption (w : Nat) (x : Option Nat) : List Byte :=
  beBytes w (x.getD (allOnes w))

/-- A signed field that may be absent: the most negative value of its width (R170). -/
def beSignedOption (w : Nat) (x : Option Int) : List Byte :=
  match x with
  | some i => beSigned w i
  | none => beBytes w (2 ^ (8 * w - 1))

/-- A level, 2 bytes, or absent as 65,535 (R170). -/
def levelBytes (l : Option Level) : List Byte := beOption 2 l

/-- A running second present in every case: 4 bytes, its 32-bit value (R63, R175). -/
def secondBytes (n : Nat) : List Byte := beBytes 4 (n % 2 ^ 32)

/-- A running second that may be absent: 5 bytes (R175). -/
def secondOptionBytes (n : Option Nat) : List Byte :=
  beOption 5 (n.map (· % 2 ^ 32))

/-- A set of flags as a mask of `w` bytes, bit n for the flag listed n-th (R175). -/
def flagBytes (w : Nat) (flags : List Bool) : List Byte :=
  beBytes w ((flags.reverse.foldl (fun acc f => 2 * acc + f.toNat) 0))

/-- `w` bytes of a payload from byte `off`, as an unsigned number. -/
def field (p : List Byte) (off w : Nat) : Nat :=
  beNat ((p.drop off).take w)

/-- `w` bytes of a payload from byte `off`, as a signed number (R170). -/
def signedField (p : List Byte) (off w : Nat) : Int :=
  let n := field p off w
  if n < 2 ^ (8 * w - 1) then (n : Int) else (n : Int) - (256 ^ w : Nat)

/-- One step of the CRC-8 register for a bit: polynomial x^8 + x^2 + x + 1 (R165), the register shifted towards its most
significant bit, the model's choice (log 55). -/
def crc8Bit (r : BitVec 8) : BitVec 8 :=
  if r.msb then (r <<< 1) ^^^ 0x07#8 else r <<< 1

/-- The CRC-8 register after one byte. The most significant bit goes first: R165 gives no bit order for the check of a cell,
and the model takes the one R159 gives the check of a frame (DESIGN CHOICE, log 55). -/
def crc8Byte (r : BitVec 8) (b : Byte) : BitVec 8 :=
  (List.range 8).foldl (fun acc _ => crc8Bit acc) (r ^^^ b)

/-- The check byte of a cell over all preceding bytes: initial value all ones, no final inversion (R165; bit order
log 55). -/
def crc8 (bs : List Byte) : Byte :=
  bs.foldl crc8Byte 0xFF#8

/-- One step of the CRC-16 register: polynomial x^16 + x^15 + x^2 + 1 (R159). -/
def crc16Bit (r : BitVec 16) : BitVec 16 :=
  if r.msb then (r <<< 1) ^^^ 0x8005#16 else r <<< 1

/-- The CRC-16 register after one byte, most significant bit first (R159). -/
def crc16Byte (r : BitVec 16) (b : Byte) : BitVec 16 :=
  (List.range 8).foldl (fun acc _ => crc16Bit acc) (r ^^^ (b.setWidth 16 <<< 8))

/-- The frame check, and the check of the boot image body: initial value all ones, no final inversion (R159, R188). -/
def crc16 (bs : List Byte) : BitVec 16 :=
  bs.foldl crc16Byte 0xFFFF#16

/-- A sample's three bytes, most significant first (R170, R171). -/
def sampleBytes (x : Sample) : List Byte := beBytes 3 x.toNat

end Sys2Proof.Machine
end

