-- ==== Sys2Proof/Machine/State.lean ====
section
/-! DEFINITION. The state of the part, block by block, as plain data: every item the chapters of spec/ say a
block holds, the values of power-on (`State.reset`), and the model's own queue of waiting commands. -/

namespace Sys2Proof.Machine

/-! ### Channel map (chapter 01) -/

/-- The weighting of a level path: A, C or Z (R2). -/
inductive Weighting where
  | a | c | z
  deriving DecidableEq, Repr

/-- The weighting of a peak path: C or Z (R2). -/
inductive PeakWeighting where
  | c | z
  deriving DecidableEq, Repr

/-- Where a channel's levels go (R2). -/
inductive Role where
  | member | reference | monitor
  deriving DecidableEq, Repr

/-- What is sent in a quenched channel's slot (R2, R161). -/
inductive FillMode where
  | pass | zero | hold
  deriving DecidableEq, Repr

/-- The number of silent slices that makes a channel absent: 8 or 40 (R2, R51). -/
inductive AbsentIntegration where
  | eight | forty
  deriving DecidableEq, Repr

/-- A channel entry of the map (R2). Levels are in 0.01 dB, the check interval in minutes. -/
structure ChannelEntry where
  enabled : Bool
  sourceSlot : Fin 64
  levelWeighting : Weighting
  peakWeighting : PeakWeighting
  sensitivity : Level
  role : Role
  group : Option Grp
  absentIntegration : AbsentIntegration
  absentThreshold : Nat
  overloadCount : Nat
  fillMode : FillMode
  autoCheck : Bool
  checkInterval : Nat
  referenceResponse : Level
  tolerance : Nat
  quietLevel : Level
  deriving DecidableEq, Repr

/-- A group entry of the map (R3). -/
structure GroupEntry where
  enabled : Bool
  background : Option Chan
  correction : Bool
  alertWindow : Nat
  crestThreshold : Nat
  impulseFloor : Level
  impulseHold : Nat
  deriving DecidableEq, Repr

/-- One map: 16 channel entries and 8 group entries (R4). -/
structure ChannelMap where
  channels : Vector ChannelEntry 16
  groups : Vector GroupEntry 8
  deriving DecidableEq, Repr

/-- The two staged banks (R4). -/
inductive Bank where
  | a | b
  deriving DecidableEq, Repr

/-- The Slot Router's four maps; the pending one may be absent and names its bank (R4). -/
structure Router where
  bankA : ChannelMap
  bankB : ChannelMap
  active : ChannelMap
  pendingMap : Option (ChannelMap × Bank)
  deriving DecidableEq, Repr

/-- The five locked fields of a channel entry (R2, column "Locked"). -/
structure LockedFields where
  sourceSlot : Fin 64
  levelWeighting : Weighting
  peakWeighting : PeakWeighting
  sensitivity : Level
  referenceResponse : Level
  deriving DecidableEq, Repr

/-! ### Weighting filters (chapter 02) -/

/-- Five coefficients, each a signed 32-bit integer standing for itself over 2^28 (R17, R18). -/
structure CoefSet where
  b0 : Int
  b1 : Int
  b2 : Int
  a1 : Int
  a2 : Int
  deriving DecidableEq, Repr

/-- One section of the coefficient table (R18). -/
structure CoefSection where
  inForce : CoefSet
  waiting : Option CoefSet
  written : Bool
  deriving DecidableEq, Repr

/-- The state of one section of one path: its previous two inputs and outputs (R19). -/
structure SectionState where
  s1 : Int
  s2 : Int
  y1 : Int
  y2 : Int
  deriving DecidableEq, Repr

/-- The states of a path's three sections (R16). -/
structure PathState where
  sec0 : SectionState
  sec1 : SectionState
  sec2 : SectionState
  deriving DecidableEq, Repr

/-! ### Slices and channel condition (chapters 03 and 04) -/

/-- The state of a channel (R47). -/
inductive ChannelState where
  | off | settling | live | absent | checking
  deriving DecidableEq, Repr

/-- A slice in progress (R29). -/
structure Slice where
  n : Nat
  energy : Nat
  peak : Nat
  clipCount : Nat
  rawMin : Option Int
  rawMax : Option Int
  saturated : Bool
  holdOver : Bool
  discarded : Bool
  takenIn : ChannelState
  deriving DecidableEq, Repr

/-- The signal class of a slice record (R38). -/
inductive SignalClass where
  | empty | silent | present | sparse
  deriving DecidableEq, Repr

/-- What a slice record holds when it has data: the exact intensity and the rounded levels with their
underrange flags (R35, R36); the crest is formed from the two levels (R37). -/
structure SliceLevels where
  intensity : Intensity
  lt : Level
  ltUnder : Bool
  lpk : Level
  lpkUnder : Bool
  deriving DecidableEq, Repr

/-- A slice record (R32). Data is yes exactly when `levels` is present (R33). -/
structure SliceRecord where
  second : Nat
  index : Nat
  takenIn : ChannelState
  n : Nat
  levels : Option SliceLevels
  overload : Bool
  clipCount : Nat
  rawMin : Option Int
  rawMax : Option Int
  signal : SignalClass
  holdOver : Bool
  discarded : Bool
  deriving DecidableEq, Repr

/-- The channel second in formation (R40): the qualifying records' count, sum and overload, how many records it has
taken, and how many of them carry the discarded mark (R42; log 42). -/
structure SecondForming where
  qualifying : Nat
  sum : Intensity
  overload : Bool
  records : Nat
  discardedSlices : Nat
  deriving DecidableEq, Repr

/-- A channel second (R40). -/
structure ChannelSecond where
  second : Nat
  qualifying : Nat
  level : Option Level
  under : Bool
  overload : Bool
  discarded : Bool
  deriving DecidableEq, Repr

/-- An entry of a channel second ring (R84): VALID when it has a level, NO DATA otherwise. -/
structure RingEntry where
  second : Nat
  level : Option Level
  overload : Bool
  deriving DecidableEq, Repr

/-- What the Check Engine has handed to the Channel Condition Monitor (R47, R53, R54). -/
inductive CheckRequest where
  | none | startHeld | endHeld
  deriving DecidableEq, Repr

/-- The suspect field of a channel (R57). -/
inductive Suspect where
  | none | noResponse | low | high
  deriving DecidableEq, Repr

/-- The condition record of a channel (R47). -/
structure Condition where
  state : ChannelState
  enteredAt : Option (Nat × Nat)
  settleCount : Nat
  silentCount : Nat
  restoreCount : Nat
  request : CheckRequest
  restoreHeld : Bool
  suspect : Suspect
  overloadedLive : Nat
  lastOverload : Option Nat
  deriving DecidableEq, Repr

/-! ### Verification checks (chapter 09) -/

/-- A check result (R136, R176). -/
inductive CheckCode where
  | incomplete | overload | ambient | noResponse | low | high | pass
  deriving DecidableEq, Repr

/-- The reason of an INCOMPLETE result (R146, R176). -/
inductive CheckReason where
  | state | data | abort | link | commit
  deriving DecidableEq, Repr

/-- The class in which the arbiter selected a channel (R131, R143). -/
inductive CheckKind where
  | manual | forced | due | early
  deriving DecidableEq, Repr

/-- The step a check has reached (R131). -/
inductive Stage where
  | idle | starting | pre | establish | measure | ending
  deriving DecidableEq, Repr

/-- A check result record (R146). -/
structure CheckRecord where
  code : CheckCode
  reason : Option CheckReason
  response : Option Level
  deviation : Option Int
  lpre : Option Level
  lchk : Option Level
  second : Nat
  kind : CheckKind
  deriving DecidableEq, Repr

/-- The sweep summary (R147). -/
structure SweepSummary where
  taken : ChanSet
  count : Nat
  minimum : Int
  maximum : Int
  deriving DecidableEq, Repr

/-- The Check Engine's record and the Check Scheduler's sweep (R131, R147). -/
structure CheckEngine where
  stage : Stage
  channel : Option Chan
  companions : ChanSet
  kind : CheckKind
  phaseSlices : Nat
  preSum : Intensity
  measureSum : Intensity
  preOverload : Bool
  measureOverload : Bool
  drive : Option (Fin 64)
  decided : Option (CheckCode × CheckReason)
  sweep : ChanSet
  summary : SweepSummary
  deriving DecidableEq, Repr

/-- The Check Scheduler's account of one channel (R140, R141, R142, R146). -/
structure CheckAccount where
  balance : Int
  timer : Nat
  retry : Nat
  quiet : Nat
  record : Option CheckRecord
  deriving DecidableEq, Repr

/-- All that the part holds for one channel. -/
structure Channel where
  levelPath : PathState
  peakPath : PathState
  slice : Option Slice
  forming : Option SecondForming
  latestSlice : Option SliceRecord
  latestSecond : Option ChannelSecond
  cond : Condition
  ring : List RingEntry
  account : CheckAccount
  holdValue : Sample
  deriving DecidableEq, Repr

/-! ### Groups, schedule and windows (chapters 06, 07 and 08) -/

/-- A civil position: day 0 to 6 and second-of-day (R61). -/
structure Pos where
  day : Nat
  second : Nat
  deriving DecidableEq, Repr

/-- A group slice (R78). `levels` holds the exact intensity, the level with its underrange flag and the
maximum member peak, and is present when a record contributed. -/
structure GroupSlice where
  second : Nat
  index : Nat
  count : Nat
  intensity : Option Intensity
  level : Option Level
  under : Bool
  maxPeak : Option Level
  overload : Bool
  suspect : Bool
  holdOver : Bool
  discarded : Bool
  deriving DecidableEq, Repr

/-- The group second in formation (R80). `membership` says that it is the first formed under a map that changed the
group's membership (R102). -/
structure GroupForming where
  data : Nat
  sum : Intensity
  maxLevel : Option Level
  maxPeak : Option Level
  overload : Nat
  onsets : Nat
  suspect : Bool
  holdOver : Bool
  membership : Bool
  deriving DecidableEq, Repr

/-- A group second record (R81). A position of `none` is "held". -/
structure GroupSecond where
  second : Nat
  position : Option Pos
  sum : Intensity
  data : Nat
  onsets : Nat
  maxLevel : Option Level
  maxPeak : Option Level
  overload : Nat
  excluded : Bool
  discarded : Bool
  suspect : Bool
  holdOver : Bool
  deriving DecidableEq, Repr

/-- A group limit record (R93). -/
structure LimitRecord where
  leq : Level
  alert : Option Level
  lmax : Option Level
  peak : Option Level
  penalty : Nat
  threshold : Nat
  deriving DecidableEq, Repr

/-- The window length of a period entry (R92). -/
inductive WindowLength where
  | m5 | m15 | m30 | m60 | whole
  deriving DecidableEq, Repr

/-- A period entry with its group limit records (R92). -/
structure PeriodEntry where
  enabled : Bool
  days : BitVec 7
  startMinute : Nat
  endMinute : Nat
  length : WindowLength
  limits : Vector (Option LimitRecord) 8
  deriving DecidableEq, Repr

/-- A schedule: 24 period entries (R92). -/
abbrev Schedule := Vector PeriodEntry 24

/-- The mode of a SCHEDULE COMMIT (R96). -/
inductive CommitMode where
  | boundary | immediate
  deriving DecidableEq, Repr

/-- The Window Evaluator's three schedules (R92). -/
structure Schedules where
  staged : Schedule
  active : Schedule
  pendingSchedule : Option (Schedule × CommitMode)
  deriving DecidableEq, Repr

/-- The flags of a window, in the order R102 and R149 list them; "underrange" is set at its close. -/
structure WindowFlags where
  lateStart : Bool
  short : Bool
  truncated : Bool
  membership : Bool
  suspect : Bool
  maxExcluded : Bool
  noBackground : Bool
  trim : Bool
  holdOver : Bool
  underrange : Bool
  deriving DecidableEq, Repr

/-- An open or due window (R100) with its accumulators (R102). -/
structure Window where
  period : Per
  day : Nat
  start : Nat
  stop : Nat
  firstSecond : Nat
  limit : Option LimitRecord
  expected : Nat
  data : Nat
  excluded : Nat
  sum : Intensity
  onsets : Nat
  overload : Nat
  maxLevel : Option Level
  maxPeak : Option Level
  lmaxRaised : Bool
  peakRaised : Bool
  flags : WindowFlags
  deriving DecidableEq, Repr

/-- All that the part holds for one group (R75, R99, R115, R126). Due windows wait inside one boundary only; a second
one is due there only when a forward skip passes a window that an immediate activation opened (R97, R106). -/
structure Group where
  awaited : ChanSet
  /-- absent while the group is disabled, and from a RESTART to the end of the second it was taken in (R83) -/
  forming : Option GroupForming
  ring : List GroupSecond
  latest : Option GroupSlice
  holdCount : Nat
  alertOn : Bool
  alertLevel : Option Level
  alertPeriod : Option Per
  /-- the alert state as the last second close left it, which the arbiter reads (R143); OFF for a disabled group -/
  alertAtClose : Bool
  rolling : Option Level
  openWindow : Option Window
  dueWindows : List Window
  deriving DecidableEq, Repr

/-- An entry of the Exclusion List (R119). A stop of `none` is an open end. -/
structure Exclusion where
  id : Fin 16
  mask : GrpSet
  start : Nat
  stop : Option Nat
  reason : Nat
  clipped : Bool
  deriving DecidableEq, Repr

/-! ### Results and events (chapter 10) -/

/-- The outcome of a window (R109). -/
inductive WindowOutcome where
  | excluded | unregulated | insufficient | indeterminate | exceeded | compliant
  deriving DecidableEq, Repr

/-- A window result record (R149). -/
structure WindowResult where
  sequence : Nat
  group : Grp
  period : Per
  day : Nat
  start : Nat
  expected : Nat
  data : Nat
  excluded : Nat
  leq : Option Level
  l90 : Option Level
  site : Option Level
  penalty : Option Nat
  rated : Option Level
  limit : Option Level
  outcome : WindowOutcome
  maxLevel : Option Level
  maxPeak : Option Level
  onsets : Nat
  overload : Nat
  flags : WindowFlags
  lockLevel : Nat
  deriving DecidableEq, Repr

/-- The Result Store (R150). -/
structure ResultStore where
  ring : List WindowResult
  next : Nat
  deriving DecidableEq, Repr

/-- The sixteen event kinds, in the order of R154. -/
inductive EventKind where
  | alertOn | alertOff | lmax | peak | windowExceeded | signalAbsent | signalRestored | checkFault
  | checkOverdue | linkLost | linkRestored | scheduleChanged | mapChanged | lock | clockSet | clockTrim
  deriving DecidableEq, Repr

/-- The subject of an event (R153). -/
inductive Subject where
  | none
  | group (g : Grp)
  | channel (c : Chan)
  deriving DecidableEq, Repr

/-- The value a kind carries beside its marks: a check result, a commit mode or a bank (R154, R178). -/
inductive KindValue where
  | check (code : CheckCode)
  | commit (mode : CommitMode)
  | bank (bank : Bank)
  deriving DecidableEq, Repr

/-- An event as its raising block fills it (R153, R154). -/
structure Event where
  second : Nat
  kind : EventKind
  subject : Subject
  level : Option Level
  limit : Option Level
  period : Option Per
  value : Option KindValue
  discarded : Bool
  manual : Bool
  startUp : Bool
  detail : Option Int
  deriving DecidableEq, Repr

/-- An event record held in the Event Queue (R153). -/
structure EventRecord where
  sequence : Nat
  event : Event
  lostAfter : Nat
  deriving DecidableEq, Repr

/-- The Event Queue (R155). -/
structure EventQueue where
  queue : List EventRecord
  next : Nat
  deriving DecidableEq, Repr

/-! ### Time base, trunk and control (chapters 05, 11 and 12) -/

/-- The link state (R61). -/
inductive Link where
  | locked | holdOver
  deriving DecidableEq, Repr

/-- The time record (R61). While `held`, `day` and `second` are those of the last second that had a position of its own:
midnight is not crossed by a held second, and the position it waits at is the next one (R64, R73).
`runningSecond` counts second boundaries since power-on; the 32-bit value is its remainder (R63, log 7).
`handedHoldOver` is the hold-over item of the position handed when the slice in progress opened (R63). -/
structure TimeBase where
  link : Link
  startUp : Bool
  missingRun : Nat
  goodRun : Nat
  holdLength : Nat
  frameIndex : Nat
  sliceIndex : Nat
  runningSecond : Nat
  day : Nat
  second : Nat
  held : Bool
  clockSet : Bool
  pendingTime : Option Pos
  trim : Int
  handedHoldOver : Bool
  deriving DecidableEq, Repr

/-- A cell of the outgoing queue: a notice or an answer (R163). -/
structure OutCell where
  notice : Bool
  bytes : Cell
  deriving DecidableEq, Repr

/-- Whose turn the next contested forward cell window is (R162). -/
inductive Turn where
  | passThrough | own
  deriving DecidableEq, Repr

/-- A cell fault (R165). -/
inductive CellFault where
  | check | length | timeout | overrun
  deriving DecidableEq, Repr

/-- The parser on the Trunk Out return lane (R164). -/
inductive Parser where
  | hunting
  | inCell (arrived : List Byte)
  deriving DecidableEq, Repr

/-- The Trunk Interface (R160 to R169), with what the part last put on each of its transmit lanes. -/
structure Trunk where
  out : List OutCell
  through : List Cell
  turn : Turn
  hub : List Cell
  retThrough : List Cell
  lastFault : Option CellFault
  discard : Bool
  parser : Parser
  lastSent : Vector Sample 64
  frameOut : Option Frame
  cellOut : Option Cell
  returnOut : Option Cell
  deriving DecidableEq, Repr

/-- The mode of the part (R183). -/
inductive Mode where
  | boot | config | run
  deriving DecidableEq, Repr

/-- The reason of an INVALID_TABLE answer (R8, R96, R176). -/
inductive TableFault where
  | memberNoGroup (c : Chan)
  | groupNotMember (c : Chan)
  | badBackground (g : Grp)
  | lockedField (c : Chan)
  | overlap (i j : Per)
  deriving DecidableEq, Repr

/-- The boot outcome (R176, R188, R190). -/
inductive BootOutcome where
  | notRecorded
  | accepted
  | noResponse
  | length
  | check
  | record (index : Nat)
  | invalid (why : TableFault)
  deriving DecidableEq, Repr

/-- One act of the part as controller of the memory port (R188). `receive n` takes n bytes and acknowledges
each but the last. -/
inductive PortAct where
  | start
  | send (b : Byte)
  | repeatedStart
  | receive (n : Nat)
  | stop
  deriving DecidableEq, Repr

/-- The Control Cell Engine's own state (chapter 12), the node number, and two marks: a RESTART has been taken
since the last slice boundary (R48, row 11), and the second boundary of this instant has been taken with its
slice boundary (log 3). -/
structure Control where
  mode : Mode
  lock : Nat
  locked : Option (Vector LockedFields 16)
  bootOutcome : BootOutcome
  bootDefault : Bool
  autoRun : Bool
  node : Fin 4
  portLog : List PortAct
  restarted : Bool
  secondTaken : Bool
  deriving DecidableEq, Repr

/-! ### The whole state -/

/-- The state of the part. -/
structure State where
  time : TimeBase
  router : Router
  /-- the sections A0, A1, A2, C0, C1, C2 (R18) -/
  coefs : Vector CoefSection 6
  channels : Vector Channel 16
  groups : Vector Group 8
  schedules : Schedules
  /-- the Exclusion List, in list order (R119) -/
  exclusions : List Exclusion
  check : CheckEngine
  results : ResultStore
  events : EventQueue
  trunk : Trunk
  control : Control
  /-- the model's own: how many free orders have been drawn (log 10) -/
  choices : Nat
  /-- the commands that wait, first in, first out -/
  pending : List Instr
  deriving DecidableEq, Repr

/-- Nothing stops the part: every bad input is answered, dropped, counted or recorded (R164, R165, R180), so no
fault is ever raised. -/
inductive Fault where
  deriving DecidableEq, Repr

/-- The reasons a command is not run. -/
inductive Refusal where
  /-- An arm of `exec` that has no meaning yet; raised by none. Safe. -/
  | notModelled (mnemonic : String)
  deriving DecidableEq, Repr

/-! ### The values of power-on -/

/-- The default channel entry of channel `c` (R2, column "Default"). -/
def ChannelEntry.default (c : Chan) : ChannelEntry where
  enabled := false
  sourceSlot := ⟨c.val, by omega⟩
  levelWeighting := .a
  peakWeighting := .c
  sensitivity := 0
  role := .monitor
  group := none
  absentIntegration := .forty
  absentThreshold := 0
  overloadCount := 1
  fillMode := .pass
  autoCheck := false
  checkInterval := 1440
  referenceResponse := 0
  tolerance := 50
  quietLevel := 0

/-- The default group entry (R3, column "Default"). -/
def GroupEntry.default : GroupEntry where
  enabled := false
  background := none
  correction := false
  alertWindow := 300
  crestThreshold := 1500
  impulseFloor := 6000
  impulseHold := 8

/-- The default map (R15). -/
def ChannelMap.default : ChannelMap where
  channels := Vector.ofFn ChannelEntry.default
  groups := Vector.replicate 8 GroupEntry.default

/-- The Slot Router at power-on (R15). -/
def Router.reset : Router where
  bankA := ChannelMap.default
  bankB := ChannelMap.default
  active := ChannelMap.default
  pendingMap := none

/-- The set under which a section passes its input through (R18). -/
def CoefSet.passThrough : CoefSet where
  b0 := 268435456
  b1 := 0
  b2 := 0
  a1 := 0
  a2 := 0

/-- A section of the coefficient table at power-on (R26, R28). -/
def CoefSection.reset : CoefSection where
  inForce := CoefSet.passThrough
  waiting := none
  written := false

/-- A section state of 0 (R22). -/
def SectionState.zero : SectionState where
  s1 := 0
  s2 := 0
  y1 := 0
  y2 := 0

/-- A path with every section state 0 (R22). -/
def PathState.zero : PathState where
  sec0 := SectionState.zero
  sec1 := SectionState.zero
  sec2 := SectionState.zero

/-- The condition record at power-on (R60). -/
def Condition.reset : Condition where
  state := .off
  enteredAt := none
  settleCount := 0
  silentCount := 0
  restoreCount := 0
  request := .none
  restoreHeld := false
  suspect := .none
  overloadedLive := 0
  lastOverload := none

/-- A channel's check account at power-on and RESTART (R148). -/
def CheckAccount.reset : CheckAccount where
  balance := 0
  timer := 0
  retry := 0
  quiet := 0
  record := none

/-- A channel at power-on (R28, R46, R60, R85, R148, R169). -/
def Channel.reset : Channel where
  levelPath := PathState.zero
  peakPath := PathState.zero
  slice := none
  forming := none
  latestSlice := none
  latestSecond := none
  cond := Condition.reset
  ring := []
  account := CheckAccount.reset
  holdValue := 0

/-- An empty group second in formation (R80). -/
def GroupForming.empty : GroupForming where
  data := 0
  sum := []
  maxLevel := none
  maxPeak := none
  overload := 0
  onsets := 0
  suspect := false
  holdOver := false
  membership := false

/-- A group at power-on and RESTART (R90, R113, R118, R130). -/
def Group.reset : Group where
  awaited := 0
  forming := none
  ring := []
  latest := none
  holdCount := 0
  alertOn := false
  alertLevel := none
  alertPeriod := none
  alertAtClose := false
  rolling := none
  openWindow := none
  dueWindows := []

/-- The default period entry (R92). -/
def PeriodEntry.default : PeriodEntry where
  enabled := false
  days := 0
  startMinute := 0
  endMinute := 1440
  length := .m60
  limits := Vector.replicate 8 none

/-- The default schedule (R92). -/
def Schedule.default : Schedule := Vector.replicate 24 PeriodEntry.default

/-- The schedules at power-on (R98). -/
def Schedules.reset : Schedules where
  staged := Schedule.default
  active := Schedule.default
  pendingSchedule := none

/-- The cleared sweep summary (R147). The set stands for what CHECK START took; before any CHECK START it is empty, the
model's choice (log 19). -/
def SweepSummary.cleared : SweepSummary where
  taken := 0
  count := 0
  minimum := 9999
  maximum := -9999

/-- The Check Engine at power-on (R131, R148). R131 names the stage, the channel, the drive, the sweep set and sweep
pending alone; the kind, the companions, the phase slices, the sums, the overload marks and the decided result are the
model's choice, and no rule reads them in IDLE (log 19). -/
def CheckEngine.reset : CheckEngine where
  stage := .idle
  channel := none
  companions := 0
  kind := .manual
  phaseSlices := 0
  preSum := []
  measureSum := []
  preOverload := false
  measureOverload := false
  drive := none
  decided := none
  sweep := 0
  summary := SweepSummary.cleared

/-- The Result Store at power-on and RESTART (R158). -/
def ResultStore.reset : ResultStore where
  ring := []
  next := 0

/-- The Event Queue at power-on and RESTART (R158). -/
def EventQueue.reset : EventQueue where
  queue := []
  next := 0

/-- The time record at power-on (R74). The hold-over item of a handed position before any boundary has handed one (R63), for
which R74 gives no value, says HOLD-OVER, as the link state does (DESIGN CHOICE, log 19). -/
def TimeBase.reset : TimeBase where
  link := .holdOver
  startUp := true
  missingRun := 0
  goodRun := 0
  holdLength := 0
  frameIndex := 0
  sliceIndex := 0
  runningSecond := 0
  day := 0
  second := 0
  held := false
  clockSet := false
  pendingTime := none
  trim := 0
  handedHoldOver := true

/-- The Trunk Interface at power-on (R161, R169; the transmit lanes: log 35). -/
def Trunk.reset : Trunk where
  out := []
  through := []
  turn := .passThrough
  hub := []
  retThrough := []
  lastFault := none
  discard := false
  parser := .hunting
  lastSent := Vector.replicate 64 0
  frameOut := none
  cellOut := none
  returnOut := none

/-- The Control Cell Engine at power-on with the straps read as `node` (R181, R183, R185, R187, R190). -/
def Control.powerOn (node : Fin 4) : Control where
  mode := .boot
  lock := 0
  locked := none
  bootOutcome := .notRecorded
  bootDefault := true
  autoRun := false
  node := node
  portLog := []
  restarted := false
  secondTaken := false

/-- The part right after power-on (R183): every block at its power-on values, the image load in progress, no
command waiting. The straps stand at 0 until POWER_ON reads them (log 18). -/
def State.reset : State where
  time := TimeBase.reset
  router := Router.reset
  coefs := Vector.replicate 6 CoefSection.reset
  channels := Vector.replicate 16 Channel.reset
  groups := Vector.replicate 8 Group.reset
  schedules := Schedules.reset
  exclusions := []
  check := CheckEngine.reset
  results := ResultStore.reset
  events := EventQueue.reset
  trunk := Trunk.reset
  control := Control.powerOn 0
  choices := 0
  pending := []

end Sys2Proof.Machine
end

