-- ==== Sys2Proof/Machine/Codes.lean ====
section
/-! DEFINITION. The numbers of enumerated fields in cells and in the boot image: R170 (numbered from 0 in the order
the rule lists the values), R172 to R176 and R178 where they give their own codes (log 8, 9, 40). -/

namespace Sys2Proof.Machine

/-- A yes or no value: listed "yes, no", so yes is 0 and no is 1 (R2, R170; log 8). -/
def yesNoCode (b : Bool) : Nat := if b then 0 else 1

/-- The yes or no value of a code (R2, R170; log 8). -/
def yesNoOf : Nat → Option Bool
  | 0 => some true
  | 1 => some false
  | _ => none

/-- Level weighting, listed A, C, Z (R2). -/
def weightingCode : Weighting → Nat
  | .a => 0
  | .c => 1
  | .z => 2

/-- The level weighting of a code (R2). -/
def weightingOf : Nat → Option Weighting
  | 0 => some .a
  | 1 => some .c
  | 2 => some .z
  | _ => none

/-- Peak weighting, listed C, Z (R2). -/
def peakWeightingCode : PeakWeighting → Nat
  | .c => 0
  | .z => 1

/-- The peak weighting of a code (R2). -/
def peakWeightingOf : Nat → Option PeakWeighting
  | 0 => some .c
  | 1 => some .z
  | _ => none

/-- Role, listed member, reference, monitor (R2). -/
def roleCode : Role → Nat
  | .member => 0
  | .reference => 1
  | .monitor => 2

/-- The role of a code (R2). -/
def roleOf : Nat → Option Role
  | 0 => some .member
  | 1 => some .reference
  | 2 => some .monitor
  | _ => none

/-- Fill mode, listed pass, zero, hold (R2). -/
def fillModeCode : FillMode → Nat
  | .pass => 0
  | .zero => 1
  | .hold => 2

/-- The fill mode of a code (R2). -/
def fillModeOf : Nat → Option FillMode
  | 0 => some .pass
  | 1 => some .zero
  | 2 => some .hold
  | _ => none

/-- The absent integration is sent as its count of slices (R175). -/
def AbsentIntegration.slices : AbsentIntegration → Nat
  | .eight => 8
  | .forty => 40

/-- The absent integration of a count of slices (R2). -/
def absentIntegrationOf : Nat → Option AbsentIntegration
  | 8 => some .eight
  | 40 => some .forty
  | _ => none

/-- A group index, or none as 255 (R175). -/
def groupCode : Option Grp → Nat
  | some g => g.val
  | none => 255

/-- The group field of a code: 0 to 7, or none (R2, R175). -/
def groupOf (n : Nat) : Option (Option Grp) :=
  if n = 255 then some none else if h : n < 8 then some (some ⟨n, h⟩) else none

/-- A channel index, or none as 255 (R175). -/
def channelCode : Option Chan → Nat
  | some c => c.val
  | none => 255

/-- The channel field of a code: 0 to 15, or none (R3, R175). -/
def channelOf (n : Nat) : Option (Option Chan) :=
  if n = 255 then some none else if h : n < 16 then some (some ⟨n, h⟩) else none

/-- An index below `k`. -/
def indexOf (k n : Nat) : Option (Fin k) :=
  if h : n < k then some ⟨n, h⟩ else none

/-- The four maps a map command may name (R5). -/
inductive MapName where
  | bankA | bankB | active | pendingMap
  deriving DecidableEq, Repr

/-- The map of a code: A, B, active, pending (R175). -/
def mapNameOf : Nat → Option MapName
  | 0 => some .bankA
  | 1 => some .bankB
  | 2 => some .active
  | 3 => some .pendingMap
  | _ => none

/-- Bank A is 0 and bank B 1 (R7, R170). -/
def bankCode : Bank → Nat
  | .a => 0
  | .b => 1

/-- The bank of a code (R7). -/
def bankOf : Nat → Option Bank
  | 0 => some .a
  | 1 => some .b
  | _ => none

/-- The three schedules a schedule command may name (R94). -/
inductive ScheduleName where
  | staged | pendingSchedule | active
  deriving DecidableEq, Repr

/-- The schedule of a code: staged, pending, active (R175). -/
def scheduleNameOf : Nat → Option ScheduleName
  | 0 => some .staged
  | 1 => some .pendingSchedule
  | 2 => some .active
  | _ => none

/-- The commit mode, listed boundary, immediate (R96). -/
def commitModeCode : CommitMode → Nat
  | .boundary => 0
  | .immediate => 1

/-- The commit mode of a code (R96). -/
def commitModeOf : Nat → Option CommitMode
  | 0 => some .boundary
  | 1 => some .immediate
  | _ => none

/-- The window length in minutes, 0 for whole period (R175). -/
def windowLengthCode : WindowLength → Nat
  | .m5 => 5
  | .m15 => 15
  | .m30 => 30
  | .m60 => 60
  | .whole => 0

/-- The window length of a code (R94, R175). -/
def windowLengthOf : Nat → Option WindowLength
  | 5 => some .m5
  | 15 => some .m15
  | 30 => some .m30
  | 60 => some .m60
  | 0 => some .whole
  | _ => none

/-- The section of the coefficient table a payload names: weighting A 0 or C 1, sections 0 to 2, in the order
A0, A1, A2, C0, C1, C2 (R18, R23). -/
def coefIndexOf (weighting sect : Nat) : Option (Fin 6) :=
  if h : weighting < 2 ∧ sect < 3 then some ⟨3 * weighting + sect, by omega⟩ else none

/-- The mode: BOOT 0, CONFIG 1, RUN 2 (R173; in SET MODE: log 9). -/
def modeCode : Mode → Nat
  | .boot => 0
  | .config => 1
  | .run => 2

/-- Channel state, listed OFF, SETTLING, LIVE, ABSENT, CHECKING (R47). -/
def channelStateCode : ChannelState → Nat
  | .off => 0
  | .settling => 1
  | .live => 2
  | .absent => 3
  | .checking => 4

/-- State taken in, listed SETTLING, LIVE, ABSENT, CHECKING (R29, R32). -/
def takenInCode : ChannelState → Nat
  | .off => 255
  | .settling => 0
  | .live => 1
  | .absent => 2
  | .checking => 3

/-- Signal class, listed EMPTY, SILENT, PRESENT, SPARSE (R32, R38). -/
def signalCode : SignalClass → Nat
  | .empty => 0
  | .silent => 1
  | .present => 2
  | .sparse => 3

/-- Check request, listed none, start held, end held (R47). -/
def requestCode : CheckRequest → Nat
  | .none => 0
  | .startHeld => 1
  | .endHeld => 2

/-- Suspect, listed none, NO RESPONSE, LOW, HIGH (R47). -/
def suspectCode : Suspect → Nat
  | .none => 0
  | .noResponse => 1
  | .low => 2
  | .high => 3

/-- Check result (R176). -/
def checkCodeCode : CheckCode → Nat
  | .incomplete => 0
  | .overload => 1
  | .ambient => 2
  | .noResponse => 3
  | .low => 4
  | .high => 5
  | .pass => 6

/-- Reason of an INCOMPLETE result (R176). -/
def checkReasonCode : CheckReason → Nat
  | .state => 0
  | .data => 1
  | .abort => 2
  | .link => 3
  | .commit => 4

/-- Check kind, listed manual, forced, due, early (R131). -/
def checkKindCode : CheckKind → Nat
  | .manual => 0
  | .forced => 1
  | .due => 2
  | .early => 3

/-- Link state, listed LOCKED, HOLD-OVER (R61). -/
def linkCode : Link → Nat
  | .locked => 0
  | .holdOver => 1

/-- Alert state, listed OFF, ON (R126). -/
def alertCode (on : Bool) : Nat := if on then 1 else 0

/-- Auto-run mark, listed armed, not armed (12, opening paragraphs). -/
def autoRunCode (armed : Bool) : Nat := if armed then 0 else 1

/-- Window outcome, EXCLUDED 0 to COMPLIANT 5 (R177). -/
def windowOutcomeCode : WindowOutcome → Nat
  | .excluded => 0
  | .unregulated => 1
  | .insufficient => 2
  | .indeterminate => 3
  | .exceeded => 4
  | .compliant => 5

/-- Event kind, 1 to 16 in the order of R154 (R178). -/
def eventKindCode : EventKind → Nat
  | .alertOn => 1
  | .alertOff => 2
  | .lmax => 3
  | .peak => 4
  | .windowExceeded => 5
  | .signalAbsent => 6
  | .signalRestored => 7
  | .checkFault => 8
  | .checkOverdue => 9
  | .linkLost => 10
  | .linkRestored => 11
  | .scheduleChanged => 12
  | .mapChanged => 13
  | .lock => 14
  | .clockSet => 15
  | .clockTrim => 16

/-- The kind value of an event record (R178). -/
def kindValueCode : KindValue → Nat
  | .check c => checkCodeCode c
  | .commit m => commitModeCode m
  | .bank k => bankCode k

/-- Last cell fault (R173). -/
def cellFaultCode : Option CellFault → Nat
  | none => 0
  | some .check => 1
  | some .length => 2
  | some .timeout => 3
  | some .overrun => 4

/-- The boot outcome (R176). -/
def bootOutcomeCode : BootOutcome → Nat
  | .notRecorded => 0
  | .accepted => 1
  | .noResponse => 2
  | .length => 3
  | .check => 4
  | .record _ => 5
  | .invalid _ => 6

/-- The result codes of answers (R172). -/
inductive ResultCode where
  | ok | pendingResult | unknown | badArgument | wrongMode | locked | busy | invalidTable | notAvailable | empty
  | full
  deriving DecidableEq, Repr

/-- The number of a result code (R172). -/
def resultCodeCode : ResultCode → Nat
  | .ok => 0
  | .pendingResult => 1
  | .unknown => 2
  | .badArgument => 3
  | .wrongMode => 4
  | .locked => 5
  | .busy => 6
  | .invalidTable => 7
  | .notAvailable => 8
  | .empty => 9
  | .full => 10

/-- The commands of the part by name (R174). -/
inductive Command where
  | identify | status | setMode | setTime | trimTime | restart | lock | mapChannel | mapGroup | mapCommit
  | coefSection | periodEntry | groupLimit | scheduleCommit | excludeAdd | excludeEnd | excludeClear | excludeRead
  | checkStart | checkAbort | checkRead | checkSummary | levelRead | statsRead | resultRead | eventTake
  deriving DecidableEq, Repr

/-- The command codes, in the manual's decimal figures (R174; log 40). -/
def commandCode : Command → Byte
  | .identify => 1
  | .status => 2
  | .setMode => 3
  | .setTime => 4
  | .trimTime => 5
  | .restart => 6
  | .lock => 7
  | .mapChannel => 10
  | .mapGroup => 11
  | .mapCommit => 12
  | .coefSection => 13
  | .periodEntry => 20
  | .groupLimit => 21
  | .scheduleCommit => 22
  | .excludeAdd => 30
  | .excludeEnd => 31
  | .excludeClear => 32
  | .excludeRead => 33
  | .checkStart => 40
  | .checkAbort => 41
  | .checkRead => 42
  | .checkSummary => 43
  | .levelRead => 50
  | .statsRead => 51
  | .resultRead => 60
  | .eventTake => 61

/-- Every command of the part. -/
def allCommands : List Command :=
  [.identify, .status, .setMode, .setTime, .trimTime, .restart, .lock, .mapChannel, .mapGroup, .mapCommit,
    .coefSection, .periodEntry, .groupLimit, .scheduleCommit, .excludeAdd, .excludeEnd, .excludeClear, .excludeRead,
    .checkStart, .checkAbort, .checkRead, .checkSummary, .levelRead, .statsRead, .resultRead, .eventTake]

/-- The command a code names, if any; the hub and notice codes 70, 71, 80 and 81 name none (R180). -/
def commandOf (code : Byte) : Option Command :=
  allCommands.find? fun k => commandCode k == code

/-- DRIVE ON and DRIVE OFF hub cells (R174). -/
def driveOnCode : Byte := 70
/-- DRIVE OFF (R174). -/
def driveOffCode : Byte := 71
/-- RESULT NOTICE (R174). -/
def resultNoticeCode : Byte := 80
/-- EVENT NOTICE (R174). -/
def eventNoticeCode : Byte := 81

end Sys2Proof.Machine
end

