-- ==== Sys2Proof/Machine/Filters.lean ====
section
/-! DEFINITION. The Weighting Filter Unit: the section step, the two paths of a channel, the coefficient table and
what a waiting set does at a slice boundary (chapter 02). -/

namespace Sys2Proof.Machine

/-- The signal range of R17: set a value outside it to its nearer end; the second part says whether it lay
outside (R19, step 3). -/
def saturate (y : Int) : Int × Bool :=
  if y > 2147483647 then (2147483647, true)
  else if y < -2147483648 then (-2147483648, true)
  else (y, false)

/-- The exact accumulator of a section (R19, step 1). -/
def accumulator (k : CoefSet) (st : SectionState) (s : Int) : Int :=
  k.b0 * s + k.b1 * st.s1 + k.b2 * st.s2 - k.a1 * st.y1 - k.a2 * st.y2

/-- The accumulator over 2^28, rounded to the nearest integer with ties toward +∞ (R19, step 2). -/
def roundAccumulator (acc : Int) : Int :=
  (acc + 134217728) / 268435456

/-- One section step (R19): the new state, the output and whether it saturated. -/
def sectionStep (k : CoefSet) (st : SectionState) (s : Int) : SectionState × Int × Bool :=
  let y := saturate (roundAccumulator (accumulator k st s))
  ({ s1 := s, s2 := st.s1, y1 := y.1, y2 := st.y1 }, y.1, y.2)

/-- The cascade of a weighting's three sections (R16): the new states, the output and whether any saturated. -/
def cascade (k0 k1 k2 : CoefSet) (st : PathState) (s : Int) : PathState × Int × Bool :=
  let r0 := sectionStep k0 st.sec0 s
  let r1 := sectionStep k1 st.sec1 r0.2.1
  let r2 := sectionStep k2 st.sec2 r1.2.1
  ({ sec0 := r0.1, sec1 := r1.1, sec2 := r2.1 }, r2.2.1, r0.2.2 || r1.2.2 || r2.2.2)

/-- The input of a path: the sample times 256 (R16). -/
def pathInput (x : Sample) : Int := x.toInt * 256

/-- One step of a level path (R16): A and C cascade their sections, Z passes its input and keeps no state. -/
def levelPathStep (coefs : Vector CoefSection 6) (w : Weighting) (st : PathState) (s : Int) :
    PathState × Int × Bool :=
  match w with
  | .a => cascade coefs[0].inForce coefs[1].inForce coefs[2].inForce st s
  | .c => cascade coefs[3].inForce coefs[4].inForce coefs[5].inForce st s
  | .z => (st, s, false)

/-- One step of a peak path (R16). -/
def peakPathStep (coefs : Vector CoefSection 6) (w : PeakWeighting) (st : PathState) (s : Int) :
    PathState × Int × Bool :=
  match w with
  | .c => cascade coefs[3].inForce coefs[4].inForce coefs[5].inForce st s
  | .z => (st, s, false)

/-- The flag "weighting default" (R26): set while any written mark is clear. -/
def weightingDefault (coefs : Vector CoefSection 6) : Bool :=
  !(coefs.toList.all (·.written))

/-- A waiting set placed in force (R25). -/
def CoefSection.place (c : CoefSection) : CoefSection :=
  match c.waiting with
  | some k => { inForce := k, waiting := none, written := true }
  | none => c

/-- A waiting set discarded (R25, R28). -/
def CoefSection.discard (c : CoefSection) : CoefSection :=
  { c with waiting := none }

/-- The coefficient table after a slice boundary at a lock level (R25). -/
def coefsAtBoundary (lock : Nat) (coefs : Vector CoefSection 6) : Vector CoefSection 6 :=
  if lock = 0 then coefs.map CoefSection.place else coefs.map CoefSection.discard

/-- Whether weighting A receives a new set at a boundary at this lock level (R25). -/
def affectedA (lock : Nat) (coefs : Vector CoefSection 6) : Bool :=
  lock == 0 && (coefs[0].waiting.isSome || coefs[1].waiting.isSome || coefs[2].waiting.isSome)

/-- Whether weighting C receives a new set at a boundary at this lock level (R25). -/
def affectedC (lock : Nat) (coefs : Vector CoefSection 6) : Bool :=
  lock == 0 && (coefs[3].waiting.isSome || coefs[4].waiting.isSome || coefs[5].waiting.isSome)

/-- Whether an entry's level or peak weighting is an affected weighting (R25). -/
def usesAffected (a c : Bool) (e : ChannelEntry) : Bool :=
  (match e.levelWeighting with | .a => a | .c => c | .z => false)
    || (match e.peakWeighting with | .c => c | .z => false)

end Sys2Proof.Machine
end

