-- ==== Sys2Proof/Machine/Intensity.lean ====
section
/-! DEFINITION. Exact intensities and the levels formed from them (R34, R43; Conventions, Levels and
Intensity). An intensity is a finite sum of `q * 10^(r/1000)`; a level is found by comparing it with the
boundaries between steps of 0.01 dB, in enclosures whose precision grows until the comparison is decided. -/

namespace Sys2Proof.Machine

/-- Add `q * 10^(r/1000)` to an intensity, `r` below 1000, keeping the terms in order and none of them 0. -/
def addTerm (r : Nat) (q : Rat) : Intensity → Intensity
  | [] => if q = 0 then [] else [(r, q)]
  | (r', q') :: rest =>
    if r < r' then (if q = 0 then (r', q') :: rest else (r, q) :: (r', q') :: rest)
    else if r = r' then (if q + q' = 0 then rest else (r', q + q') :: rest)
    else (r', q') :: addTerm r q rest

/-- The exact sum of two intensities (R43). -/
def addIntensity (a b : Intensity) : Intensity :=
  a.foldl (fun acc t => addTerm t.1 t.2 acc) b

/-- An intensity times a number. -/
def scaleIntensity (k : Rat) (a : Intensity) : Intensity :=
  if k = 0 then [] else a.map fun t => (t.1, k * t.2)

/-- The exact difference of two intensities (R105, R107, R136). -/
def subIntensity (a b : Intensity) : Intensity :=
  addIntensity (scaleIntensity (-1) b) a

/-- The exact mean of `n` intensities with the given sum (R78). -/
def meanIntensity (sum : Intensity) (n : Nat) : Intensity :=
  scaleIntensity (1 / (n : Rat)) sum

/-- The intensity `10^(l/1000) * q` of a level `l` in 0.01 dB and a ratio `q` (Conventions, Intensity). -/
def levelIntensity (l : Level) (q : Rat) : Intensity :=
  if q = 0 then [] else [(l % 1000, (10 ^ (l / 1000) : Nat) * q)]

/-! ### Enclosures in fixed point -/

/-- The greatest whole number whose 2000th power is at most `10 * 2^(2000 p)`, found bit by bit from `acc`:
the fixed-point value, rounded down, of `10^(1/2000)` at `p` bits. -/
def rootBits (p : Nat) : Nat → Nat → Nat
  | 0, acc => acc
  | k + 1, acc =>
    let t := acc + 2 ^ k
    rootBits p k (if t ^ 2000 ≤ 10 * 2 ^ (2000 * p) then t else acc)

/-- `10^(1/2000)` at 256 bits, rounded down (checked in Laws/Intensity.lean). -/
def root256 : Nat :=
  115925476575789266629971247887516010220087218369938896992226973846969372399420

/-- `10^(1/2000)` at `p` bits, rounded down. -/
def rootFloor (p : Nat) : Nat :=
  if p = 256 then root256 else rootBits p p (2 ^ p)

/-- The product of two enclosures of positive numbers at `p` bits. -/
def mulBounds (p : Nat) (a b : Nat × Nat) : Nat × Nat :=
  (a.1 * b.1 / 2 ^ p, a.2 * b.2 / 2 ^ p + 1)

/-- The enclosure `acc * base^e`, by squaring; `fuel` bounds the bits of `e`. -/
def powBounds (p : Nat) : Nat → Nat → Nat × Nat → Nat × Nat → Nat × Nat
  | 0, _, _, acc => acc
  | fuel + 1, e, base, acc =>
    powBounds p fuel (e / 2) (mulBounds p base base) (if e % 2 = 1 then mulBounds p acc base else acc)

/-- An enclosure at `p` bits of `10^(e/2000)`. -/
def tenPower (p root e : Nat) : Nat × Nat :=
  let b := powBounds p 11 (e % 2000) (root, root + 1) (2 ^ p, 2 ^ p)
  (b.1 * 10 ^ (e / 2000), b.2 * 10 ^ (e / 2000))

/-- An enclosure at `p` bits of an intensity. -/
def intensityBounds (p root : Nat) (a : Intensity) : Int × Int :=
  a.foldl (fun acc t =>
    let b := tenPower p root (2 * t.1)
    let n := t.2.num
    let d : Int := t.2.den
    if 0 ≤ n then (acc.1 + n * b.1 / d, acc.2 + n * b.2 / d + 1)
    else (acc.1 + n * b.2 / d, acc.2 + n * b.1 / d + 1)) (0, 0)

/-- Whether an intensity lies above `10^((2c-1)/2000)`, the boundary below the level `c`, if `p` bits decide. -/
def compareAt (p : Nat) (a : Intensity) (c : Nat) : Option Bool :=
  let root := rootFloor p
  let v := intensityBounds p root a
  let t := tenPower p root (2 * c + 1999)
  if (t.2 : Int) < 10 * v.1 then some true
  else if 10 * v.2 < (t.1 : Int) then some false
  else none

/-- The comparison at 256 bits, then at twice as many, up to `fuel` times. -/
def exceedsFrom : Nat → Nat → Intensity → Nat → Bool
  | 0, _, _, _ => true
  | fuel + 1, p, a, c =>
    match compareAt p a c with
    | some b => b
    | none => exceedsFrom fuel (2 * p) a c

/-- How often the precision may double before every comparison of this intensity is decided: an intensity is an
algebraic number of degree at most 2000, so it differs from a boundary by more than the bound its coefficients
give (log 5). -/
def doublings (a : Intensity) : Nat :=
  2 + Nat.log2 (2000 * (64 + (a.map fun t => 20 + Nat.log2 (t.2.num.natAbs + 1) + Nat.log2 t.2.den).sum))

/-- Whether an intensity lies above the boundary below the level `c`. -/
def exceeds (a : Intensity) (c : Nat) : Bool :=
  exceedsFrom (doublings a) 256 a c

/-- The greatest level from `lo` whose lower boundary the intensity exceeds, below `hi`, by halving. -/
def levelSearch (a : Intensity) : Nat → Nat → Nat → Nat
  | 0, lo, _ => lo
  | fuel + 1, lo, hi =>
    let m := (lo + hi) / 2
    if exceeds a m then levelSearch a fuel m hi else levelSearch a fuel lo m

/-- The level of an intensity through R34: rounded once to the nearest 0.01 dB, clamped to 0.00 with the flag
"underrange" (second part) when it rounds below 0.00, and to 199.99. Intensity 0 has no logarithm and gives
0.00 flagged, as R35 says of a slice (log 6). -/
def levelOf (a : Intensity) : Level × Bool :=
  if exceeds a 0 then (levelSearch a 15 0 20000, false) else (0, true)

end Sys2Proof.Machine
end

