-- ==== Sys2Proof/Machine/Slices.lean ====
section
/-! DEFINITION. The Slice Integrator: taking a sample, closing a slice into its record, the signal class and the
channel second (chapter 03). -/

namespace Sys2Proof.Machine

/-- The slice that opens at a boundary (R29): its marks come from the position the Time Base hands (R31, R42, R63). -/
def Slice.opening (takenIn : ChannelState) (holdOver discarded : Bool) : Slice where
  n := 0
  energy := 0
  peak := 0
  clipCount := 0
  rawMin := none
  rawMax := none
  saturated := false
  holdOver := holdOver
  discarded := discarded
  takenIn := takenIn

/-- The two full-scale codes (Conventions, Samples). -/
def isFullScale (x : Int) : Bool := x == -8388608 || x == 8388607

/-- The slice in progress takes the raw sample `x`, the level output `w` and the peak output `p` (R30). -/
def Slice.take (sl : Slice) (x w p : Int) (saturated : Bool) : Slice :=
  { sl with
    n := sl.n + 1
    energy := sl.energy + w.natAbs ^ 2
    peak := max sl.peak p.natAbs
    clipCount := if isFullScale x then sl.clipCount + 1 else sl.clipCount
    rawMin := some (match sl.rawMin with | some m => min m x | none => x)
    rawMax := some (match sl.rawMax with | some m => max m x | none => x)
    saturated := sl.saturated || saturated }

/-- A channel that is not OFF takes a delivered sample: both paths step and the slice in progress takes the outputs
(R1, R16, R30). A channel without a slice in progress is OFF and takes none. -/
def Channel.takeSample (coefs : Vector CoefSection 6) (e : ChannelEntry) (x : Sample) (ch : Channel) : Channel :=
  match ch.slice with
  | none => ch
  | some sl =>
    let l := levelPathStep coefs e.levelWeighting ch.levelPath (pathInput x)
    let p := peakPathStep coefs e.peakWeighting ch.peakPath (pathInput x)
    { ch with levelPath := l.1, peakPath := p.1, slice := some (sl.take x.toInt l.2.1 p.2.1 (l.2.2 || p.2.2)) }

/-- Whether a slice has data: at least 4,500 samples and the hold-over mark clear (R33). -/
def Slice.hasData (sl : Slice) : Bool := 4500 ≤ sl.n && !sl.holdOver

/-- The ratio E / (N * FS^2) of a slice, with FS = 2^31 (R35). -/
def Slice.meanSquare (sl : Slice) : Rat := (sl.energy : Rat) / ((sl.n * 2 ^ 62 : Nat) : Rat)

/-- The slice level and peak level of a slice that has data, under sensitivity `s` (R35, R36). -/
def Slice.levels (sl : Slice) (s : Level) : SliceLevels :=
  let i := levelIntensity s sl.meanSquare
  let l := levelOf i
  let p := levelOf (levelIntensity s (((sl.peak ^ 2 : Nat) : Rat) / ((2 ^ 62 : Nat) : Rat)))
  { intensity := i, lt := l.1, ltUnder := l.2, lpk := p.1, lpkUnder := p.2 }

/-- The crest, from the two rounded levels (R37). -/
def SliceLevels.crest (l : SliceLevels) : Int := (l.lpk : Int) - l.lt

/-- The raw span, or 0 without samples (R38). -/
def Slice.span (sl : Slice) : Int := sl.rawMax.getD 0 - sl.rawMin.getD 0

/-- The signal class of a slice under an absent threshold: the first row of R38 that applies. -/
def Slice.signal (sl : Slice) (threshold : Nat) : SignalClass :=
  if sl.n = 0 then .empty
  else if sl.span < threshold then .silent
  else if sl.hasData then .present
  else .sparse

/-- The overload flag of a slice: the clip count reaches the overload count, or a section saturated (R37). -/
def Slice.overloaded (sl : Slice) (overloadCount : Nat) : Bool :=
  decide (overloadCount ≤ sl.clipCount) || sl.saturated

/-- A slice closes into its record, with the settings in force during it (R32). -/
def Slice.close (sl : Slice) (second index : Nat) (e : ChannelEntry) : SliceRecord where
  second := second
  index := index
  takenIn := sl.takenIn
  n := sl.n
  levels := if sl.hasData then some (sl.levels e.sensitivity) else none
  overload := sl.overloaded e.overloadCount
  clipCount := sl.clipCount
  rawMin := sl.rawMin
  rawMax := sl.rawMax
  signal := sl.signal e.absentThreshold
  holdOver := sl.holdOver
  discarded := sl.discarded

/-- Whether a record has data (R33). -/
def SliceRecord.hasData (r : SliceRecord) : Bool := r.levels.isSome

/-- The empty channel second in formation (R40). -/
def SecondForming.empty : SecondForming where
  qualifying := 0
  sum := []
  overload := false
  records := 0
  discardedSlices := 0

/-- The intensity a record brings to the channel second: only a record taken in LIVE, with data and without the
discarded mark qualifies (R40). -/
def SliceRecord.qualifying (r : SliceRecord) : Option Intensity :=
  if r.takenIn = .live ∧ r.discarded = false then r.levels.map (·.intensity) else none

/-- The channel second in formation takes a record (R40). -/
def SecondForming.take (f : SecondForming) (r : SliceRecord) : SecondForming :=
  let f := { f with records := f.records + 1, discardedSlices := f.discardedSlices + r.discarded.toNat }
  match r.qualifying with
  | some i =>
    { f with qualifying := f.qualifying + 1, sum := addIntensity f.sum i, overload := f.overload || r.overload }
  | none => f

/-- The channel second formed at a second boundary (R40): a level from 4 to 8 qualifying records, none from fewer. It is
discarded when all its records are: the eight of the second, or those taken since a RESTART or an emptying inside it,
whose marks are the second's (R42, R73; log 42). -/
def SecondForming.close (f : SecondForming) (second : Nat) : ChannelSecond :=
  let l := levelOf (meanIntensity f.sum f.qualifying)
  let has := decide (4 ≤ f.qualifying)
  { second, qualifying := f.qualifying
    level := if has then some l.1 else none
    under := has && l.2
    overload := has && f.overload
    discarded := decide (0 < f.records) && decide (f.discardedSlices = f.records) }

/-- The ring entry of a channel second (R84): VALID with its level unless it has none or is discarded. -/
def ChannelSecond.entry (c : ChannelSecond) : RingEntry where
  second := c.second
  level := if c.discarded then none else c.level
  overload := c.overload

/-- Enter a record at the end of a ring of 900, removing the oldest when it is full (R82, R84). -/
def enterRing {α : Type} (x : α) (ring : List α) : List α :=
  (if 900 ≤ ring.length then ring.drop (ring.length - 899) else ring) ++ [x]

end Sys2Proof.Machine
end

