-- ==== Sys2Proof/Machine/Condition.lean ====
section
/-! DEFINITION. The Channel Condition Monitor: the counts, the decision at a slice boundary and its effects on the
channel (chapter 04), with the account the Check Scheduler keeps of each channel (R140 to R142). -/

namespace Sys2Proof.Machine

/-- The row of R48 that gives a channel its state for the opening slice. -/
inductive Row where
  | disabled | enabled | remapped | coefChange | checkEnd | restore | settled | absent | restored | checkStart
  | restart | kept
  deriving DecidableEq, Repr

/-- Whether an activation changes the fields of R12 of a channel. -/
def calibrationDiffers (old new : ChannelEntry) : Bool :=
  decide (old.sourceSlot ≠ new.sourceSlot) || decide (old.levelWeighting ≠ new.levelWeighting)
    || decide (old.peakWeighting ≠ new.peakWeighting) || decide (old.sensitivity ≠ new.sensitivity)

/-- Rows 1 to 4 of R48: what an activation or a coefficient change does to a channel (R11, R12, R25). Row 4 spares
a channel in OFF. -/
def disturbance (old new : ChannelEntry) (affected : Bool) (state : ChannelState) : Option Row :=
  if old.enabled && !new.enabled then some .disabled
  else if !old.enabled && new.enabled then some .enabled
  else if old.enabled && new.enabled && calibrationDiffers old new then some .remapped
  else if new.enabled && affected && decide (state ≠ .off) then some .coefChange
  else none

/-- The counts brought up to date from the closing slice (R50, R51, R52, R56). -/
def Condition.count (c : Condition) (r : SliceRecord) : Condition :=
  match r.takenIn with
  | .settling => if r.hasData then { c with settleCount := min 8 (c.settleCount + 1) } else c
  | .live =>
    let silent := match r.signal with
      | .silent => min 40 (c.silentCount + 1)
      | .present | .sparse => 0
      | .empty => c.silentCount
    { c with
      silentCount := silent
      overloadedLive := if r.overload then min 65535 (c.overloadedLive + 1) else c.overloadedLive
      lastOverload := if r.overload then some r.second else c.lastOverload }
  | .absent =>
    let restore := match r.signal with
      | .present => min 8 (c.restoreCount + 1)
      | .silent => 0
      | .sparse | .empty => c.restoreCount
    { c with restoreCount := restore }
  | .checking | .off => c

/-- The first row of R48 that applies, from the counts as brought up to date, the state the closing slice was taken
in (`none` for a channel that opened none) and the absent integration in force during it. `restart` says that row 11
holds: a RESTART has been taken and the active map enables the channel. A silent count kept from before an absent threshold
of 0 still reaches the integration at an EMPTY slice, the model's choice (R51; log 47). -/
def decideRow (disturbed : Option Row) (takenIn : Option ChannelState) (integration : Nat) (restart : Bool)
    (c : Condition) : Row :=
  match disturbed with
  | some r => r
  | none =>
    if takenIn = some .checking ∧ c.request = .endHeld then .checkEnd
    else if c.restoreHeld = true ∧ (takenIn = some .live ∨ takenIn = some .settling) then .restore
    else if takenIn = some .settling ∧ 8 ≤ c.settleCount then .settled
    else if takenIn = some .live ∧ integration ≤ c.silentCount then .absent
    else if takenIn = some .absent ∧ 8 ≤ c.restoreCount then .restored
    else if takenIn = some .live ∧ c.request = .startHeld then .checkStart
    else if restart then .restart
    else .kept

/-- The state a row gives; `kept` keeps it (R48). -/
def Row.state (r : Row) (s : ChannelState) : ChannelState :=
  match r with
  | .disabled => .off
  | .enabled | .remapped | .coefChange | .checkEnd | .restore | .restart => .settling
  | .settled | .restored => .live
  | .absent => .absent
  | .checkStart => .checking
  | .kept => s

/-- A held check request at the boundary (R48, R53, R54): a start is decided either way; an end is spent when the
closing slice was taken in another state than CHECKING, or by row 5. -/
def spentRequest (r : Row) (takenIn : Option ChannelState) : CheckRequest → CheckRequest
  | .endHeld => if takenIn = some .checking ∧ r ≠ .checkEnd then .endHeld else .none
  | _ => .none

/-- The condition record after the decision (R47, R48, R49): the state, the position of its first slice, the count of
the new state set to 0, the held requests spent. Rows 3 and 4 clear the silent and restore counts (R12, R25). A row that
gives the state the channel already has, SETTLING or OFF, sets the position too, the model's choice (log 31). -/
def Condition.apply (c : Condition) (r : Row) (takenIn : Option ChannelState) (position : Nat × Nat) : Condition :=
  let c := { c with restoreHeld := false, request := spentRequest r takenIn c.request }
  match r with
  | .kept => c
  | .disabled =>
    { c with state := .off, enteredAt := some position, settleCount := 0, silentCount := 0, restoreCount := 0,
             request := .none, overloadedLive := 0, lastOverload := none }
  | .remapped | .coefChange =>
    { c with state := .settling, enteredAt := some position, settleCount := 0, silentCount := 0, restoreCount := 0 }
  | .enabled | .checkEnd | .restore | .restart =>
    { c with state := .settling, enteredAt := some position, settleCount := 0 }
  | .settled | .restored => { c with state := .live, enteredAt := some position, silentCount := 0 }
  | .absent => { c with state := .absent, enteredAt := some position, restoreCount := 0 }
  | .checkStart => { c with state := .checking, enteredAt := some position }

/-- The suspect field after a judged result (R57). -/
def suspectAfter (code : CheckCode) (s : Suspect) : Suspect :=
  match code with
  | .noResponse => .noResponse
  | .low => .low
  | .high => .high
  | .pass => .none
  | .incomplete | .overload | .ambient => s

/-- Whether a row is the work of a map activation (R11, R12). -/
def Row.byActivation : Row → Bool
  | .disabled | .enabled | .remapped => true
  | _ => false

/-- Whether a row clears the channel's second ring (R11, R12, R25, R85). -/
def Row.clearsRing : Row → Bool
  | .disabled | .enabled | .remapped | .coefChange => true
  | _ => false

/-- Whether a row empties the channel second in formation, so that none is formed at its boundary; a channel that enters OFF
forms its last one first (R40, R44, R85; log 46). -/
def Row.emptiesSecond : Row → Bool
  | .enabled | .remapped | .coefChange => true
  | _ => false

/-- Whether a row brings the channel into SETTLING (R22). -/
def Row.settles : Row → Bool
  | .enabled | .remapped | .coefChange | .checkEnd | .restore | .restart => true
  | _ => false

/-- Whether a row quenches the channel, so that its hold value is taken (R161). -/
def Row.quenches : Row → Bool
  | .absent | .checkStart => true
  | _ => false

/-- The channel second in formation after a row: emptied where the ring is cleared, opened on leaving OFF, gone on
entering OFF, kept otherwise (R40, R46). A channel that leaves OFF inside a second, after a RESTART, opens one for the rest of
that second, the model's choice (log 48). -/
def formingAfter (r : Row) (f : Option SecondForming) : Option SecondForming :=
  match r with
  | .disabled => none
  | .enabled | .restart | .remapped | .coefChange => some SecondForming.empty
  | _ => f

/-- The effects of a row on the channel (R11, R12, R22, R25, R40, R44, R46, R85, R161), and its opening slice: none in
OFF, else one taken in the new state (R29). `sent` is the sample last sent in the channel's slot. Entry to OFF resets the
quiet run in the check account, where its meeting with the last channel second is decided (R142; log 46). -/
def Channel.apply (ch : Channel) (r : Row) (takenIn : Option ChannelState) (position : Nat × Nat)
    (holdOver discarded : Bool) (sent : Sample) : Channel :=
  let cond := ch.cond.apply r takenIn position
  { ch with
    levelPath := if r.settles then PathState.zero else ch.levelPath
    peakPath := if r.settles then PathState.zero else ch.peakPath
    slice := if cond.state = .off then none else some (Slice.opening cond.state holdOver discarded)
    forming := formingAfter r ch.forming
    latestSlice := if r = .disabled then none else ch.latestSlice
    latestSecond := if r.clearsRing then none else ch.latestSecond
    cond := cond
    ring := if r.clearsRing then [] else ch.ring
    account := if r.emptiesSecond then { ch.account with quiet := 0 } else ch.account
    holdValue := if r.quenches then sent else ch.holdValue }

/-- A channel takes the record of its closing slice (R39, R40, R44, R50 to R52, R56). -/
def Channel.takeRecord (ch : Channel) (r : SliceRecord) : Channel :=
  { ch with
    latestSlice := some r
    forming := ch.forming.map (·.take r)
    cond := ch.cond.count r }

/-! ### The check account -/

/-- One check more is owed: the balance goes up by 1 unless it stands at +6, and a rise from 5 to 6 is overdue
(R140; second part). -/
def raiseBalance (b : Int) : Int × Bool :=
  if b < 6 then (b + 1, b == 5) else (b, false)

/-- A counted result: the balance goes down by 1 unless it stands at -3 (R140). -/
def lowerBalance (b : Int) : Int :=
  if -3 < b then b - 1 else b

/-- Whether a channel's interval timer runs (R141). -/
def timerRuns (mode : Mode) (e : ChannelEntry) : Bool :=
  decide (mode = .run) && e.enabled && e.autoCheck

/-- One second boundary of the interval timer: the account and whether CHECK OVERDUE is raised (R140, R141). -/
def CheckAccount.tickTimer (a : CheckAccount) (e : ChannelEntry) (runs : Bool) : CheckAccount × Bool :=
  if runs then
    if e.checkInterval * 60 ≤ a.timer + 1 then
      let b := raiseBalance a.balance
      ({ a with timer := 0, balance := b.1 }, b.2)
    else ({ a with timer := a.timer + 1 }, false)
  else (a, false)

/-- The retry delay at a second boundary (R141). -/
def CheckAccount.tickRetry (a : CheckAccount) : CheckAccount :=
  { a with retry := a.retry - 1 }

/-- The quiet run at a channel second, against a quiet level (R142). -/
def CheckAccount.quietSecond (a : CheckAccount) (quietLevel : Level) (c : ChannelSecond) : CheckAccount :=
  match c.level with
  | some l => if l < quietLevel then { a with quiet := min 60 (a.quiet + 1) } else { a with quiet := 0 }
  | none => { a with quiet := 0 }

/-- Whether an activation starts a channel's timer and balance afresh: newly enabled with auto check, or auto check
turned from no to yes (R11, R13, R140, R141). -/
def checkStartsAfresh (old new : ChannelEntry) : Bool :=
  new.enabled && new.autoCheck && (!old.enabled || !old.autoCheck)

/-- The resets an activation makes in a channel's check account (R11, R13, R140 to R142): on entry to OFF, the quiet run. -/
def CheckAccount.activate (a : CheckAccount) (old new : ChannelEntry) : CheckAccount :=
  let fresh := checkStartsAfresh old new
  let both := old.enabled && new.enabled
  { a with
    balance := if fresh then 0 else a.balance
    timer := if fresh || (both && decide (old.checkInterval ≠ new.checkInterval)) then 0 else a.timer
    quiet := if (both && decide (old.quietLevel ≠ new.quietLevel)) || (old.enabled && !new.enabled) then 0
      else a.quiet }

/-- The effects of a result on the checked channel's account (R137, R140, R141): the record, the balance of a counted
result, the retry delay of an uncounted one. -/
def CheckAccount.result (a : CheckAccount) (r : CheckRecord) : CheckAccount :=
  match r.code with
  | .pass | .low | .high | .noResponse => { a with record := some r, balance := lowerBalance a.balance }
  | .incomplete | .overload | .ambient => { a with record := some r, retry := 60 }

end Sys2Proof.Machine
end

