-- ==== Sys2Proof/Config.lean ====
section
/-! DEFINITION. What the manual leaves free: the order in which things that meet at one instant are
taken (log 10). The constants here have no body: nothing can be proved of their values. -/

namespace Sys2Proof

/-- A point at which the manual allows two orders. Each names what happens when the choice is "yes". -/
inductive OrderPoint where
  /-- R106, R129: the close of the group's second comes before the reach of the `k`-th position handed, where it has not
  come before an earlier one. -/
  | closeBeforeReach (g : Grp) (k : Nat)
  /-- R87: a background request at a window close comes before the channel ring takes its entry or is emptied. -/
  | requestBeforeEntry (g : Grp)
  /-- R14, R89: a window close at an activation boundary comes before the activation. Not drawn for a window that the
  activation truncates by disabling its group: that close follows the activation. -/
  | closeBeforeActivation (g : Grp)
  /-- R117: the arbiter's selection comes before the group slice moves the hold count. -/
  | selectionBeforeSlice (g : Grp)
  /-- R140, R141: a check result comes before the boundary's timer expiry and retry decrement. -/
  | resultBeforeTimers (c : Chan)
  /-- R141, R142: an activation's reset comes before the boundary's timer count and channel second. -/
  | resetBeforeCount (c : Chan)
  /-- R13, R137: an activation's reset of a check account comes before the check result of the same boundary. -/
  | resetBeforeResult (c : Chan)
  deriving DecidableEq, Repr

/-- One resolution of every order that is open at one instant: each two-way choice, and the keys by which
records handed over at the same instant are interleaved (R150, R155). -/
structure Order where
  /-- the answer at each two-way point -/
  yes : OrderPoint → Bool
  /-- which of the waiting chains hands over next, one key a record -/
  keys : List Nat
  deriving Inhabited

/-- The order taken at the n-th instant at which orders are open: free (R87, R106, R117, R129, R140, R141,
R142, R150, R155; log 10). -/
opaque Config.order : Nat → Order

end Sys2Proof
end

