-- ==== Sys2Proof/Machine/Events.lean ====
section
/-! DEFINITION. What a step hands to the Result Store and the Event Queue, and the order in which records handed at one
instant are taken (R150, R155; log 10, 11). -/

namespace Sys2Proof.Machine

/-- An event of a kind with nothing beside its running second and subject (R153). -/
def Event.plain (second : Nat) (kind : EventKind) (subject : Subject) : Event where
  second := second
  kind := kind
  subject := subject
  level := none
  limit := none
  period := none
  value := none
  discarded := false
  manual := false
  startUp := false
  detail := none

/-- A record handed over in a step: an event, a window result (its sequence assigned by the store), or a WINDOW
EXCEEDED, whose detail is the sequence the store gave the result of the same group (R154). -/
inductive Emission where
  | event (e : Event)
  | result (r : WindowResult)
  | exceeded (g : Grp) (e : Event)
  deriving DecidableEq, Repr

/-- Records handed over in one step: each chain keeps its own order, and the chains may interleave (R150, R155). -/
abbrev Chains := List (List Emission)

/-- Take the head of the `k`-th of the chains, counted from 0, and leave the rest of that chain in its place. -/
def takeChain {α : Type} : Nat → List (List α) → Option α × List (List α)
  | _, [] => (none, [])
  | _, [] :: rest => (none, rest)
  | 0, (x :: xs) :: rest => (some x, if xs.isEmpty then rest else xs :: rest)
  | k + 1, c :: rest =>
    let t := takeChain k rest
    (t.1, c :: t.2)

/-- Interleave chains: at each turn the next key, taken modulo the number of chains, names the chain that hands over
its head; one chain needs no key. -/
def interleave {α : Type} : Nat → List Nat → List (List α) → List α
  | 0, _, _ => []
  | _ + 1, _, [] => []
  | _ + 1, _, [c] => c
  | fuel + 1, keys, chains =>
    let t := takeChain (keys.headD 0 % chains.length) chains
    t.1.toList ++ interleave fuel keys.tail t.2

/-- The records of a step in the order they are handed over. -/
def handOver (o : Order) (chains : Chains) : List Emission :=
  let live := chains.filter (!·.isEmpty)
  interleave (live.map List.length).sum o.keys live

/-- One of two outcomes of a two-way order; where both agree the order does not matter. -/
def either {α : Type} [DecidableEq α] (yes : Bool) (whenYes whenNo : α) : α :=
  if whenYes = whenNo then whenYes else if yes then whenYes else whenNo

end Sys2Proof.Machine
end

