-- ==== Sys2Proof/Machine/Router.lean ====
section
/-! DEFINITION. The Slot Router: the banks, commit validation, activation and what it changes for channels and groups
(chapter 01). -/

namespace Sys2Proof.Machine

/-- The map of a bank (R4). -/
def Router.bank (r : Router) : Bank → ChannelMap
  | .a => r.bankA
  | .b => r.bankB

/-- Write a bank (R4). -/
def Router.setBank (r : Router) (k : Bank) (m : ChannelMap) : Router :=
  match k with
  | .a => { r with bankA := m }
  | .b => { r with bankB := m }

/-- Write one channel entry of a map (R5). -/
def ChannelMap.setChannel (m : ChannelMap) (c : Chan) (e : ChannelEntry) : ChannelMap :=
  { m with channels := m.channels.set c e }

/-- Write one group entry of a map (R6). -/
def ChannelMap.setGroup (m : ChannelMap) (g : Grp) (e : GroupEntry) : ChannelMap :=
  { m with groups := m.groups.set g e }

/-- The locked fields of a channel entry (R2). -/
def ChannelEntry.lockedFields (e : ChannelEntry) : LockedFields where
  sourceSlot := e.sourceSlot
  levelWeighting := e.levelWeighting
  peakWeighting := e.peakWeighting
  sensitivity := e.sensitivity
  referenceResponse := e.referenceResponse

/-- The locked fields of the sixteen channels of a map (R187). -/
def ChannelMap.lockedFields (m : ChannelMap) : Vector LockedFields 16 :=
  m.channels.map ChannelEntry.lockedFields

/-- Test 1 of R8 on one channel. -/
def channelFault (m : ChannelMap) (c : Chan) : Option TableFault :=
  let e := m.channels[c]
  if !e.enabled then none
  else match e.role, e.group with
    | .member, none => some (.memberNoGroup c)
    | .member, some _ => none
    | .reference, none | .monitor, none => none
    | .reference, some _ | .monitor, some _ => some (.groupNotMember c)

/-- Whether a map holds a channel as an enabled reference (R8, test 2). -/
def isReference (m : ChannelMap) (c : Chan) : Bool :=
  m.channels[c].enabled && decide (m.channels[c].role = .reference)

/-- Test 2 of R8 on one group. -/
def groupFault (m : ChannelMap) (g : Grp) : Option TableFault :=
  let e := m.groups[g]
  match e.background with
  | some c => if e.enabled && !isReference m c then some (.badBackground g) else none
  | none => none

/-- The first channel whose locked fields differ from the locked values (R8 test 3, R10). -/
def firstDiffering (locked : Vector LockedFields 16) (m : ChannelMap) : Option Chan :=
  (List.finRange 16).find? fun c => decide (m.channels[c].lockedFields ≠ locked[c])

/-- Tests 1 and 2 of R8: the first failure, if any. -/
def tableFault (m : ChannelMap) : Option TableFault :=
  match (List.finRange 16).findSome? (channelFault m) with
  | some f => some f
  | none => (List.finRange 8).findSome? (groupFault m)

/-- The validation of R8 at a lock level against the locked values: the first failure, if any. -/
def validateMap (lock : Nat) (locked : Option (Vector LockedFields 16)) (m : ChannelMap) : Option TableFault :=
  match tableFault m with
  | some f => some f
  | none =>
    if lock = 0 then none
    else (locked.bind fun l => firstDiffering l m).map TableFault.lockedField

/-- The pending map at a second boundary (R9, R10): activated or discarded by the lock level then in force. -/
def Router.activate (r : Router) (lock : Nat) (locked : Option (Vector LockedFields 16)) (second : Nat) :
    Router × Option Event :=
  match r.pendingMap with
  | none => (r, none)
  | some (m, k) =>
    let changed := { Event.plain second .mapChanged .none with value := some (.bank k) }
    let kept := { r with pendingMap := none }
    if 2 ≤ lock then (kept, some { changed with discarded := true })
    else match (if lock = 1 then locked.bind fun l => firstDiffering l m else none) with
      | some c => (kept, some { changed with discarded := true, subject := .channel c })
      | none => ({ kept with active := m }, some changed)

/-- The group a channel entry contributes to: a member's group (R2). -/
def ChannelEntry.memberOf (e : ChannelEntry) : Option Grp :=
  if e.role = .member then e.group else none

/-- Whether an activation changes the membership of a group through one channel: its enabled field changes while an
entry names the group as member, or its role or group changes while enabled in both (R11, R13). -/
def membershipChanges (old new : ChannelEntry) (g : Grp) : Bool :=
  (decide (old.enabled ≠ new.enabled)
      || (old.enabled && new.enabled && (decide (old.role ≠ new.role) || decide (old.group ≠ new.group))))
    && (decide (old.memberOf = some g) || decide (new.memberOf = some g))

/-- The set of the channels for which `p` holds. -/
def chanSetOf (p : Chan → Bool) : ChanSet :=
  BitVec.ofNat 16 ((List.finRange 16).foldl (fun acc c => if p c then acc + 2 ^ c.val else acc) 0)

/-- The members of an enabled group in a map, among the channels for which `opens` holds (R76). -/
def membersOf (m : ChannelMap) (opens : Chan → Bool) (g : Grp) : ChanSet :=
  chanSetOf fun c => m.groups[g].enabled && decide (m.channels[c].memberOf = some g) && opens c

/-- The channels of a set, in channel order (R170). -/
def channelsOf (s : ChanSet) : List Chan :=
  (List.finRange 16).filter fun c => s.getLsbD c

end Sys2Proof.Machine
end

