-- ==== Sys2Proof/Machine/Checks.lean ====
section
/-! DEFINITION. The Check Engine and the arbiter: the course of a check, its judgment, its early ends, and the choice of
the next channel (chapter 09). -/

namespace Sys2Proof.Machine

/-! ### The drive and the record -/

/-- A hub cell: to node 4, write flag set, tag 0, one payload byte carrying the slot (R132, R166, R172). -/
def hubCell (code : Byte) (slot : Fin 64) : Cell :=
  let body : Cell := [0x84, code, 0, 1, BitVec.ofNat 8 slot.val]
  body ++ [crc8 body]

/-- DRIVE OFF, handed where the drive is on, with the slot recorded when it went on (R132). -/
def CheckEngine.driveOff (k : CheckEngine) : List Cell :=
  match k.drive with
  | some slot => [hubCell driveOffCode slot]
  | none => []

/-- The stage IDLE, with no channel under check and the drive off; the sweep and its summary stand (R131, R134). -/
def CheckEngine.toIdle (k : CheckEngine) : CheckEngine :=
  { k with
    stage := .idle, channel := none, companions := 0, phaseSlices := 0, preSum := [], measureSum := []
    preOverload := false, measureOverload := false, drive := none, decided := none }

/-- Whether a check is in progress: the status bit "check busy" (R131). -/
def CheckEngine.busy (k : CheckEngine) : Bool := decide (k.stage ≠ .idle)

/-- "Sweep pending": the sweep set is not empty, or a manual check is not IDLE (R131). After a CHECK ABORT of an automatic
check it is no while the stage is still ENDING, the model's choice (R145; log 49). -/
def CheckEngine.sweepPending (k : CheckEngine) : Bool :=
  decide (k.sweep ≠ 0) || (k.busy && decide (k.kind = .manual))

/-- The checked channel and its companions (R133). -/
def CheckEngine.involved (k : CheckEngine) (c : Chan) : Bool :=
  decide (k.channel = some c) || k.companions.getLsbD c

/-- The other enabled channels of a map that share a channel's source slot (R133). -/
def sharers (m : ChannelMap) (c : Chan) : ChanSet :=
  chanSetOf fun d => decide (d ≠ c) && m.channels[d].enabled
    && decide (m.channels[d].sourceSlot = m.channels[c].sourceSlot)

/-! ### Results -/

/-- An INCOMPLETE result (R133, R135, R138, R139, R143). -/
def CheckRecord.incomplete (reason : CheckReason) (second : Nat) (kind : CheckKind) : CheckRecord where
  code := .incomplete
  reason := some reason
  response := none
  deviation := none
  lpre := none
  lchk := none
  second := second
  kind := kind

/-- The first row of R136 that applies, from the two levels, the response and the deviation. -/
def judgedCode (overload : Bool) (lpre lchk reference : Level) (tolerance : Nat) (deviation : Int) : CheckCode :=
  if overload then .overload
  else if (reference : Int) - 1000 ≤ lpre then .ambient
  else if (lchk : Int) - lpre < 1000 then .noResponse
  else if deviation < -(tolerance : Int) then .low
  else if (tolerance : Int) < deviation then .high
  else .pass

/-- Whether a result carries R and the deviation (R136). -/
def CheckCode.measured : CheckCode → Bool
  | .low | .high | .pass => true
  | _ => false

/-- The judgment of a check at the close of its 18th slice, under the checked channel's entry (R136). -/
def CheckEngine.judge (k : CheckEngine) (e : ChannelEntry) (second : Nat) : CheckRecord :=
  let lpre := (levelOf (meanIntensity k.preSum 8)).1
  let lchk := (levelOf (meanIntensity k.measureSum 8)).1
  let response := (levelOf (subIntensity (levelIntensity lchk 1) (levelIntensity lpre 1))).1
  let deviation := (response : Int) - e.referenceResponse
  let code := judgedCode (k.preOverload || k.measureOverload) lpre lchk e.referenceResponse e.tolerance deviation
  { code := code
    reason := none
    response := if code.measured then some response else none
    deviation := if code.measured then some deviation else none
    lpre := some lpre
    lchk := some lchk
    second := second
    kind := k.kind }

/-- CHECK FAULT, raised by NO RESPONSE, LOW and HIGH (R137, R154). -/
def faultEvents (c : Chan) (reference : Level) (r : CheckRecord) : List Emission :=
  let raised (l : Option Level) : List Emission :=
    [.event { Event.plain r.second .checkFault (.channel c) with
      level := l, limit := some reference, value := some (.check r.code), manual := decide (r.kind = .manual) }]
  match r.code with
  | .low | .high => raised r.response
  | .noResponse => raised r.lchk
  | _ => []

/-- A channel leaves a set. -/
def removeChannel (s : ChanSet) (c : Chan) : ChanSet := s &&& ~~~(1#16 <<< c.val)

/-- A PASS, LOW or HIGH result enters the sweep summary (R137, R147). -/
def SweepSummary.enter (m : SweepSummary) (deviation : Int) : SweepSummary :=
  if m.count = 0 then { m with count := 1, minimum := deviation, maximum := deviation }
  else { m with count := m.count + 1, minimum := min m.minimum deviation, maximum := max m.maximum deviation }

/-- What a result does to the sweep: for a manual check the channel leaves it, and a deviation enters the summary
(R137). -/
def CheckEngine.sweepResult (k : CheckEngine) (c : Chan) (r : CheckRecord) : CheckEngine :=
  if r.kind = .manual then
    { k with
      sweep := removeChannel k.sweep c
      summary := match r.deviation with
        | some d => k.summary.enter d
        | none => k.summary }
  else k

/-! ### The course of a check -/

/-- What the engine does at a slice boundary before the states are decided: the engine after it, the hub cells handed,
a decided result, and the channels whose ends are handed or whose starts are withdrawn. -/
structure CheckClose where
  engine : CheckEngine
  cells : List Cell
  decided : Option (Chan × CheckRecord)
  ends : ChanSet
  withdrawn : ChanSet
  deriving DecidableEq, Repr

/-- Nothing happens to the check. -/
def CheckClose.quiet (k : CheckEngine) : CheckClose where
  engine := k
  cells := []
  decided := none
  ends := 0
  withdrawn := 0

/-- A check of channel `c` that ends at a boundary with a result: DRIVE OFF where the drive is on, the ends handed, the
stage IDLE (R134, R135, R139). -/
def CheckClose.ended (k : CheckEngine) (c : Chan) (r : CheckRecord) (ends withdrawn : ChanSet) : CheckClose where
  engine := k.toIdle.sweepResult c r
  cells := k.driveOff
  decided := some (c, r)
  ends := ends
  withdrawn := withdrawn

/-- Whether a boundary's activation or coefficient change ends the check (R139): a channel of the check is disturbed by
rows 1 to 4 of R48, or another channel comes to share the checked slot. -/
def CheckEngine.commitEnds (k : CheckEngine) (c : Chan) (old new : ChannelMap) (disturbed : Chan → Bool) : Bool :=
  let slot := old.channels[c].sourceSlot
  (List.finRange 16).any fun d =>
    (k.involved d && disturbed d)
      || (!k.involved d && new.channels[d].enabled && decide (new.channels[d].sourceSlot = slot)
        && (!old.channels[d].enabled || decide (old.channels[d].sourceSlot ≠ slot)))

/-- One CHECKING slice taken into its phase (R134), with the cells handed at a phase end; `none` when the 18th slice
has closed. `slot` is the checked channel's source slot. -/
def CheckEngine.takePhase (k : CheckEngine) (r : SliceRecord) (slot : Fin 64) : CheckEngine × List Cell × Bool :=
  let n := k.phaseSlices + 1
  let i := (r.levels.map (·.intensity)).getD []
  match k.stage with
  | .pre =>
    let k := { k with phaseSlices := n, preSum := addIntensity k.preSum i, preOverload := k.preOverload || r.overload }
    if 8 ≤ n then
      ({ k with stage := .establish, phaseSlices := 0, drive := some slot }, [hubCell driveOnCode slot], false)
    else (k, [], false)
  | .establish =>
    if 2 ≤ n then ({ k with stage := .measure, phaseSlices := 0 }, [], false)
    else ({ k with phaseSlices := n }, [], false)
  | .measure =>
    ({ k with phaseSlices := n, measureSum := addIntensity k.measureSum i,
              measureOverload := k.measureOverload || r.overload }, [], decide (8 ≤ n))
  | _ => (k, [], false)

/-- Whether a record is a PRE or MEASURE slice without data (R135). -/
def CheckEngine.losesData (k : CheckEngine) (r : SliceRecord) : Bool :=
  (decide (k.stage = .pre) || decide (k.stage = .measure)) && !r.hasData

/-- The channels of a check for which `p` holds. -/
def CheckEngine.involvedSet (k : CheckEngine) (p : Chan → Bool) : ChanSet :=
  chanSetOf fun c => k.involved c && p c

/-- The engine at a slice boundary, before the states of the opening slice are decided (R134, R135, R136, R138, R139).
`record` is the checked channel's closed slice, `old` the map in force during it. Where causes meet, the model settles which
one ends the check (log 24). In STARTING that is the commit: R133 would give a start refused by rows 5 to 9 at the same
boundary the reason "state" and the stage ENDING, and the model takes the reason "commit" and the stage IDLE of R139. In ENDING
a commit decides nothing: R131 has the check still in progress, but its result is decided already, and the model keeps that one
in place of the reason "commit" of R139. -/
def CheckEngine.atBoundary (k : CheckEngine) (record : Chan → Option SliceRecord) (old new : ChannelMap)
    (disturbed : Chan → Bool) (second : Nat) : CheckClose :=
  match k.channel with
  | none => .quiet k
  | some c =>
    let entry := old.channels[c]
    let commit := CheckRecord.incomplete .commit second k.kind
    match k.stage with
    | .idle => .quiet k
    | .starting =>
      if k.commitEnds c old new disturbed then .ended k c commit 0 (k.involvedSet fun _ => true) else .quiet k
    | .ending => .quiet k.toIdle
    | .pre | .establish | .measure =>
      match (record c).filter fun r => decide (r.takenIn = .checking) with
      | none =>
        if k.commitEnds c old new disturbed then .ended k c commit (k.involvedSet fun d => !disturbed d) 0
        else .quiet k
      | some r =>
        if k.losesData r then
          .ended k c (CheckRecord.incomplete .data second k.kind) (k.involvedSet fun _ => true) 0
        else if k.commitEnds c old new disturbed then
          .ended k c commit (k.involvedSet fun d => !disturbed d) 0
        else
          let t := k.takePhase r entry.sourceSlot
          if t.2.2 then .ended t.1 c (t.1.judge entry second) (k.involvedSet fun _ => true) 0
          else { CheckClose.quiet t.1 with cells := t.2.1 }

/-- The engine once the states are decided: a check in STARTING whose starts were all taken enters PRE; with any start
refused it ends INCOMPLETE, reason "state", and the channels that took theirs are handed an end (R133), unless a commit
ended it at this boundary already (R139; log 24). -/
def CheckEngine.resolveStart (k : CheckEngine) (taken : Chan → Bool) (second : Nat) : CheckClose :=
  match k.stage, k.channel with
  | .starting, some c =>
    if (List.finRange 16).all fun d => !k.involved d || taken d then .quiet { k with stage := .pre, phaseSlices := 0 }
    else
      let r := CheckRecord.incomplete .state second k.kind
      { engine := { k with stage := .ending }.sweepResult c r
        cells := []
        decided := some (c, r)
        ends := k.involvedSet taken
        withdrawn := 0 }
  | _, _ => .quiet k

/-- The end of a check between boundaries, by CHECK ABORT or link loss (R138): in STARTING the starts are withdrawn and
the stage becomes IDLE; in PRE, ESTABLISH and MEASURE the ends are held and the stage becomes ENDING. -/
def CheckEngine.endEarly (k : CheckEngine) (reason : CheckReason) (second : Nat) : CheckClose :=
  match k.stage, k.channel with
  | .starting, some c =>
    .ended k c (CheckRecord.incomplete reason second k.kind) 0 (k.involvedSet fun _ => true)
  | .pre, some c | .establish, some c | .measure, some c =>
    let r := CheckRecord.incomplete reason second k.kind
    { engine := { k with stage := .ending, drive := none, decided := some (.incomplete, reason) }.sweepResult c r
      cells := k.driveOff
      decided := some (c, r)
      ends := k.involvedSet fun _ => true
      withdrawn := 0 }
  | _, _ => .quiet k

/-- A channel's held request after ends are handed and starts withdrawn (R53, R54). -/
def requestAfter (ends withdrawn : ChanSet) (c : Chan) (q : CheckRequest) : CheckRequest :=
  if ends.getLsbD c then .endHeld else if withdrawn.getLsbD c then .none else q

/-! ### The arbiter (R143) -/

/-- What the arbiter reads at a slice boundary. -/
structure ArbiterView where
  run : Bool
  locked : Bool
  map : ChannelMap
  /-- the channel takes the opening slice in LIVE -/
  live : Vector Bool 16
  accounts : Vector CheckAccount 16
  /-- the group is in impulse hold, or its alert is ON -/
  deferring : Vector Bool 8
  deriving DecidableEq, Repr

/-- Whether a channel is ready: it and every enabled sharer of its slot are LIVE for the opening slice. -/
def ArbiterView.ready (v : ArbiterView) (c : Chan) : Bool :=
  v.live[c] && (List.finRange 16).all fun d => !(sharers v.map c).getLsbD d || v.live[d]

/-- Whether a channel may be selected in the automatic classes, its balance apart. -/
def ArbiterView.automatic (v : ArbiterView) (c : Chan) : Bool :=
  v.run && v.map.channels[c].autoCheck && decide (v.accounts[c].retry = 0) && v.ready c

/-- Whether a due check of a channel is deferred by its group. -/
def ArbiterView.deferred (v : ArbiterView) (c : Chan) : Bool :=
  match v.map.channels[c].memberOf with
  | some g => v.deferring[g]
  | none => false

/-- The forced candidate: the lowest channel at +6. -/
def ArbiterView.forced (v : ArbiterView) : Option Chan :=
  (List.finRange 16).find? fun c => v.automatic c && decide (v.accounts[c].balance = 6)

/-- Whether a channel is a due candidate. -/
def ArbiterView.dueCandidate (v : ArbiterView) (c : Chan) : Bool :=
  v.automatic c && decide (1 ≤ v.accounts[c].balance) && decide (v.accounts[c].balance ≤ 5) && !v.deferred c

/-- The due choice: the highest balance, then the lowest channel. -/
def ArbiterView.due (v : ArbiterView) : Option Chan :=
  (List.finRange 16).foldl (fun best c =>
    if v.dueCandidate c then
      match best with
      | some d => if v.accounts[d].balance < v.accounts[c].balance then some c else best
      | none => some c
    else best) none

/-- The early candidate: the lowest quiet channel. -/
def ArbiterView.early (v : ArbiterView) : Option Chan :=
  (List.finRange 16).find? fun c =>
    v.automatic c && decide (-3 < v.accounts[c].balance) && decide (v.accounts[c].balance ≤ 0)
      && decide (v.accounts[c].quiet = 60)

/-- A selection: the channels of the sweep judged INCOMPLETE on the way, and the channel chosen with its class. -/
structure Selection where
  judged : List Chan
  chosen : Option (Chan × CheckKind)
  deriving DecidableEq, Repr

/-- The arbiter's selection at a boundary (R143). -/
def ArbiterView.select (v : ArbiterView) (k : CheckEngine) : Selection :=
  if k.busy || !v.locked then { judged := [], chosen := none }
  else match v.forced with
    | some c => { judged := [], chosen := some (c, .forced) }
    | none =>
      let turns := channelsOf k.sweep
      let judged := turns.takeWhile fun c => !v.ready c
      match turns.dropWhile fun c => !v.ready c with
      | c :: _ => { judged := judged, chosen := some (c, .manual) }
      | [] =>
        match v.due with
        | some c => { judged := judged, chosen := some (c, .due) }
        | none => { judged := judged, chosen := v.early.map fun c => (c, .early) }

/-- A check starts (R133). -/
def CheckEngine.start (k : CheckEngine) (m : ChannelMap) (c : Chan) (kind : CheckKind) : CheckEngine :=
  { k.toIdle with stage := .starting, channel := some c, companions := sharers m c, kind := kind }

/-- The engine after a selection: the judged channels leave the sweep, and the chosen one's check starts (R133, R143). -/
def CheckEngine.afterSelection (k : CheckEngine) (m : ChannelMap) (x : Selection) (second : Nat) : CheckEngine :=
  let k := x.judged.foldl (fun k c => k.sweepResult c (CheckRecord.incomplete .state second .manual)) k
  match x.chosen with
  | some (c, kind) => k.start m c kind
  | none => k

/-- The channels that a selection hands a check start (R133). -/
def Selection.starts (x : Selection) (m : ChannelMap) (c : Chan) : Bool :=
  match x.chosen with
  | some (d, _) => decide (d = c) || (sharers m d).getLsbD c
  | none => false

end Sys2Proof.Machine
end

