-- ==== Sys2Proof/Machine/Flags.lean ====
section
/-! DEFINITION. The status header of answers and notices: the flags of the part and where each is read (R167, R173). -/

namespace Sys2Proof.Machine

/-- Byte 0 of the status header: mode, clock set, hold-over, lock level (R173). -/
def headerByte0 (s : State) : Byte :=
  BitVec.ofNat 8 (64 * modeCode s.control.mode + 32 * s.time.clockSet.toNat
    + 16 * linkCode s.time.link + 4 * s.control.lock)

/-- Byte 1 of the status header: the last cell fault it carries, check busy, sweep pending, pass-through discard, boot
default, weighting default (R173). -/
def headerByte1 (s : State) (fault : Option CellFault) : Byte :=
  BitVec.ofNat 8 (32 * cellFaultCode fault + 16 * s.check.busy.toNat + 8 * s.check.sweepPending.toNat
    + 4 * s.trunk.discard.toNat + 2 * s.control.bootDefault.toNat + (weightingDefault s.coefs).toNat)

/-- The status header formed on a state, carrying a last cell fault (answers) or none (notices) (R167, R173). -/
def statusHeader (s : State) (fault : Option CellFault) : List Byte :=
  [headerByte0 s, headerByte1 s fault, 0, BitVec.ofNat 8 s.events.queue.length]

end Sys2Proof.Machine
end

