-- ==== Sys2Proof/Machine/Ops.lean ====
section
/-! DEFINITION. The named operations over the whole state that commands share: answers and notices, the storing of
results and events, hub cells, cell faults, and the end of a check between boundaries (chapters 09, 10 and 11). -/

namespace Sys2Proof.Machine

/-! ### Cells -/

/-- An answer or notice cell (R167, R168, R172). -/
def outBytes (node : Fin 4) (write : Bool) (code tag : Byte) (result : ResultCode) (header payload : List Byte) : Cell :=
  let body : Cell :=
    [BitVec.ofNat 8 (128 * write.toNat + node.val), code, tag, BitVec.ofNat 8 payload.length,
      BitVec.ofNat 8 (resultCodeCode result)] ++ header ++ payload
  body ++ [crc8 body]

/-- Whether the outgoing queue has room for an answer (R163). -/
def Trunk.answerRoom (t : Trunk) : Bool := decide (t.out.length < 8)

/-- The notices in the outgoing queue (R163). -/
def Trunk.notices (t : Trunk) : Nat := t.out.countP (·.notice)

/-- Whether the outgoing queue takes a notice while `reserve` places are kept for an answer (R163; log 13). -/
def Trunk.noticeRoom (t : Trunk) (reserve : Nat) : Bool :=
  decide (t.out.length + reserve < 8) && decide (t.notices < 6)

/-- Enter an answer: its header carries the last cell fault and the discard flag, which are then cleared (R163, R165,
R167). -/
def State.answer (s : State) (write : Bool) (code tag : Byte) (result : ResultCode) (payload : List Byte) : State :=
  let cell := outBytes s.control.node write code tag result (statusHeader s s.trunk.lastFault) payload
  { s with trunk := { s.trunk with
      out := s.trunk.out ++ [{ notice := false, bytes := cell }], lastFault := none, discard := false } }

/-- Offer a notice: entered where there is room, its header then carrying the discard flag, which is cleared; refused
otherwise (R163, R167, R168). -/
def State.notify (s : State) (reserve : Nat) (code : Byte) (payload : List Byte) : State :=
  if s.trunk.noticeRoom reserve then
    let cell := outBytes s.control.node false code 0 .ok (statusHeader s none) payload
    { s with trunk := { s.trunk with out := s.trunk.out ++ [{ notice := true, bytes := cell }], discard := false } }
  else s

/-- A faulted cell's fault becomes the last cell fault (R165). -/
def State.cellFault (s : State) (f : CellFault) : State :=
  { s with trunk := { s.trunk with lastFault := some f } }

/-- Hand a hub cell to the Trunk Interface (R132, R166). The queue has 2 places; a third cell sends the oldest up the
lane first (log 14). -/
def Trunk.handHub (t : Trunk) (cell : Cell) : Trunk :=
  match t.hub with
  | first :: second :: rest => { t with hub := second :: rest ++ [cell], returnOut := some first }
  | few => { t with hub := few ++ [cell] }

/-- Hand hub cells in order (R132). -/
def Trunk.handHubAll (t : Trunk) (cells : List Cell) : Trunk := cells.foldl Trunk.handHub t

/-- A cell forwarded up the Trunk In return lane: it waits in the return pass-through buffer, or is discarded with the
flag set (R164, R166). -/
def Trunk.forwardUp (t : Trunk) (cell : Cell) : Trunk :=
  if t.retThrough.length < 2 then { t with retThrough := t.retThrough ++ [cell] } else { t with discard := true }

/-! ### Records in cells -/

/-- The flags of a window, in the order of R149. -/
def WindowFlags.list (f : WindowFlags) : List Bool :=
  [f.lateStart, f.short, f.truncated, f.membership, f.suspect, f.maxExcluded, f.noBackground, f.trim, f.holdOver,
    f.underrange]

/-- A result record in its 43 bytes (R177). -/
def resultBytes (r : WindowResult) : List Byte :=
  beBytes 2 r.sequence ++ beBytes 1 r.group ++ beBytes 1 r.period ++ beBytes 1 r.day ++ beBytes 3 r.start
    ++ beBytes 3 r.expected ++ beBytes 3 r.data ++ beBytes 3 r.excluded ++ levelBytes r.leq ++ levelBytes r.l90
    ++ levelBytes r.site ++ levelBytes r.penalty ++ levelBytes r.rated ++ levelBytes r.limit
    ++ beBytes 1 (windowOutcomeCode r.outcome) ++ levelBytes r.maxLevel ++ levelBytes r.maxPeak ++ beBytes 3 r.onsets
    ++ beBytes 3 r.overload ++ flagBytes 2 r.flags.list ++ beBytes 1 r.lockLevel

/-- The subject byte of an event record (R178). -/
def subjectByte : Subject → Nat
  | .none => 0
  | .group g => 64 + g.val
  | .channel c => 128 + c.val

/-- An event record in its 19 bytes (R178; absent kind value and detail: log 33). -/
def eventBytes (r : EventRecord) : List Byte :=
  let e := r.event
  beBytes 2 r.sequence ++ secondBytes e.second ++ beBytes 1 (eventKindCode e.kind) ++ beBytes 1 (subjectByte e.subject)
    ++ levelBytes e.level ++ levelBytes e.limit ++ beOption 1 (e.period.map (·.val))
    ++ flagBytes 1 [e.detail.isSome, e.discarded, e.manual, e.startUp] ++ beOption 1 (e.value.map kindValueCode)
    ++ beSignedOption 3 e.detail ++ beBytes 1 r.lostAfter

/-! ### The Result Store and the Event Queue -/

/-- Enter a result in the ring of 512 (R150). -/
def ResultStore.enter (st : ResultStore) (r : WindowResult) : ResultStore where
  ring := (if 512 ≤ st.ring.length then st.ring.drop (st.ring.length - 511) else st.ring)
    ++ [{ r with sequence := st.next }]
  next := (st.next + 1) % 65536

/-- Store a result and offer its RESULT NOTICE (R150, R152). -/
def State.storeResult (s : State) (reserve : Nat) (r : WindowResult) : State :=
  { s with results := s.results.enter r }.notify reserve resultNoticeCode
    (beBytes 2 s.results.next ++ beBytes 1 r.group ++ beBytes 1 (windowOutcomeCode r.outcome) ++ levelBytes r.rated)

/-- Raise the lost-after count of the newest record (R155). -/
def raiseNewest : List EventRecord → List EventRecord
  | [] => []
  | [r] => [{ r with lostAfter := min 255 (r.lostAfter + 1) }]
  | r :: rest => r :: raiseNewest rest

/-- Store an event and offer its EVENT NOTICE; a full queue drops it and raises the newest record's lost-after count
(R155, R157). -/
def State.storeEvent (s : State) (reserve : Nat) (e : Event) : State :=
  if s.events.queue.length < 64 then
    let r : EventRecord := { sequence := s.events.next, event := e, lostAfter := 0 }
    { s with events := { queue := s.events.queue ++ [r], next := (s.events.next + 1) % 65536 } }.notify reserve
      eventNoticeCode (eventBytes r)
  else { s with events := { s.events with queue := raiseNewest s.events.queue } }

/-- The sequence of the newest result of a group (R154, WINDOW EXCEEDED). -/
def ResultStore.newestOf (st : ResultStore) (g : Grp) : Option Int :=
  (st.ring.reverse.find? fun r => decide (r.group = g)).map fun r => (r.sequence : Int)

/-- One record handed over. -/
def State.emitOne (reserve : Nat) (s : State) : Emission → State
  | .event e => s.storeEvent reserve e
  | .result r => s.storeResult reserve r
  | .exceeded g e => s.storeEvent reserve { e with detail := s.results.newestOf g }

/-- Records handed over in order. -/
def State.emitAll (s : State) (reserve : Nat) (l : List Emission) : State := l.foldl (State.emitOne reserve) s

/-- The records of a step handed over; where more than one chain waits, their interleaving is free (R150, R155; log 10). -/
def State.emit (s : State) (reserve : Nat) (chains : Chains) : State :=
  match chains.filter (!·.isEmpty) with
  | [] => s
  | [l] => s.emitAll reserve l
  | _ => { s.emitAll reserve (handOver (Config.order s.choices) chains) with choices := s.choices + 1 }

/-! ### Requests and results at the channels -/

/-- What a check's step does to a channel: its held request and, for the checked channel, its account (R53, R54, R137). -/
def Channel.checkStep (ch : Channel) (x : CheckClose) (c : Chan) : Channel :=
  { ch with
    cond := { ch.cond with request := requestAfter x.ends x.withdrawn c ch.cond.request }
    account := match x.decided with
      | some (d, r) => if d = c then ch.account.result r else ch.account
      | none => ch.account }

/-- The check in progress ends between boundaries, by CHECK ABORT or link loss (R138). -/
def State.endCheck (s : State) (reason : CheckReason) : State :=
  let x := s.check.endEarly reason s.time.runningSecond
  match x.decided with
  | none => s
  | some _ =>
    { s with
      check := x.engine
      channels := Vector.ofFn fun c => s.channels[c].checkStep x c
      trunk := s.trunk.handHubAll x.cells }

end Sys2Proof.Machine
end

