-- ==== Sys2Proof/Machine/Groups.lean ====
section
/-! DEFINITION. The Group Combiner: group slices, impulse detection and hold, group seconds and the rolling alert
(chapters 06 and 08). -/

namespace Sys2Proof.Machine

/-- A member record admitted to a group slice: taken in LIVE, with data (R77), with the channel's suspect mark. -/
structure Admitted where
  levels : SliceLevels
  overload : Bool
  suspect : Bool
  deriving DecidableEq, Repr

/-- The admission of a member record (R77). -/
def admission (r : SliceRecord) (s : Suspect) : Option Admitted :=
  if r.takenIn = .live then
    r.levels.map fun l => { levels := l, overload := r.overload, suspect := decide (s ≠ .none) }
  else none

/-- The larger of a level and one that may be absent (R80, R103). -/
def maxOption (a b : Option Level) : Option Level :=
  match a, b with
  | some x, some y => some (max x y)
  | some x, none => some x
  | none, y => y

/-- The group slice formed from the admitted records (R78). -/
def formGroupSlice (second index : Nat) (holdOver discarded : Bool) (ad : List Admitted) : GroupSlice :=
  let mean := meanIntensity (ad.foldl (fun acc a => addIntensity acc a.levels.intensity) []) ad.length
  let l := levelOf mean
  let has := !ad.isEmpty
  { second, index
    count := ad.length
    intensity := if has then some mean else none
    level := if has then some l.1 else none
    under := has && l.2
    maxPeak := ad.foldl (fun acc a => maxOption acc (some a.levels.lpk)) none
    overload := ad.any (·.overload)
    suspect := ad.any (·.suspect)
    holdOver, discarded }

/-- Whether a group slice is impulsive: an admitted record's crest and level reach the entry's thresholds (R114). -/
def impulsive (e : GroupEntry) (ad : List Admitted) : Bool :=
  ad.any fun a => decide ((e.crestThreshold : Int) ≤ a.levels.crest) && decide (e.impulseFloor ≤ a.levels.lt)

/-- The hold count after a group slice, and whether an onset is counted (R115). -/
def holdAfter (e : GroupEntry) (hold : Nat) (impulse : Bool) : Nat × Bool :=
  if impulse then (e.impulseHold, hold == 0) else (hold - 1, false)

/-- The group second in formation takes a group slice (R80). -/
def GroupForming.take (f : GroupForming) (s : GroupSlice) (onset : Bool) : GroupForming where
  data := f.data + s.intensity.isSome.toNat
  sum := match s.intensity with
    | some i => addIntensity f.sum i
    | none => f.sum
  maxLevel := maxOption f.maxLevel s.level
  maxPeak := maxOption f.maxPeak s.maxPeak
  overload := f.overload + s.overload.toNat
  onsets := f.onsets + onset.toNat
  suspect := f.suspect || s.suspect
  holdOver := f.holdOver || s.holdOver
  membership := f.membership

/-- The group after a group slice of its entry (R79, R80, R115). After a RESTART the second in progress takes none (R83). -/
def Group.takeSlice (gr : Group) (e : GroupEntry) (s : GroupSlice) (ad : List Admitted) : Group :=
  let h := holdAfter e gr.holdCount (impulsive e ad)
  { gr with holdCount := h.1, forming := gr.forming.map (·.take s h.2), latest := some s }

/-- The LMAX test of a group slice against the open window (R111): whether the event is raised. -/
def raisesLmax (run covered : Bool) (w : Window) (s : GroupSlice) : Bool :=
  match w.limit.bind (·.lmax), s.level with
  | some limit, some level =>
    run && !s.discarded && !covered && !w.lmaxRaised && decide (limit < level)
  | _, _ => false

/-- The PEAK test of a group slice against the open window (R112): whether the event is raised. -/
def raisesPeak (run : Bool) (w : Window) (s : GroupSlice) : Bool :=
  match w.limit.bind (·.peak), s.maxPeak with
  | some limit, some peak => run && !s.discarded && !w.peakRaised && decide (limit < peak)
  | _, _ => false

/-- The immediate LMAX and PEAK checks of a group slice (R111, R112): the group and the events. -/
def Group.immediate (gr : Group) (g : Grp) (run covered : Bool) (s : GroupSlice) : Group × Chains :=
  match gr.openWindow with
  | none => (gr, [])
  | some w =>
    let lmax := raisesLmax run covered w s
    let peak := raisesPeak run w s
    ({ gr with openWindow := some { w with lmaxRaised := w.lmaxRaised || lmax, peakRaised := w.peakRaised || peak } },
      [if lmax then [.event { Event.plain s.second .lmax (.group g) with
          level := s.level, limit := w.limit.bind (·.lmax), period := some w.period }] else [],
       if peak then [.event { Event.plain s.second .peak (.group g) with
          level := s.maxPeak, limit := w.limit.bind (·.peak), period := some w.period }] else []])

/-- The group second record formed at a second boundary (R81). -/
def GroupForming.close (f : GroupForming) (second : Nat) (position : Option Pos) (covered : Bool) : GroupSecond where
  second := second
  position := position
  sum := f.sum
  data := f.data
  onsets := f.onsets
  maxLevel := f.maxLevel
  maxPeak := f.maxPeak
  overload := f.overload
  excluded := covered
  discarded := position.isNone
  suspect := f.suspect
  holdOver := f.holdOver

/-- The records of a ring that the rolling level uses at the close of `second` over an alert window (R127, steps 1, 2). -/
def rollingRecords (ring : List GroupSecond) (window second : Nat) : List GroupSecond :=
  ring.filter fun r => decide (second < r.second + window) && decide (r.second ≤ second) && !r.excluded && !r.discarded

/-- The rolling level, absent for insufficient coverage (R127, steps 3 to 5). -/
def rollingLevel (ring : List GroupSecond) (window second : Nat) : Option Level :=
  let used := rollingRecords ring window second
  let d := (used.map (·.data)).sum
  if 2 * d < 8 * window then none
  else some (levelOf (meanIntensity (used.foldl (fun acc r => addIntensity acc r.sum) []) d)).1

/-- The alert state after a rolling level (R128). -/
def alertAfter (on : Bool) (roll alert : Level) (inHold : Bool) : Bool :=
  if on then !(decide (roll + 100 < alert) && !inHold) else decide (alert ≤ roll)

/-- The rolling alert at a second close, after the record has entered the ring (R127, R128): the group and the event. -/
def Group.rollingAlert (gr : Group) (g : Grp) (e : GroupEntry) (second : Nat) : Group × List Emission :=
  match gr.alertLevel with
  | none => (gr, [])
  | some alert =>
    match rollingLevel gr.ring e.alertWindow second with
    | none => ({ gr with rolling := none }, [])
    | some roll =>
      let on := alertAfter gr.alertOn roll alert (decide (0 < gr.holdCount))
      ({ gr with rolling := some roll, alertOn := on },
        if on = gr.alertOn then [] else
          [.event { Event.plain second (if on then .alertOn else .alertOff) (.group g) with
            level := some roll, limit := some alert, period := gr.alertPeriod }])

/-- The hand-over of a group limit record, or of none, to the alert (R126, R129): an ON alert whose new level is none
turns OFF with its event. -/
def Group.handLimit (gr : Group) (g : Grp) (limit : Option LimitRecord) (period : Option Per) (second : Nat) :
    Group × List Emission :=
  let level := limit.bind (·.alert)
  if level.isNone && gr.alertOn then
    ({ gr with alertOn := false, alertLevel := none, alertPeriod := period },
      [.event { Event.plain second .alertOff (.group g) with limit := gr.alertLevel, period := gr.alertPeriod }])
  else ({ gr with alertLevel := level, alertPeriod := period }, [])

end Sys2Proof.Machine
end

