-- ==== Sys2Proof/Machine/Stats.lean ====
section
/-! DEFINITION. The Statistics Unit: percentiles of a channel second ring and the background level (R86, R89). -/

namespace Sys2Proof.Machine

/-- The valid levels of a ring (R84, R86). -/
def validLevels (ring : List RingEntry) : List Level :=
  ring.filterMap (·.level)

/-- The rank of LN among v valid levels: v * N / 100 rounded up (R86, step 3). -/
def percentileRank (v n : Nat) : Nat := (v * n + 99) / 100

/-- LN of a ring: the k-th highest valid level, unavailable below 450 valid entries (R86). -/
def percentile (ring : List RingEntry) (n : Nat) : Option Level :=
  let levels := validLevels ring
  if levels.length < 450 then none
  else (levels.insertionSort (· ≥ ·))[percentileRank levels.length n - 1]?

/-- The background level of a group entry over the channel rings: none asked or unavailable as `none` (R89). -/
def backgroundLevel (e : GroupEntry) (ring : Chan → List RingEntry) : Option Level :=
  if e.correction then e.background.bind fun c => percentile (ring c) 90 else none

/-- The valid entries of a ring that carry "overload" (R88). -/
def overloadedValid (ring : List RingEntry) : Nat :=
  ring.countP fun e => e.level.isSome && e.overload

end Sys2Proof.Machine
end

