-- ==== Sys2Proof/Machine/TimeBase.lean ====
section
/-! DEFINITION. The Time Base: civil positions, the second boundary, trims and the runs of good and missing frames
(chapter 05). -/

namespace Sys2Proof.Machine

/-- The position after a position (R64). -/
def Pos.next (p : Pos) : Pos :=
  if p.second + 1 < 86400 then { p with second := p.second + 1 }
  else { day := (p.day + 1) % 7, second := 0 }

/-- A position moved by `b` seconds, across midnight in either direction (R71). -/
def Pos.shift (p : Pos) (b : Int) : Pos :=
  let t := (((p.day * 86400 + p.second : Nat) : Int) + b) % 604800
  { day := t.toNat / 86400, second := t.toNat % 86400 }

/-- The position of the second in progress, or of the last one before a held second (R61, R73). -/
def TimeBase.here (t : TimeBase) : Pos := { day := t.day, second := t.second }

/-- The position of the second in progress, or the one a held second waits at (R73, R101; log 27). -/
def TimeBase.present (t : TimeBase) : Pos := if t.held then t.here.next else t.here

/-- The civil position handed for the second in progress: "held" as `none` (R73, R81). -/
def TimeBase.position (t : TimeBase) : Option Pos := if t.held then none else some t.here

/-- The position that would open by R64: a held second waits at it without consuming it, so it is the same through the hold
(R73). -/
def TimeBase.plainNext (t : TimeBase) : Pos := t.here.next

/-- A position handed to the Window Evaluator at a second boundary: skipped, opened, or only waited at by a held
second (R72, R73, R99). -/
inductive Handed where
  | skipped (p : Pos)
  | opened (p : Pos)
  | waited (p : Pos)
  deriving DecidableEq, Repr

/-- The civil position of a handed position (R99). -/
def Handed.pos : Handed → Pos
  | .skipped p | .opened p | .waited p => p

/-- The positions `p, p + 1, …` of `n` skipped seconds (R72). -/
def skippedFrom : Nat → Pos → List Handed
  | 0, _ => []
  | n + 1, p => .skipped p :: skippedFrom n p.next

/-- What a second boundary does to the time record (R63, R64, R69, R71 to R73): the record as the new second opens,
the positions handed in order, and whether a pending time took effect. -/
structure SecondStep where
  time : TimeBase
  handed : List Handed
  clockSet : Bool
  deriving DecidableEq, Repr

/-- The indices, the running second and the hold-over item as a new second opens (R63). -/
def TimeBase.openSecond (t : TimeBase) : TimeBase :=
  { t with
    frameIndex := 0
    sliceIndex := 0
    runningSecond := t.runningSecond + 1
    handedHoldOver := decide (t.link = .holdOver) }

/-- The opening second has a civil position, and the trim balance is 0 (R64, R69, R71, R72). -/
def TimeBase.moveTo (t : TimeBase) (p : Pos) : TimeBase :=
  { t with day := p.day, second := p.second, held := false, trim := 0 }

/-- The opening second is held: the civil position does not advance, and the balance goes up by 1 (R73). -/
def TimeBase.hold (t : TimeBase) : TimeBase := { t with held := true, trim := t.trim + 1 }

/-- The second boundary in the manner of a mode (R63, R64, R69, R71 to R73). -/
def TimeBase.secondBoundary (t : TimeBase) (mode : Mode) : SecondStep :=
  let q := t.plainNext
  match t.pendingTime with
  | some p =>
    { time := { t.openSecond.moveTo p with pendingTime := none, clockSet := true }, handed := [.opened p],
      clockSet := true }
  | none =>
    if t.trim = 0 then { time := t.openSecond.moveTo q, handed := [.opened q], clockSet := false }
    else if mode ≠ .run then
      { time := t.openSecond.moveTo (q.shift t.trim), handed := [.opened (q.shift t.trim)], clockSet := false }
    else if 0 < t.trim then
      { time := t.openSecond.moveTo (q.shift t.trim)
        handed := skippedFrom t.trim.toNat q ++ [.opened (q.shift t.trim)]
        clockSet := false }
    else { time := t.openSecond.hold, handed := [.waited q], clockSet := false }

/-- A slice boundary that is no second boundary (R63). -/
def TimeBase.sliceBoundary (t : TimeBase) : TimeBase :=
  { t with frameIndex := 0, sliceIndex := t.sliceIndex + 1, handedHoldOver := decide (t.link = .holdOver) }

/-- The outage length in whole seconds (R66). -/
def TimeBase.outage (t : TimeBase) : Nat := t.holdLength / 48000

/-- Link loss declared (R65). -/
def TimeBase.lose (t : TimeBase) : TimeBase :=
  { t with link := .holdOver, holdLength := 0, missingRun := 0 }

/-- Restoration declared (R66). -/
def TimeBase.regain (t : TimeBase) : TimeBase :=
  { t with link := .locked, goodRun := 0, missingRun := 0, startUp := false }

/-- Whether this frame period declares link loss: LOCKED, and the missing run reaches 192 (R65). -/
def TimeBase.loses (t : TimeBase) (good : Bool) : Bool :=
  decide (t.link = .locked) && !good && decide (192 ≤ t.missingRun + 1)

/-- Whether this frame period declares restoration: HOLD-OVER, and the good run reaches 48 (R66). -/
def TimeBase.regains (t : TimeBase) (good : Bool) : Bool :=
  decide (t.link = .holdOver) && good && decide (48 ≤ t.goodRun + 1)

/-- The runs and the hold-over length at a frame period, before any declaration (R65, R66). -/
def TimeBase.countPeriod (t : TimeBase) (good : Bool) : TimeBase :=
  match t.link with
  | .locked => { t with missingRun := if good then 0 else min 192 (t.missingRun + 1) }
  | .holdOver =>
    { t with goodRun := if good then min 48 (t.goodRun + 1) else 0
             holdLength := min 4294967295 (t.holdLength + 1) }

/-- A trim request against the balance: the new balance (R70). -/
def trimBalance (balance t : Int) : Int := max (-4) (min 4 (balance + t))

end Sys2Proof.Machine
end

