-- ==== Sys2Proof/Machine/Windows.lean ====
section
/-! DEFINITION. The Window Evaluator: the limit schedule, its commit and activation, the opening, counting and judging
of assessment windows (chapter 07). -/

namespace Sys2Proof.Machine

/-! ### The schedule -/

/-- Whether two period entries overlap (R96). -/
def entriesOverlap (a b : PeriodEntry) : Bool :=
  a.enabled && b.enabled && decide (a.days &&& b.days ≠ 0) && decide (a.startMinute < b.endMinute)
    && decide (b.startMinute < a.endMinute)

/-- The first overlapping pair, in order of i and then of j (R96). -/
def firstOverlap (s : Schedule) : Option TableFault :=
  (List.finRange 24).findSome? fun i =>
    (List.finRange 24).findSome? fun j =>
      if i < j ∧ entriesOverlap s[i] s[j] then some (.overlap i j) else none

/-- Whether an entry applies to a day (R92). -/
def PeriodEntry.applies (e : PeriodEntry) (day : Nat) : Bool := e.enabled && e.days.getLsbD day

/-- Whether a position lies inside an entry that applies to its day (R92). -/
def PeriodEntry.covers (e : PeriodEntry) (p : Pos) : Bool :=
  e.applies p.day && decide (e.startMinute * 60 ≤ p.second) && decide (p.second < e.endMinute * 60)

/-- The entry that applies to a position, if any; at most one does in a schedule without overlaps (R100). -/
def periodAt (s : Schedule) (p : Pos) : Option Per :=
  (List.finRange 24).find? fun i => s[i].covers p

/-- Whether a position is a boundary of a schedule (R97). -/
def isBoundary (s : Schedule) (p : Pos) : Bool :=
  p.second == 0 || s.toList.any fun e =>
    e.applies p.day && (p.second == e.startMinute * 60 || p.second == e.endMinute * 60)

/-- The window length in seconds; a whole period has none (R92). -/
def WindowLength.seconds : WindowLength → Option Nat
  | .m5 => some 300
  | .m15 => some 900
  | .m30 => some 1800
  | .m60 => some 3600
  | .whole => none

/-- The aligned window of an entry that contains a second-of-day inside the period: its start, its end, and whether
it is shorter than its length (R100). -/
def alignedWindow (e : PeriodEntry) (second : Nat) : Nat × Nat × Bool :=
  let s := e.startMinute * 60
  let t := e.endMinute * 60
  match e.length.seconds with
  | none => (s, t, false)
  | some l =>
    let a := s + (second - s) / l * l
    (a, min (a + l) t, decide (t < a + l))

/-- A pending schedule at a position its mode allows (R97): activated, or discarded at lock level 2. The event, and
the mode of an activation made. -/
def Schedules.activate (s : Schedules) (lock second : Nat) : Schedules × Option Event × Option CommitMode :=
  match s.pendingSchedule with
  | none => (s, none, none)
  | some (p, m) =>
    let e := { Event.plain second .scheduleChanged .none with value := some (.commit m) }
    if 2 ≤ lock then ({ s with pendingSchedule := none }, some { e with discarded := true }, none)
    else ({ s with active := p, pendingSchedule := none }, some e, some m)

/-- Whether a handed position lets a pending schedule be activated (R97): immediate mode at any, held seconds
included, boundary mode at a boundary of the active schedule that is reached. -/
def allowsActivation (s : Schedules) (h : Handed) : Bool :=
  match s.pendingSchedule, h with
  | some (_, .immediate), _ => true
  | some (_, .boundary), .skipped p | some (_, .boundary), .opened p => isBoundary s.active p
  | _, _ => false

/-- One handed position with the schedule in force after step 2 of R99, and the activation made at it. -/
structure Reach where
  handed : Handed
  schedule : Schedule
  activated : Option CommitMode
  deriving DecidableEq, Repr

/-- The handed positions of a second boundary taken in order, with the schedule activation at the first one its mode
allows (R97, R99). -/
def reachAll (lock second : Nat) : List Handed → Schedules → Schedules × List Reach × List Event
  | [], s => (s, [], [])
  | h :: rest, s =>
    let a := if allowsActivation s h then s.activate lock second else (s, none, none)
    let t := reachAll lock second rest a.1
    (t.1, { handed := h, schedule := a.1.active, activated := a.2.2 } :: t.2.1, a.2.1.toList ++ t.2.2)

/-! ### Windows -/

/-- No flag set. -/
def WindowFlags.none : WindowFlags where
  lateStart := false
  short := false
  truncated := false
  membership := false
  suspect := false
  maxExcluded := false
  noBackground := false
  trim := false
  holdOver := false
  underrange := false

/-- The window a group opens at a position inside an entry (R100, R101): it ends with its aligned window, and is a late
start when the position is no aligned start, whatever opens it: at an entry to RUN (log 26) and at a position that a held second
waits at (log 54) the model's choice. -/
def Window.opening (e : PeriodEntry) (i : Per) (g : Grp) (p : Pos) (firstSecond : Nat) : Window :=
  let a := alignedWindow e p.second
  { period := i
    day := p.day
    start := p.second
    stop := a.2.1
    firstSecond := firstSecond
    limit := e.limits[g]
    expected := 0
    data := 0
    excluded := 0
    sum := []
    onsets := 0
    overload := 0
    maxLevel := none
    maxPeak := none
    lmaxRaised := false
    peakRaised := false
    flags := { WindowFlags.none with lateStart := decide (p.second ≠ a.1), short := a.2.2 } }

/-- Whether a window's positions contain a position (R103). -/
def Window.contains (w : Window) (p : Pos) : Bool :=
  w.day == p.day && decide (w.start ≤ p.second) && decide (p.second < w.stop)

/-- Whether a window's end is the position reached: an end of 86,400 is reached at position 0 of the following day
(R99, step 1). -/
def Window.endsAt (w : Window) (p : Pos) : Bool :=
  (w.day == p.day && w.stop == p.second)
    || (w.stop == 86400 && p.second == 0 && p.day == (w.day + 1) % 7)

/-- A window takes a group second record of a position it contains (R103). -/
def Window.takeRecord (w : Window) (r : GroupSecond) : Window :=
  if r.excluded then { w with expected := w.expected + 8, excluded := w.excluded + 8 }
  else
    { w with
      expected := w.expected + 8
      data := w.data + r.data
      sum := addIntensity w.sum r.sum
      onsets := w.onsets + r.onsets
      overload := w.overload + r.overload
      maxLevel := maxOption w.maxLevel r.maxLevel
      maxPeak := maxOption w.maxPeak r.maxPeak
      flags := { w.flags with suspect := w.flags.suspect || r.suspect, holdOver := w.flags.holdOver || r.holdOver } }

/-- A window counts a skipped position it contains (R104). -/
def Window.skip (w : Window) : Window :=
  { w with expected := w.expected + 8, flags := { w.flags with trim := true } }

/-- Whether a window took a record not yet excluded (R105). -/
def Window.took (w : Window) (r : GroupSecond) : Bool :=
  decide (w.firstSecond ≤ r.second) && (r.position.map w.contains).getD false

/-- A retroactively excluded record is subtracted from the window that took it (R105). -/
def Window.subtract (w : Window) (r : GroupSecond) : Window :=
  { w with
    data := w.data - r.data
    excluded := w.excluded + 8
    sum := subIntensity w.sum r.sum
    onsets := w.onsets - r.onsets
    overload := w.overload - r.overload
    flags := { w.flags with maxExcluded := true } }

/-- A window marked "membership changed" where the membership has changed (R102). -/
def Window.markMembership (w : Window) (changed : Bool) : Window :=
  { w with flags := { w.flags with membership := w.flags.membership || changed } }

/-- A window told of a held second, where it was open through it: one opened as the held second ends was not (R73, R103,
R104). -/
def Window.told (w : Window) (r : GroupSecond) : Window :=
  { w with flags := { w.flags with trim := w.flags.trim || decide (w.firstSecond ≤ r.second) } }

/-- Whether a due window waits for the record of the ending second `p`: its last position is `p`, or it was truncated at the
boundary that ends `p`. Any other has closed at once on coming due (R106). -/
def Window.waitsFor (w : Window) (p : Pos) : Bool := w.contains p && (w.endsAt p.next || w.flags.truncated)

/-- The group's windows take a group second record. A held record tells the window kept through the held second, open or due,
and no other (R73, R103, R104). Any other record goes to the open window that contains its position, or the due window that
waits for it (R103, R106). `first` says that it is the first under a changed membership, which marks the window that takes it
(R102). -/
def Group.windowRecord (gr : Group) (r : GroupSecond) (first : Bool) : Group :=
  match r.position with
  | none => { gr with openWindow := gr.openWindow.map (·.told r), dueWindows := gr.dueWindows.map (·.told r) }
  | some p =>
    let take (w : Window) (takes : Bool) : Window := if takes then (w.takeRecord r).markMembership first else w
    { gr with
      openWindow := gr.openWindow.map fun w => take w (w.contains p)
      dueWindows := gr.dueWindows.map fun w => take w (w.waitsFor p) }

/-- The open window becomes due (R99 step 1, R106), with marks set on it. -/
def Group.due (gr : Group) (mark : Window → Window) : Group :=
  { gr with openWindow := none, dueWindows := gr.dueWindows ++ (gr.openWindow.map mark).toList }

/-- What a group meets at the reaches of one second boundary. -/
structure ReachContext where
  group : Grp
  run : Bool
  /-- enabled in the map active before the boundary's activation, and in the map after it -/
  wasEnabled : Bool
  enabled : Bool
  /-- the running second of the opening second -/
  second : Nat
  deriving DecidableEq, Repr

/-- Step 1 of R99, and the truncations of an immediate activation (R97) and of the group's disabling (R14), which
falls at the first handed position (log 28). -/
def Group.comeDue (gr : Group) (x : ReachContext) (r : Reach) (first : Bool) : Group :=
  match gr.openWindow with
  | none => gr
  | some w =>
    match r.handed with
    | .skipped p =>
      if w.endsAt p then gr.due fun w => { w with flags := { w.flags with trim := true } }
      else if r.activated = some .immediate ∨ (first ∧ x.wasEnabled ∧ !x.enabled) then
        gr.due fun w => { w with flags := { w.flags with truncated := true } }
      else gr
    | .opened p =>
      if w.endsAt p then gr.due id
      else if r.activated = some .immediate ∨ (first ∧ x.wasEnabled ∧ !x.enabled) then
        gr.due fun w => { w with flags := { w.flags with truncated := true } }
      else gr
    | .waited _ =>
      if r.activated = some .immediate ∨ (first ∧ x.wasEnabled ∧ !x.enabled) then
        gr.due fun w => { w with flags := { w.flags with truncated := true } }
      else gr

/-- Whether a window opens at a handed position inside an entry (R100, R101): at an aligned start that is reached, or by
a schedule activation or an enabling of the group made there. Where a held second waits at an aligned start, R100 has no reach
and R101 no position that is no aligned start: an activation or enabling at that second opens the window there at once, and
without "late start" (DESIGN CHOICE, log 54). -/
def opensHere (x : ReachContext) (r : Reach) (first : Bool) (e : PeriodEntry) : Bool :=
  let byCause := r.activated.isSome || (first && !x.wasEnabled && x.enabled)
  match r.handed with
  | .skipped p | .opened p => decide ((alignedWindow e p.second).1 = p.second) || byCause
  | .waited _ => byCause

/-- Step 3 of R99: the window that opens, if any. -/
def Group.openHere (gr : Group) (x : ReachContext) (r : Reach) (first : Bool) : Option Window :=
  if x.run && x.enabled && gr.openWindow.isNone then
    (periodAt r.schedule r.handed.pos).bind fun i =>
      if opensHere x r first r.schedule[i] then
        some (Window.opening r.schedule[i] i x.group r.handed.pos x.second)
      else none
  else none

/-- Step 4 of R99: a skipped position is counted in the open window that contains it (R104). -/
def Group.countSkipped (gr : Group) : Handed → Group
  | .skipped p => { gr with openWindow := gr.openWindow.map fun w => if w.contains p then w.skip else w }
  | _ => gr

/-- One handed position for one group (R99): windows come due, open and take the hand-over to the alert, and a skipped
position is counted. -/
def Group.reach (gr : Group) (x : ReachContext) (r : Reach) (first : Bool) : Group × List Emission :=
  let had := gr.openWindow.isSome
  let g1 := gr.comeDue x r first
  match g1.openHere x r first with
  | some w =>
    let h := { g1 with openWindow := some w }.handLimit x.group w.limit (some w.period) x.second
    (h.1.countSkipped r.handed, h.2)
  | none =>
    let h := if (had && g1.openWindow.isNone) || (first && x.wasEnabled && !x.enabled) then
        g1.handLimit x.group none none x.second
      else (g1, [])
    (h.1.countSkipped r.handed, h.2)

/-- The handed positions of a boundary, in order, for one group (R99). -/
def Group.reachList (x : ReachContext) : Bool → List Reach → Group → Group × List Emission
  | _, [], gr => (gr, [])
  | first, r :: rest, gr =>
    let a := gr.reach x r first
    let t := Group.reachList x false rest a.1
    (t.1, a.2 ++ t.2)

/-- Whether a handed position is skipped (R99). -/
def Handed.isSkipped : Handed → Bool
  | .skipped _ => true
  | .opened _ | .waited _ => false

/-- The close of a group's second, and the handed positions still to come after it. -/
def Group.closeThenReach (x : ReachContext) (close : Group → Group × List Emission) (first : Bool) (reaches : List Reach)
    (gr : Group) : Group × List Emission :=
  let a := close gr
  let t := Group.reachList x first reaches a.1
  (t.1, a.2 ++ t.2)

/-- The handed positions of a boundary with the close of the group's second among them. `yes k` says that the close comes
before the `k`-th position: that is free, but a window due at a skipped position that waits for the record of the ending
second `p` takes it, and closes, before the next position is reached (R99, R106; log 52). -/
def Group.turnSecond (x : ReachContext) (close : Group → Group × List Emission) (p : Option Pos) (yes : Nat → Bool) :
    Nat → Bool → List Reach → Group → Group × List Emission
  | _, first, [], gr => Group.closeThenReach x close first [] gr
  | k, first, r :: rest, gr =>
    let a := gr.reach x r first
    let waits := p.any fun q => a.1.dueWindows.any (·.waitsFor q)
    let t := if r.handed.isSkipped && waits then Group.closeThenReach x close false rest a.1
      else Group.turnSecond x close p yes (k + 1) false rest a.1
    either (yes k) (Group.closeThenReach x close first (r :: rest) gr) (t.1, a.2 ++ t.2)

/-! ### Judging a window -/

/-- The site level from a measured Leq and an L90 (R107): the level, whether it is flagged underrange, and whether
the window is background-dominated. -/
def siteLevel (leq l90 : Level) : Level × Bool × Bool :=
  if l90 + 1000 ≤ leq then (leq, false, false)
  else if l90 + 300 ≤ leq then
    let l := levelOf (subIntensity (levelIntensity leq 1) (levelIntensity l90 1))
    (l.1, l.2, false)
  else if 300 ≤ leq then (leq - 300, false, true)
  else (0, true, true)

/-- Whether the coverage of a window is insufficient: 4 * data < 3 * U (R109, row 3). -/
def insufficient (w : Window) : Bool := decide (4 * w.data < 3 * (w.expected - w.excluded))

/-- The outcome of a closing window: the first row of R109 that applies. -/
def windowOutcome (w : Window) (dominated : Bool) (rated : Option Level) : WindowOutcome :=
  if w.expected - w.excluded = 0 then .excluded
  else match w.limit with
    | none => .unregulated
    | some l =>
      if insufficient w then .insufficient
      else if dominated then .indeterminate
      else match rated with
        | some r => if l.leq < r then .exceeded else .compliant
        | none => .compliant

/-- The result of a closing window (R107 to R110), less its sequence, which the Result Store assigns. `correction` and
`l90` are the group entry's and the background level's at the close; `lock` is the lock level then. -/
def Window.judge (w : Window) (g : Grp) (correction : Bool) (l90 : Option Level) (lock : Nat) : WindowResult :=
  let leq := if 0 < w.data then some (levelOf (meanIntensity w.sum w.data)) else none
  let corrected := match leq, l90 with
    | some m, some b => if correction then some (siteLevel m.1 b) else none
    | _, _ => none
  let site := match corrected with
    | some s => some s.1
    | none => leq.map (·.1)
  let dominated := (corrected.map (·.2.2)).getD false
  let under := ((leq.map (·.2)).getD false) || ((corrected.map (·.2.1)).getD false)
  let penalty := w.limit.bind fun l => if l.threshold ≤ w.onsets then some l.penalty else none
  let rated := site.map fun s => min 19999 (s + penalty.getD 0)
  { sequence := 0
    group := g
    period := w.period
    day := w.day
    start := w.start
    expected := w.expected
    data := w.data
    excluded := w.excluded
    leq := leq.map (·.1)
    l90 := if correction then l90 else none
    site := site
    penalty := penalty
    rated := rated
    limit := w.limit.map (·.leq)
    outcome := windowOutcome w dominated rated
    maxLevel := w.maxLevel
    maxPeak := w.maxPeak
    onsets := w.onsets
    overload := w.overload
    flags := { w.flags with noBackground := w.flags.noBackground || (correction && corrected.isNone)
                            underrange := under }
    lockLevel := lock }

/-- What a closed window hands over: its result, and WINDOW EXCEEDED after it (R109, R110, R154). -/
def closeEmissions (r : WindowResult) (second : Nat) : List Emission :=
  .result r ::
    (if r.outcome = .exceeded then
      [.exceeded r.group { Event.plain second .windowExceeded (.group r.group) with
        level := r.rated, limit := r.limit, period := some r.period }]
    else [])

/-! ### Exclusions (8.4) -/

/-- Whether an entry covers a running second for a group (R119). -/
def Exclusion.covers (x : Exclusion) (g : Grp) (second : Nat) : Bool :=
  x.mask.getLsbD g && decide (x.start ≤ second) && (x.stop.map (decide <| second < ·)).getD true

/-- Whether the Exclusion List covers a running second for a group (R120). -/
def covered (xs : List Exclusion) (g : Grp) (second : Nat) : Bool := xs.any (·.covers g second)

/-- The Exclusion List after the boundary that opens a second: entries whose end has been reached are removed (R120). -/
def expire (xs : List Exclusion) (opening : Nat) : List Exclusion :=
  xs.filter fun x => (x.stop.map (decide <| opening < ·)).getD true

/-- The close of a group second (R81, R82, R103, R120, R127): the record enters the ring, the rolling alert is formed, and
the group's windows take the record. The second a RESTART was taken in forms no record (R83; log 51). The alert state that
the close leaves is kept for the arbiter (R143). -/
def Group.closeSecond (gr : Group) (g : Grp) (e : GroupEntry) (second : Nat) (position : Option Pos) (cov : Bool) :
    Group × List Emission :=
  match gr.forming with
  | none => ({ gr with alertAtClose := gr.alertOn }, [])
  | some f =>
    let r := f.close second position cov
    let a := { gr with ring := enterRing r gr.ring }.rollingAlert g e second
    ({ a.1 with alertAtClose := a.1.alertOn }.windowRecord r f.membership, a.2)

end Sys2Proof.Machine
end

