-- ==== Sys2Proof/Machine/Boundary.lean ====
section
/-! DEFINITION. The slice boundary and the second boundary: every block's part in the order the chapters give, and the free
orders drawn where they give none (R9, R25, R39, R48, R63, R76 to R83, R99, R120, R134, R141, R143; log 10, 12, 24, 28,
29, 41). -/

namespace Sys2Proof.Machine

/-! ### Closing -/

/-- The slices in progress closed into their records, under the map in force during them (R9, R32). -/
def State.closedSlices (s : State) : Vector (Option SliceRecord) 16 :=
  Vector.ofFn fun c => s.channels[c].slice.map fun sl =>
    sl.close s.time.runningSecond s.time.sliceIndex s.router.active.channels[c]

/-- The records a group awaits, in channel order (R76). -/
def State.awaitedRecords (s : State) (records : Vector (Option SliceRecord) 16) (g : Grp) :
    List (SliceRecord × Suspect) :=
  (channelsOf s.groups[g].awaited).filterMap fun c => records[c].map fun r => (r, s.channels[c].cond.suspect)

/-- The group slice and its admitted records: its marks are those every record carries, or the handed position's where
none is awaited (R77, R78). -/
def State.groupSlice (s : State) (records : Vector (Option SliceRecord) 16) (g : Grp) : GroupSlice × List Admitted :=
  let awaited := s.awaitedRecords records g
  let admitted := awaited.filterMap fun r => admission r.1 r.2
  let marks := match awaited with
    | r :: _ => (r.1.holdOver, r.1.discarded)
    | [] => (s.time.handedHoldOver, s.time.held)
  (formGroupSlice s.time.runningSecond s.time.sliceIndex marks.1 marks.2 admitted, admitted)

/-- A group at a slice boundary, once its group slice is formed and handed on (R78, R79, R111, R112, R115). -/
def State.groupAfterSlice (s : State) (records : Vector (Option SliceRecord) 16) (g : Grp) : Group × Chains :=
  let e := s.router.active.groups[g]
  if e.enabled then
    let f := s.groupSlice records g
    (s.groups[g].takeSlice e f.1 f.2).immediate g (decide (s.control.mode = .run))
      (covered s.exclusions g s.time.runningSecond) f.1
  else (s.groups[g], [])

/-! ### What the boundary opens -/

/-- What stands as the new slice opens: the time record and the positions handed, the maps after an activation, the
coefficient table. -/
structure Opening where
  time : TimeBase
  handed : List Handed
  clockSet : Bool
  router : Router
  mapEvent : Option Event
  coefs : Vector CoefSection 6
  deriving DecidableEq, Repr

/-- The opening of a slice, or of a second (R9, R10, R25, R63, R64, R69, R71 to R73). -/
def State.opening (s : State) (second : Bool) : Opening :=
  if second then
    let t := s.time.secondBoundary s.control.mode
    let r := s.router.activate s.control.lock s.control.locked t.time.runningSecond
    { time := t.time, handed := t.handed, clockSet := t.clockSet, router := r.1, mapEvent := r.2
      coefs := coefsAtBoundary s.control.lock s.coefs }
  else
    { time := s.time.sliceBoundary, handed := [], clockSet := false, router := s.router, mapEvent := none
      coefs := coefsAtBoundary s.control.lock s.coefs }

/-- Rows 1 to 4 of R48 for a channel at this boundary (R11, R12, R25). -/
def State.disturbed (s : State) (op : Opening) (c : Chan) : Option Row :=
  let new := op.router.active.channels[c]
  disturbance s.router.active.channels[c] new
    (usesAffected (affectedA s.control.lock s.coefs) (affectedC s.control.lock s.coefs) new) s.channels[c].cond.state

/-- The Check Engine at the boundary, before the states are decided (R134 to R136, R139). -/
def State.checkAtBoundary (s : State) (records : Vector (Option SliceRecord) 16) (op : Opening) : CheckClose :=
  s.check.atBoundary (fun c => records[c]) s.router.active op.router.active (fun c => (s.disturbed op c).isSome)
    op.time.runningSecond

/-- A channel's condition brought up to date from the closing slice, with the requests handed at this boundary (R48,
R54). -/
def countedCondition (c : Chan) (cond : Condition) (record : Option SliceRecord) (x : CheckClose) : Condition :=
  let counted := match record with
    | some r => cond.count r
    | none => cond
  { counted with request := requestAfter x.ends x.withdrawn c counted.request }

/-- The row of R48 that gives each channel its state. -/
def State.rows (s : State) (records : Vector (Option SliceRecord) 16) (op : Opening) (x : CheckClose) :
    Vector Row 16 :=
  Vector.ofFn fun c =>
    decideRow (s.disturbed op c) (records[c].map (·.takenIn))
      s.router.active.channels[c].absentIntegration.slices
      (s.control.restarted && op.router.active.channels[c].enabled)
      (countedCondition c s.channels[c].cond records[c] x)

/-! ### Channels -/

/-- The count of a second boundary in a check account: the timer, the retry delay and the quiet run (R141, R142). `old`
is the entry in force during the second that closes, `now` the one in force as the timer counts. -/
def CheckAccount.countSecond (a : CheckAccount) (mode : Mode) (old now : ChannelEntry) (cs : Option ChannelSecond) :
    CheckAccount × Bool :=
  let t := a.tickTimer now (timerRuns mode now)
  let b := t.1.tickRetry
  (match cs with
    | some x => b.quietSecond old.quietLevel x
    | none => b, t.2)

/-- The check account at a second boundary in one order of its three causes: an activation's reset, a check result, and
the boundary's count (R140 to R142). The second part says that the balance rose from 5 to 6. -/
def CheckAccount.secondInOrder (a : CheckAccount) (mode : Mode) (old new : ChannelEntry) (result : Option CheckRecord)
    (cs : Option ChannelSecond) (resetFirst resultFirst resetBeforeResult : Bool) : CheckAccount × Bool :=
  let reset (a : CheckAccount) := a.activate old new
  let judge (a : CheckAccount) := match result with
    | some r => a.result r
    | none => a
  let both (a : CheckAccount) := if resetBeforeResult then judge (reset a) else reset (judge a)
  match resetFirst, resultFirst with
  | true, true => (both a).countSecond mode old new cs
  | false, false =>
    let t := a.countSecond mode old old cs
    (both t.1, t.2)
  | true, false =>
    let t := (reset a).countSecond mode old new cs
    (judge t.1, t.2)
  | false, true =>
    let t := (judge a).countSecond mode old old cs
    (reset t.1, t.2)

/-- The check account at a second boundary, the order of its causes free (R140 to R142; log 10). -/
def CheckAccount.atSecond (a : CheckAccount) (o : Order) (c : Chan) (mode : Mode) (old new : ChannelEntry)
    (result : Option CheckRecord) (cs : Option ChannelSecond) : CheckAccount × Bool :=
  let at3 (x y z : Bool) := a.secondInOrder mode old new result cs x y z
  let at2 (x y : Bool) := either (o.yes (.resetBeforeResult c)) (at3 x y true) (at3 x y false)
  let at1 (x : Bool) := either (o.yes (.resultBeforeTimers c)) (at2 x true) (at2 x false)
  either (o.yes (.resetBeforeCount c)) (at1 true) (at1 false)

/-- The channel second that closes at a second boundary. A boundary that clears the ring of a channel in service forms none;
one at which the channel enters OFF forms its last one and hands it on before the ring goes, as R40 and R44 say, where R85
could be read to form none: the model's choice (log 46). -/
def closingSecond (second : Bool) (row : Row) (forming : Option SecondForming) (runningSecond : Nat) :
    Option ChannelSecond :=
  if second && !row.emptiesSecond then forming.map (·.close runningSecond) else none

/-- A channel takes the second just closed: the latest second, its ring entry, and an empty second in formation (R40, R44,
R84). -/
def Channel.takeSecond (ch : Channel) : Option ChannelSecond → Channel
  | some cs =>
    { ch with forming := some SecondForming.empty, latestSecond := some cs, ring := enterRing cs.entry ch.ring }
  | none => ch

/-- The result decided at a boundary, if it is this channel's. -/
def resultFor (c : Chan) : Option (Chan × CheckRecord) → Option CheckRecord
  | some (d, r) => if d = c then some r else none
  | none => none

/-- What a boundary has decided for a channel. -/
structure ChannelTurn where
  record : Option SliceRecord
  row : Row
  result : Option CheckRecord
  closed : Option ChannelSecond
  deriving DecidableEq, Repr

/-- What the boundary has decided for each channel. -/
def State.channelTurn (s : State) (second : Bool) (records : Vector (Option SliceRecord) 16) (rows : Vector Row 16)
    (decided : Option (Chan × CheckRecord)) (c : Chan) : ChannelTurn :=
  let forming := match records[c] with
    | some r => s.channels[c].forming.map (·.take r)
    | none => s.channels[c].forming
  { record := records[c]
    row := rows[c]
    result := resultFor c decided
    closed := closingSecond second rows[c] forming s.time.runningSecond }

/-- The account of a channel at the boundary, and whether its check is overdue (R137, R140 to R142). -/
def State.accountAtBoundary (s : State) (o : Order) (second : Bool) (op : Opening) (t : ChannelTurn) (c : Chan) :
    CheckAccount × Bool :=
  let a := s.channels[c].account
  if second then
    a.atSecond o c s.control.mode s.router.active.channels[c] op.router.active.channels[c] t.result t.closed
  else
    (match t.result with
      | some r => a.result r
      | none => a, false)

/-- A channel at the boundary (R39, R40, R48, R57, R58, R84, R137, R161). -/
def State.channelAtBoundary (s : State) (o : Order) (second : Bool) (op : Opening) (x1 x2 : CheckClose)
    (t : ChannelTurn) (c : Chan) : Channel :=
  let ch := s.channels[c]
  let recorded := match t.record with
    | some r => ch.takeRecord r
    | none => ch
  let asked := { recorded with
    cond := { recorded.cond with
      request := requestAfter x1.ends x1.withdrawn c recorded.cond.request
      suspect := match t.result with
        | some r => suspectAfter r.code recorded.cond.suspect
        | none => recorded.cond.suspect }
    account := (s.accountAtBoundary o second op t c).1 }
  let applied := (asked.takeSecond t.closed).apply t.row (t.record.map (·.takenIn))
    (op.time.runningSecond, op.time.sliceIndex) (decide (op.time.link = .holdOver)) op.time.held
    s.trunk.lastSent[op.router.active.channels[c].sourceSlot]
  { applied with cond := { applied.cond with request := requestAfter x2.ends x2.withdrawn c applied.cond.request } }

/-- The events of a channel at the boundary: SIGNAL ABSENT and SIGNAL RESTORED (R59), CHECK FAULT (R137), CHECK OVERDUE
(R140). -/
def State.channelEvents (s : State) (op : Opening) (t : ChannelTurn) (overdue : Bool) (c : Chan) : Chains :=
  [ (match t.row with
      | .absent => [.event (Event.plain s.time.runningSecond .signalAbsent (.channel c))]
      | .restored => [.event { Event.plain s.time.runningSecond .signalRestored (.channel c) with
          level := (t.record.bind (·.levels)).map (·.lt) }]
      | _ => []),
    (match t.result with
      | some r => faultEvents c s.router.active.channels[c].referenceResponse r
      | none => []),
    (if overdue then [.event (Event.plain op.time.runningSecond .checkOverdue (.channel c))] else []) ]

/-! ### Groups at a second boundary -/

/-- The close of a group's second among the reaches of the handed positions (R81, R99, R106, R129). -/
def State.groupSecond (s : State) (o : Order) (op : Opening) (reaches : List Reach) (gr : Group) (g : Grp) :
    Group × List Emission :=
  let old := s.router.active.groups[g]
  let x : ReachContext :=
    { group := g, run := decide (s.control.mode = .run), wasEnabled := old.enabled
      enabled := op.router.active.groups[g].enabled, second := op.time.runningSecond }
  let close (gr : Group) : Group × List Emission :=
    if old.enabled then
      gr.closeSecond g old s.time.runningSecond s.time.position (covered s.exclusions g s.time.runningSecond)
    else (gr, [])
  Group.turnSecond x close s.time.position (fun k => o.yes (.closeBeforeReach g k)) 0 true reaches gr

/-- The channel rings that a close at a second boundary may find (R85, R87): as the boundary's entries leave them where the
activation has not been made, and after all of the boundary. -/
structure BoundaryRings where
  unactivated : Vector (List RingEntry) 16
  after : Vector (List RingEntry) 16
  deriving DecidableEq, Repr

/-- A channel's ring as a boundary leaves it before the activation: with the entry of its last second, and not emptied by the
activation; a coefficient change empties it all the same (R25, R85, R87). -/
def State.ringUnactivated (s : State) (t : ChannelTurn) (c : Chan) (after : List RingEntry) : List RingEntry :=
  if t.row.byActivation && !(usesAffected (affectedA s.control.lock s.coefs) (affectedC s.control.lock s.coefs)
      s.router.active.channels[c]) then (s.channels[c].takeSecond t.closed).ring
  else after

/-- The background correction setting and the background level that the close of a window consults at a second boundary. A
window truncated by the disabling of its group closes after the activation, under the entry then in force; any other closes
before it or after it, each with the rings that belong there, before or after the boundary's entry (R9, R14, R87, R89). -/
def State.backgroundAtBoundary (s : State) (o : Order) (op : Opening) (rings : BoundaryRings) (g : Grp) (w : Window) :
    Bool × Option Level :=
  let old := s.router.active.groups[g]
  let new := op.router.active.groups[g]
  let ask (e : GroupEntry) (entered : Vector (List RingEntry) 16) : Bool × Option Level :=
    (e.correction, either (o.yes (.requestBeforeEntry g)) (backgroundLevel e fun c => s.channels[c].ring)
      (backgroundLevel e fun c => entered[c]))
  let activated := ask new rings.after
  if old.enabled && !new.enabled && w.flags.truncated then activated
  else either (o.yes (.closeBeforeActivation g)) (ask old rings.unactivated) activated

/-- The due windows of a group close, each against the background it consults: their results and WINDOW EXCEEDED, in end
order (R106 to R110). -/
def closeDue (due : List Window) (g : Grp) (background : Window → Bool × Option Level) (lock second : Nat) :
    List Emission :=
  due.flatMap fun w => closeEmissions (w.judge g (background w).1 (background w).2 lock) second

/-- Whether an activation changes a group's membership (R11, R13). -/
def membershipChanged (old new : ChannelMap) (g : Grp) : Bool :=
  (List.finRange 16).any fun c => membershipChanges old.channels[c] new.channels[c] g

/-- A group as the new second opens: no window is due, an open one carries "membership changed", the second in formation of
an enabled group is empty and knows of a changed membership; a group that is disabled, or newly enabled, starts afresh (R14,
R79, R80, R83, R102, R118, R130), and the alert that the arbiter reads of a disabled one is OFF (R143). -/
def Group.openSecond (gr : Group) (was now membership : Bool) : Group :=
  { gr with
    dueWindows := []
    openWindow := gr.openWindow.map fun w => w.markMembership membership
    forming := if now then some { GroupForming.empty with membership := membership } else none
    latest := if was && !now then none else gr.latest
    alertAtClose := gr.alertAtClose && !(was && !now)
    rolling := if was && !now then none else gr.rolling
    holdCount := if was == now then gr.holdCount else 0 }

/-- A group at a second boundary, and what it hands over. -/
def State.groupAtSecond (s : State) (o : Order) (op : Opening) (reaches : List Reach)
    (rings : BoundaryRings) (gr : Group) (g : Grp) : Group × Chains :=
  let p := s.groupSecond o op reaches gr g
  (p.1.openSecond s.router.active.groups[g].enabled op.router.active.groups[g].enabled
      (membershipChanged s.router.active op.router.active g),
    [p.2, closeDue p.1.dueWindows g (s.backgroundAtBoundary o op rings g) s.control.lock op.time.runningSecond])

/-! ### Entry to RUN and the arbiter -/

/-- A group at an entry to RUN: an enabled group opens a window where the present position lies in an active period, and
the window hands its limit record to the alert (R101, R126, R130, R183; log 26, 27). -/
def Group.enterRun (gr : Group) (g : Grp) (enabled : Bool) (active : Schedule) (p : Pos) (second : Nat) : Group :=
  let w := if enabled then (periodAt active p).map fun i => Window.opening active[i] i g p second else none
  { gr with
    openWindow := w
    dueWindows := []
    alertOn := false
    alertLevel := (w.bind (·.limit)).bind (·.alert)
    alertPeriod := w.map (·.period) }

/-- The entry to RUN (R69, R183, R185). -/
def State.enterRun (s : State) : State :=
  { s with
    control := { s.control with mode := .run, autoRun := false }
    time := { s.time with pendingTime := none }
    groups := Vector.ofFn fun g =>
      s.groups[g].enterRun g s.router.active.groups[g].enabled s.schedules.active s.time.present s.time.runningSecond }

/-- What the arbiter reads, with the hold counts before this boundary's group slices (R117, R143). The alert states are those
the last second close left, whatever has turned an alert OFF since (R129, R143). -/
def State.arbiterView (s : State) (o : Order) (holdBefore : Vector Nat 8) : ArbiterView where
  run := decide (s.control.mode = .run)
  locked := decide (s.time.link = .locked)
  map := s.router.active
  live := s.channels.map fun ch => decide (ch.cond.state = .live)
  accounts := s.channels.map (·.account)
  deferring := Vector.ofFn fun g =>
    s.router.active.groups[g].enabled
      && (s.groups[g].alertAtClose
        || either (o.yes (.selectionBeforeSlice g)) (decide (0 < holdBefore[g])) (decide (0 < s.groups[g].holdCount)))

/-- A channel after the arbiter: a check start is held for a chosen channel and its companions, and a channel judged
INCOMPLETE on the way takes its result, which may meet the retry delay's decrement (R133, R137, R141, R143). -/
def Channel.afterSelection (ch : Channel) (o : Order) (second : Bool) (m : ChannelMap) (x : Selection) (now : Nat)
    (c : Chan) : Channel :=
  let judged := ch.account.result (CheckRecord.incomplete .state now .manual)
  { ch with
    cond := { ch.cond with request := if x.starts m c then .startHeld else ch.cond.request }
    account :=
      if c ∈ x.judged then
        (if second then either (o.yes (.resultBeforeTimers c)) judged.tickRetry judged else judged)
      else ch.account }

/-- The arbiter acts (R143). -/
def State.arbitrate (s : State) (o : Order) (second : Bool) (holdBefore : Vector Nat 8) : State :=
  let x := (s.arbiterView o holdBefore).select s.check
  { s with
    check := s.check.afterSelection s.router.active x s.time.runningSecond
    channels := Vector.ofFn fun c =>
      s.channels[c].afterSelection o second s.router.active x s.time.runningSecond c }

/-! ### The boundary -/

/-- The set of members each enabled group awaits for the opening slice (R76). -/
def awaitedSet (m : ChannelMap) (channels : Vector Channel 16) (g : Grp) : ChanSet :=
  membersOf m (fun c => decide (channels[c].cond.state ≠ .off)) g

/-- CLOCK SET, with the day and second-of-day set (R69, R154). -/
def clockSetEvent (t : TimeBase) : Event :=
  { Event.plain t.runningSecond .clockSet .none with detail := some ((t.day * 86400 + t.second : Nat) : Int) }

/-- The boundary up to the auto-run start and the arbiter: the state, and the records handed over. -/
def State.turnOver (s : State) (o : Order) (second : Bool) : State × Chains :=
  let records := s.closedSlices
  let op := s.opening second
  let x1 := s.checkAtBoundary records op
  let rows := s.rows records op x1
  let x2 := x1.engine.resolveStart (fun c => decide (rows[c] = .checkStart)) op.time.runningSecond
  let turn (c : Chan) := s.channelTurn second records rows (x1.decided.or x2.decided) c
  let channels := Vector.ofFn fun c => s.channelAtBoundary o second op x1 x2 (turn c) c
  let sliced := Vector.ofFn fun g => s.groupAfterSlice records g
  let reached := if second then reachAll s.control.lock op.time.runningSecond op.handed s.schedules
    else (s.schedules, [], [])
  let rings : BoundaryRings :=
    { unactivated := Vector.ofFn fun c => s.ringUnactivated (turn c) c channels[c].ring, after := channels.map (·.ring) }
  let closed := Vector.ofFn fun g =>
    if second then s.groupAtSecond o op reached.2.1 rings sliced[g].1 g else (sliced[g].1, [])
  ({ s with
      time := op.time
      router := op.router
      coefs := op.coefs
      channels := channels
      groups := Vector.ofFn fun g => { closed[g].1 with awaited := awaitedSet op.router.active channels g }
      schedules := reached.1
      exclusions := if second then expire s.exclusions op.time.runningSecond else s.exclusions
      check := x2.engine
      trunk := s.trunk.handHubAll x1.cells
      control := { s.control with restarted := false } },
    [op.mapEvent.toList.map .event, reached.2.2.map .event,
        if op.clockSet then [.event (clockSetEvent op.time)] else []]
      ++ (List.finRange 16).flatMap (fun c =>
          s.channelEvents op (turn c) (s.accountAtBoundary o second op (turn c) c).2 c)
      ++ (List.finRange 8).flatMap (fun g => sliced[g].2 ++ closed[g].2))

/-- Whether the auto-run start is taken at a boundary: armed, in CONFIG, and a SET TIME has taken effect (R185). -/
def State.autoRunStarts (s : State) (second : Bool) : Bool :=
  second && s.control.autoRun && decide (s.control.mode = .config) && s.time.pendingTime.isSome

/-- A slice boundary, which is also a second boundary where `second` says so (R63). -/
def State.boundary (s : State) (second : Bool) : State :=
  let o := Config.order s.choices
  let t := s.turnOver o second
  let started := if s.autoRunStarts second then t.1.enterRun else t.1
  let arbitrated := started.arbitrate o second (s.groups.map (·.holdCount))
  { arbitrated.emitAll 0 (handOver o t.2) with choices := s.choices + 1 }

end Sys2Proof.Machine
end

