-- ==== Sys2Proof/Machine/Operands.lean ====
section
/-! DEFINITION. Request payloads read into the operands of the commands, with the BAD_ARGUMENT tests and clamps of
each command's own rule (R2, R3, R7, R23, R94, R95, R96, R121, R144, R180, R184, R187), and the same entries laid out as
answer payloads (R175). A reader answers `none` exactly where the rule answers BAD_ARGUMENT. -/

namespace Sys2Proof.Machine

/-- Set a value outside its range to the nearer end (Conventions; R2). -/
def clamp (lo hi n : Nat) : Nat := min hi (max lo n)

/-- A level field of range 0.00 to 199.99 dB (R2). -/
def levelField (n : Nat) : Option Level :=
  if n ≤ 19999 then some n else none

/-- A payload of the length its form asks for (R180). -/
def ofLength (p : List Byte) (n : Nat) : Option Unit :=
  if p.length = n then some () else none

/-! ### Map commands -/

/-- The channel entry of a MAP CHANNEL write, from byte 2 of the payload (R2, R175). -/
def channelEntryOf (p : List Byte) : Option ChannelEntry := do
  let enabled ← yesNoOf (field p 2 1)
  let sourceSlot ← indexOf 64 (field p 3 1)
  let levelWeighting ← weightingOf (field p 4 1)
  let peakWeighting ← peakWeightingOf (field p 5 1)
  let sensitivity ← levelField (field p 6 2)
  let role ← roleOf (field p 8 1)
  let group ← groupOf (field p 9 1)
  let absentIntegration ← absentIntegrationOf (field p 10 1)
  let fillMode ← fillModeOf (field p 14 1)
  let autoCheck ← yesNoOf (field p 15 1)
  let referenceResponse ← levelField (field p 18 2)
  let quietLevel ← levelField (field p 22 2)
  pure
    { enabled, sourceSlot, levelWeighting, peakWeighting, sensitivity, role, group, absentIntegration,
      absentThreshold := field p 11 2
      overloadCount := clamp 1 255 (field p 13 1)
      fillMode, autoCheck
      checkInterval := clamp 60 1440 (field p 16 2)
      referenceResponse
      tolerance := clamp 10 200 (field p 20 2)
      quietLevel }

/-- A channel entry in the layout of its write payload, after map and channel (R175). -/
def channelEntryBytes (e : ChannelEntry) : List Byte :=
  beBytes 1 (yesNoCode e.enabled) ++ beBytes 1 e.sourceSlot ++ beBytes 1 (weightingCode e.levelWeighting)
    ++ beBytes 1 (peakWeightingCode e.peakWeighting) ++ beBytes 2 e.sensitivity ++ beBytes 1 (roleCode e.role)
    ++ beBytes 1 (groupCode e.group) ++ beBytes 1 e.absentIntegration.slices ++ beBytes 2 e.absentThreshold
    ++ beBytes 1 e.overloadCount ++ beBytes 1 (fillModeCode e.fillMode) ++ beBytes 1 (yesNoCode e.autoCheck)
    ++ beBytes 2 e.checkInterval ++ beBytes 2 e.referenceResponse ++ beBytes 2 e.tolerance ++ beBytes 2 e.quietLevel

/-- The group entry of a MAP GROUP write, from byte 2 of the payload (R3, R175). -/
def groupEntryOf (p : List Byte) : Option GroupEntry := do
  let enabled ← yesNoOf (field p 2 1)
  let background ← channelOf (field p 3 1)
  let correction ← yesNoOf (field p 4 1)
  let impulseFloor ← levelField (field p 9 2)
  pure
    { enabled, background, correction
      alertWindow := clamp 60 900 (field p 5 2)
      crestThreshold := clamp 0 4000 (field p 7 2)
      impulseFloor
      impulseHold := clamp 1 64 (field p 11 1) }

/-- A group entry in the layout of its write payload, after map and group (R175). -/
def groupEntryBytes (e : GroupEntry) : List Byte :=
  beBytes 1 (yesNoCode e.enabled) ++ beBytes 1 (channelCode e.background) ++ beBytes 1 (yesNoCode e.correction)
    ++ beBytes 2 e.alertWindow ++ beBytes 2 e.crestThreshold ++ beBytes 2 e.impulseFloor ++ beBytes 1 e.impulseHold

/-- A MAP CHANNEL write: bank, channel and entry (R5). -/
def mapChannelWriteOf (p : List Byte) : Option (Bank × Chan × ChannelEntry) := do
  ofLength p 24
  let m ← bankOf (field p 0 1)
  let c ← indexOf 16 (field p 1 1)
  let e ← channelEntryOf p
  pure (m, c, e)

/-- A MAP CHANNEL read: map and channel (R5). -/
def mapChannelReadOf (p : List Byte) : Option (MapName × Chan) := do
  ofLength p 2
  let m ← mapNameOf (field p 0 1)
  let c ← indexOf 16 (field p 1 1)
  pure (m, c)

/-- A MAP GROUP write: bank, group and entry (R6). -/
def mapGroupWriteOf (p : List Byte) : Option (Bank × Grp × GroupEntry) := do
  ofLength p 12
  let m ← bankOf (field p 0 1)
  let g ← indexOf 8 (field p 1 1)
  let e ← groupEntryOf p
  pure (m, g, e)

/-- A MAP GROUP read: map and group (R6). -/
def mapGroupReadOf (p : List Byte) : Option (MapName × Grp) := do
  ofLength p 2
  let m ← mapNameOf (field p 0 1)
  let g ← indexOf 8 (field p 1 1)
  pure (m, g)

/-- A MAP COMMIT: the bank (R7). -/
def mapCommitOf (p : List Byte) : Option Bank := do
  ofLength p 1
  bankOf (field p 0 1)

/-! ### Coefficients -/

/-- A COEF SECTION write: the section and its five coefficients (R23). -/
def coefWriteOf (p : List Byte) : Option (Fin 6 × CoefSet) := do
  ofLength p 22
  let i ← coefIndexOf (field p 0 1) (field p 1 1)
  pure (i,
    { b0 := signedField p 2 4
      b1 := signedField p 6 4
      b2 := signedField p 10 4
      a1 := signedField p 14 4
      a2 := signedField p 18 4 })

/-- A COEF SECTION read: the section (R24). -/
def coefReadOf (p : List Byte) : Option (Fin 6) := do
  ofLength p 2
  coefIndexOf (field p 0 1) (field p 1 1)

/-- A section and a coefficient set in the 22 bytes of the write payload (R23, R24, R175). -/
def coefBytes (i : Fin 6) (k : CoefSet) : List Byte :=
  beBytes 1 (i.val / 3) ++ beBytes 1 (i.val % 3) ++ beSigned 4 k.b0 ++ beSigned 4 k.b1 ++ beSigned 4 k.b2
    ++ beSigned 4 k.a1 ++ beSigned 4 k.a2

/-! ### Schedule commands -/

/-- A PERIOD ENTRY write: the index and the period fields, held in an entry without limits (R94). -/
def periodWriteOf (p : List Byte) : Option (Per × PeriodEntry) := do
  ofLength p 9
  let name ← scheduleNameOf (field p 0 1)
  let i ← indexOf 24 (field p 1 1)
  let enabled ← yesNoOf (field p 2 1)
  let startMinute := field p 4 2
  let endMinute := field p 6 2
  let length ← windowLengthOf (field p 8 1)
  if name = .staged ∧ field p 3 1 < 128 ∧ startMinute ≤ 1439 ∧ 1 ≤ endMinute ∧ endMinute ≤ 1440
      ∧ startMinute < endMinute then
    pure (i, { enabled, days := BitVec.ofNat 7 (field p 3 1), startMinute, endMinute, length,
               limits := Vector.replicate 8 none })
  else none

/-- A PERIOD ENTRY read: the schedule and the index (R94). -/
def periodReadOf (p : List Byte) : Option (ScheduleName × Per) := do
  ofLength p 2
  let name ← scheduleNameOf (field p 0 1)
  let i ← indexOf 24 (field p 1 1)
  pure (name, i)

/-- The period fields of an entry in the layout of their write payload, after schedule and index (R175). -/
def periodBytes (e : PeriodEntry) : List Byte :=
  beBytes 1 (yesNoCode e.enabled) ++ beBytes 1 e.days.toNat ++ beBytes 2 e.startMinute ++ beBytes 2 e.endMinute
    ++ beBytes 1 (windowLengthCode e.length)

/-- An optional level of a group limit record: read only where its presence mark is set (R95; log 15). -/
def optionalLevel (present : Bool) (n : Nat) : Option (Option Level) :=
  if present then (levelField n).map some else some none

/-- The group limit record of a GROUP LIMIT write, from byte 4 of the payload (R93, R95, R175). -/
def limitRecordOf (p : List Byte) : Option LimitRecord := do
  let mask := BitVec.ofNat 8 (field p 4 1)
  let leq ← levelField (field p 5 2)
  let alert ← optionalLevel (mask.getLsbD 0) (field p 7 2)
  let lmax ← optionalLevel (mask.getLsbD 1) (field p 9 2)
  let peak ← optionalLevel (mask.getLsbD 2) (field p 11 2)
  pure { leq, alert, lmax, peak
         penalty := clamp 0 1000 (field p 13 2)
         threshold := clamp 1 255 (field p 15 1) }

/-- A GROUP LIMIT with the write flag set: the entry, the group, and the record written or `none` for the action
remove (R95). Either action has the 16 bytes of the write form (R175, R180); a remove ignores the record's fields (log 15). -/
def limitWriteOf (p : List Byte) : Option (Per × Grp × Option LimitRecord) := do
  ofLength p 16
  let name ← scheduleNameOf (field p 0 1)
  let i ← indexOf 24 (field p 1 1)
  let g ← indexOf 8 (field p 2 1)
  if name = .staged then
    match field p 3 1 with
    | 0 => (limitRecordOf p).map fun r => (i, g, some r)
    | 1 => pure (i, g, none)
    | _ => none
  else none

/-- A GROUP LIMIT with the write flag clear: the schedule, the entry and the group (R95). An action other than
write or remove is refused here too (log 15). -/
def limitReadOf (p : List Byte) : Option (ScheduleName × Per × Grp) := do
  ofLength p 4
  let name ← scheduleNameOf (field p 0 1)
  let i ← indexOf 24 (field p 1 1)
  let g ← indexOf 8 (field p 2 1)
  if field p 3 1 < 2 then pure (name, i, g) else none

/-- A group limit record in the layout of its write payload, after schedule, index and group (R175); the action is
write (log 15). -/
def limitBytes (r : LimitRecord) : List Byte :=
  beBytes 1 0 ++ flagBytes 1 [r.alert.isSome, r.lmax.isSome, r.peak.isSome] ++ beBytes 2 r.leq ++ levelBytes r.alert
    ++ levelBytes r.lmax ++ levelBytes r.peak ++ beBytes 2 r.penalty ++ beBytes 1 r.threshold

/-- A SCHEDULE COMMIT: the mode (R96). -/
def scheduleCommitOf (p : List Byte) : Option CommitMode := do
  ofLength p 1
  commitModeOf (field p 0 1)

/-! ### Exclusion commands -/

/-- The operands of EXCLUDE ADD, a duration of `none` being "open" (R121). -/
structure ExcludeRequest where
  offset : Int
  duration : Option Nat
  mask : GrpSet
  reason : Nat
  deriving DecidableEq, Repr

/-- An EXCLUDE ADD, less the test of step 2, which needs the current second (R121). -/
def excludeAddOf (p : List Byte) : Option ExcludeRequest := do
  ofLength p 10
  let offset := signedField p 0 4
  let duration := field p 4 4
  let mask : GrpSet := BitVec.ofNat 8 (field p 8 1)
  let reason := field p 9 1
  if offset ≤ 86400 ∧ duration ≠ 0 ∧ mask ≠ 0 ∧ reason ≤ 15 then
    pure { offset, duration := if duration = allOnes 4 then none else some (min 86400 duration), mask, reason }
  else none

/-- The id of an EXCLUDE END or EXCLUDE CLEAR (R123, R124). -/
def excludeIdOf (p : List Byte) : Option (Fin 16) := do
  ofLength p 1
  indexOf 16 (field p 0 1)

/-- The selector of an EXCLUDE READ: "list" as `none`, or an id (R125, R175). -/
def excludeReadOf (p : List Byte) : Option (Option (Fin 16)) := do
  ofLength p 1
  if field p 0 1 = 255 then pure none else (indexOf 16 (field p 0 1)).map some

/-! ### The rest -/

/-- The channel mask of a CHECK START, not empty (R144). -/
def checkStartOf (p : List Byte) : Option ChanSet := do
  ofLength p 2
  if field p 0 2 = 0 then none else pure (BitVec.ofNat 16 (field p 0 2))

/-- The channel of CHECK READ, LEVEL READ and STATS READ (R45, R88, R146). -/
def channelArgOf (p : List Byte) : Option Chan := do
  ofLength p 1
  indexOf 16 (field p 0 1)

/-- A command without payload (R175, R180). -/
def noPayload (p : List Byte) : Option Unit := ofLength p 0

/-- The part a STATUS names; an empty payload asks for part 0 (R182). -/
def statusPartOf (p : List Byte) : Option (Fin 3) :=
  if p.length = 0 then some 0 else do
    ofLength p 1
    indexOf 3 (field p 0 1)

/-- The mode a SET MODE names: CONFIG or RUN (R184; codes: log 9). -/
def setModeOf (p : List Byte) : Option Mode := do
  ofLength p 1
  match field p 0 1 with
  | 1 => some .config
  | 2 => some .run
  | _ => none

/-- The level a LOCK names: 1 or 2 (R187). -/
def lockOf (p : List Byte) : Option Nat := do
  ofLength p 1
  match field p 0 1 with
  | 1 => some 1
  | 2 => some 2
  | _ => none

/-- The day and second-of-day of a SET TIME (R68). -/
def setTimeOf (p : List Byte) : Option Pos := do
  ofLength p 4
  if field p 0 1 ≤ 6 ∧ field p 1 3 ≤ 86399 then pure { day := field p 0 1, second := field p 1 3 } else none

/-- The trim of a TRIM TIME, clamped to -4 to +4 (R70). -/
def trimOf (p : List Byte) : Option Int := do
  ofLength p 1
  pure (max (-4) (min 4 (signedField p 0 1)))

/-- The sequence of a RESULT READ (R151). -/
def resultReadOf (p : List Byte) : Option Nat := do
  ofLength p 2
  pure (field p 0 2)

end Sys2Proof.Machine
end

