-- ==== Sys2Proof/Machine/Serve.lean ====
section
/-! DEFINITION. Taking a command: the broadcast address, the outgoing queue's place for the answer, the argument tests, and
the mode BOOT (R165, R180). -/

namespace Sys2Proof.Machine

/-- What a command leaves: the state before its records are handed over, those records, and its answer. -/
structure Reply where
  state : State
  chains : Chains
  code : ResultCode
  payload : List Byte
  deriving DecidableEq, Repr

/-- An answer that hands over no record. -/
def Reply.plain (s : State) (code : ResultCode) (payload : List Byte) : Reply where
  state := s
  chains := []
  code := code
  payload := payload

/-- BAD_ARGUMENT, with an empty payload and no effect (R180). -/
def Reply.badArgument (s : State) : Reply := .plain s .badArgument []

/-- WRONG_MODE with reason MODE (R176, R180). -/
def Reply.wrongMode (s : State) : Reply := .plain s .wrongMode [0]

/-- WRONG_MODE with reason CLOCK (R176, R180). -/
def Reply.clockUnset (s : State) : Reply := .plain s .wrongMode [1]

/-- A command taken in every mode: BAD_ARGUMENT where its operands cannot be read, else its own rule (R180). -/
def takeAlways {α : Type} (s : State) (operands : Option α) (rule : α → Reply) : Reply :=
  match operands with
  | none => .badArgument s
  | some a => rule a

/-- A command not taken in BOOT: its arguments are tested first, then the mode (R180). -/
def takeOutsideBoot {α : Type} (s : State) (operands : Option α) (rule : α → Reply) : Reply :=
  takeAlways s operands fun a => if s.control.mode = .boot then .wrongMode s else rule a

/-- A request carried out. Addressed to this node it needs a place for its answer, or is faulted OVERRUN; its records are
handed over and its answer is formed last. Broadcast, it is acted on and not answered where `broadcastable`, and ignored
otherwise (R163, R165, R180; log 11, 13). -/
def State.serve (s : State) (code : Byte) (write broadcastable : Bool) (r : Request) (rule : State → Reply) : State :=
  if r.broadcast then
    if broadcastable then (rule s).state.emit 0 (rule s).chains else s
  else if s.trunk.answerRoom then
    ((rule s).state.emit 1 (rule s).chains).answer write code r.tag (rule s).code (rule s).payload
  else s.cellFault .overrun

end Sys2Proof.Machine
end

