-- ==== Sys2Proof/Machine/Modes.lean ====
section
/-! DEFINITION. The commands of the Control Cell Engine and of the Time Base: IDENTIFY, STATUS, SET MODE, SET TIME, TRIM
TIME, RESTART, LOCK (R68, R70, R181 to R187). -/

namespace Sys2Proof.Machine

/-! ### IDENTIFY (R181) -/

/-- The fixed description of the part (R181). -/
def identifyBytes (node : Fin 4) : List Byte :=
  beBytes 2 1608 ++ beBytes 1 1 ++ beBytes 1 node.val ++ beBytes 1 16 ++ beBytes 1 8 ++ beBytes 2 512 ++ beBytes 1 64
    ++ beBytes 1 16 ++ beBytes 2 8192

/-- The rule of IDENTIFY. -/
def identifyRule (p : List Byte) (s : State) : Reply :=
  takeAlways s (noPayload p) fun _ => .plain s .ok (identifyBytes s.control.node)

/-! ### STATUS (R182) -/

/-- The index of a boot outcome in two bytes: the record's; the channel, the group, or the pair of entries, first entry
first, of a failed validation; absent otherwise. The reason of a failed validation is not sent (R182, R188, R190; the model's
choice: log 16). -/
def bootIndex : BootOutcome → List Byte
  | .record i => beBytes 2 i
  | .invalid (.memberNoGroup c) | .invalid (.groupNotMember c) | .invalid (.lockedField c) => beBytes 2 c.val
  | .invalid (.badBackground g) => beBytes 2 g.val
  | .invalid (.overlap i j) => beBytes 1 i.val ++ beBytes 1 j.val
  | _ => beOption 2 none

/-- A day and second-of-day (R175). -/
def posBytes (p : Pos) : List Byte := beBytes 1 p.day ++ beBytes 3 p.second

/-- The whole time record, in the order of R61 (R182; a held second-of-day: log 34). -/
def timeBytes (t : TimeBase) : List Byte :=
  beBytes 1 (linkCode t.link) ++ beBytes 1 (yesNoCode t.startUp) ++ beBytes 1 t.missingRun ++ beBytes 1 t.goodRun
    ++ beBytes 4 t.holdLength ++ beBytes 2 t.frameIndex ++ beBytes 1 t.sliceIndex ++ secondBytes t.runningSecond
    ++ beOption 3 (if t.held then none else some t.second) ++ beBytes 1 t.day ++ beBytes 1 (yesNoCode t.clockSet)
    ++ (match t.pendingTime with
        | some p => posBytes p
        | none => beOption 1 none ++ beOption 3 none)
    ++ beSigned 1 t.trim

/-- A latest group slice, each of its fields absent where it is; its four flags share one byte, and the mark "underrange" of its
level, which R78 gives in its prose and not in its field table, is not sent: the model's choices (R78, R175, R182;
log 45). -/
def groupSliceBytes : Option GroupSlice → List Byte
  | some g =>
    secondOptionBytes (some g.second) ++ beBytes 1 g.index ++ beBytes 1 g.count ++ levelBytes g.level
      ++ levelBytes g.maxPeak ++ flagBytes 1 [g.overload, g.suspect, g.holdOver, g.discarded]
  | none =>
    secondOptionBytes none ++ beOption 1 none ++ beOption 1 none ++ levelBytes none ++ levelBytes none
      ++ beOption 1 none

/-- A group's part of STATUS: alert state, latest rolling level, latest group slice (R182). -/
def groupStatusBytes (g : Group) : List Byte :=
  beBytes 1 (alertCode g.alertOn) ++ levelBytes g.rolling ++ groupSliceBytes g.latest

/-- A condition record, in the order of R47 (R182). -/
def conditionBytes (c : Condition) : List Byte :=
  beBytes 1 (channelStateCode c.state) ++ secondOptionBytes (c.enteredAt.map (·.1))
    ++ beOption 1 (c.enteredAt.map (·.2)) ++ beBytes 1 c.settleCount ++ beBytes 1 c.silentCount
    ++ beBytes 1 c.restoreCount ++ beBytes 1 (requestCode c.request) ++ beBytes 1 (yesNoCode c.restoreHeld)
    ++ beBytes 1 (suspectCode c.suspect) ++ beBytes 2 c.overloadedLive ++ secondOptionBytes c.lastOverload

/-- STATUS part 0: mode, lock level, boot outcome and index, auto-run mark, the time record, the groups (R182). -/
def statusPart0 (s : State) : List Byte :=
  beBytes 1 (modeCode s.control.mode) ++ beBytes 1 s.control.lock ++ beBytes 1 (bootOutcomeCode s.control.bootOutcome)
    ++ bootIndex s.control.bootOutcome ++ beBytes 1 (autoRunCode s.control.autoRun) ++ timeBytes s.time
    ++ s.groups.toList.flatMap groupStatusBytes

/-- A part of STATUS (R182). -/
def statusBytes (s : State) : Fin 3 → List Byte
  | 0 => statusPart0 s
  | 1 => (s.channels.toList.take 8).flatMap fun ch => conditionBytes ch.cond
  | 2 => (s.channels.toList.drop 8).flatMap fun ch => conditionBytes ch.cond

/-- The rule of STATUS. -/
def statusRule (p : List Byte) (s : State) : Reply :=
  takeAlways s (statusPartOf p) fun part => .plain s .ok (statusBytes s part)

/-! ### SET MODE (R183, R184) -/

/-- A group as SET MODE CONFIG leaves RUN: its windows are gone, its alert is OFF with its event (R113, R129, R130). -/
def Group.leaveRun (gr : Group) (g : Grp) (second : Nat) : Group × List Emission :=
  { gr with openWindow := none, dueWindows := [] }.handLimit g none none second

/-- The windows a group closes with "truncated" at SET MODE CONFIG, judged as they stand (R107 to R110, R113). -/
def State.truncatedCloses (s : State) (g : Grp) : List Emission :=
  let e := s.router.active.groups[g]
  closeDue ((s.groups[g].dueWindows ++ s.groups[g].openWindow.toList).map fun w =>
      { w with flags := { w.flags with truncated := true } })
    g (fun _ => (e.correction, backgroundLevel e fun c => s.channels[c].ring)) s.control.lock s.time.runningSecond

/-- The change from RUN to CONFIG by SET MODE (R113, R129, R183). -/
def State.leaveRun (s : State) : State :=
  { s with
    control := { s.control with mode := .config }
    groups := Vector.ofFn fun g => (s.groups[g].leaveRun g s.time.runningSecond).1 }

/-- The records of that change: the truncated results and the alerts' ends. -/
def State.leaveRunChains (s : State) : Chains :=
  (List.finRange 8).flatMap fun g =>
    [s.truncatedCloses g, (s.groups[g].leaveRun g s.time.runningSecond).2]

/-- The rule of SET MODE, tests in the order of R184. -/
def setModeRule (p : List Byte) (s : State) : Reply :=
  takeOutsideBoot s (setModeOf p) fun m =>
    if m = .run ∧ s.time.clockSet = false then .clockUnset s
    else if m = .config ∧ 2 ≤ s.control.lock then .plain s .locked []
    else if s.check.busy then .plain s .busy []
    else if m = s.control.mode then .plain s .ok []
    else if m = .run then .plain s.enterRun .ok []
    else { state := s.leaveRun, chains := s.leaveRunChains, code := .ok, payload := [] }

/-! ### SET TIME and TRIM TIME (R68, R70) -/

/-- The rule of SET TIME. -/
def setTimeRule (p : List Byte) (s : State) : Reply :=
  takeAlways s (setTimeOf p) fun t =>
    if s.control.mode ≠ .config ∧ s.time.clockSet = true then .wrongMode s
    else .plain { s with time := { s.time with pendingTime := some t } } .pendingResult (posBytes t)

/-- CLOCK TRIM, with the applied value (R70, R154). -/
def clockTrimEvent (second : Nat) (applied : Int) : Event :=
  { Event.plain second .clockTrim .none with detail := some applied }

/-- The rule of TRIM TIME. -/
def trimTimeRule (p : List Byte) (s : State) : Reply :=
  takeOutsideBoot s (trimOf p) fun t =>
    if s.time.clockSet = false then .clockUnset s
    else
      let balance := trimBalance s.time.trim t
      let applied := balance - s.time.trim
      { state := { s with time := { s.time with trim := balance } }
        chains := [if applied = 0 then [] else [.event (clockTrimEvent s.time.runningSecond applied)]]
        code := .ok
        payload := beSigned 1 applied }

/-! ### RESTART (R186) -/

/-- A channel at RESTART: OFF, with its history cleared, its section states 0 and its hold value kept (R28, R46, R60, R85,
R148, R161). -/
def Channel.restart (ch : Channel) : Channel :=
  { Channel.reset with holdValue := ch.holdValue }

/-- The Check Engine at RESTART: as at power-on (R148; the kind: log 19). -/
def CheckEngine.restart (_ : CheckEngine) : CheckEngine := CheckEngine.reset

/-- The Trunk Interface at RESTART: all queues, buffers and marks cleared, then DRIVE OFF entered where the drive was on
(R166, R169, R186). -/
def Trunk.restart (t : Trunk) (driveOff : List Cell) : Trunk :=
  { t with
    out := [], through := [], turn := .passThrough, hub := [], retThrough := [], lastFault := none
    discard := false, parser := .hunting }.handHubAll driveOff

/-- The part after RESTART, before the answer (R186). -/
def State.restart (s : State) : State :=
  { s with
    router := { s.router with pendingMap := none }
    coefs := s.coefs.map CoefSection.discard
    channels := s.channels.map Channel.restart
    groups := Vector.replicate 8 Group.reset
    schedules := { s.schedules with pendingSchedule := none }
    exclusions := []
    check := s.check.restart
    results := ResultStore.reset
    events := EventQueue.reset
    trunk := s.trunk.restart s.check.driveOff
    control := { s.control with mode := .config, autoRun := false, restarted := true } }

/-- The rule of RESTART. -/
def restartRule (p : List Byte) (s : State) : Reply :=
  takeOutsideBoot s (noPayload p) fun _ =>
    if 2 ≤ s.control.lock then .plain s .locked [] else .plain s.restart .ok []

/-! ### LOCK (R187) -/

/-- The LOCK event, with the new level (R154, R187). -/
def lockEvent (second level : Nat) : Event :=
  { Event.plain second .lock .none with detail := some (level : Int) }

/-- The lock raised to a level: at a rise from 0 the locked fields of the active map become the locked values (R187). -/
def State.raiseLock (s : State) (level : Nat) : State :=
  { s with control := { s.control with
      lock := level
      locked := if s.control.lock = 0 then some s.router.active.lockedFields else s.control.locked } }

/-- The rule of LOCK, tests in the order of R187. -/
def lockRule (p : List Byte) (s : State) : Reply :=
  takeOutsideBoot s (lockOf p) fun level =>
    if level ≤ s.control.lock then .plain s .ok (beBytes 1 s.control.lock)
    else if level = 2 ∧ s.control.mode ≠ .run then .wrongMode s
    else
      { state := s.raiseLock level
        chains := [[.event (lockEvent s.time.runningSecond level)]]
        code := .ok
        payload := beBytes 1 level }

/-! ### The requests -/

/-- An IDENTIFY request taken. -/
def serveIdentify (r : Request) (s : State) : State :=
  s.serve (commandCode .identify) r.write false r (identifyRule r.payload)

/-- A STATUS request taken. -/
def serveStatus (r : Request) (s : State) : State :=
  s.serve (commandCode .status) r.write false r (statusRule r.payload)

/-- A SET MODE request taken. -/
def serveSetMode (r : Request) (s : State) : State :=
  s.serve (commandCode .setMode) r.write false r (setModeRule r.payload)

/-- A SET TIME request taken; acted on when broadcast (R68, R180). -/
def serveSetTime (r : Request) (s : State) : State :=
  s.serve (commandCode .setTime) r.write true r (setTimeRule r.payload)

/-- A TRIM TIME request taken; acted on when broadcast (R70, R180). -/
def serveTrimTime (r : Request) (s : State) : State :=
  s.serve (commandCode .trimTime) r.write true r (trimTimeRule r.payload)

/-- A RESTART request taken. -/
def serveRestart (r : Request) (s : State) : State :=
  s.serve (commandCode .restart) r.write false r (restartRule r.payload)

/-- A LOCK request taken. -/
def serveLock (r : Request) (s : State) : State :=
  s.serve (commandCode .lock) r.write false r (lockRule r.payload)

/-- IDENTIFY (R181). -/
def execIdentify (r : Request) (s : State) : Host.Outcome State Fault Refusal := .next (serveIdentify r s)

/-- STATUS (R182). -/
def execStatus (r : Request) (s : State) : Host.Outcome State Fault Refusal := .next (serveStatus r s)

/-- SET MODE (R184). -/
def execSetMode (r : Request) (s : State) : Host.Outcome State Fault Refusal := .next (serveSetMode r s)

/-- SET TIME (R68). -/
def execSetTime (r : Request) (s : State) : Host.Outcome State Fault Refusal := .next (serveSetTime r s)

/-- TRIM TIME (R70). -/
def execTrimTime (r : Request) (s : State) : Host.Outcome State Fault Refusal := .next (serveTrimTime r s)

/-- RESTART (R186). -/
def execRestart (r : Request) (s : State) : Host.Outcome State Fault Refusal := .next (serveRestart r s)

/-- LOCK (R187). -/
def execLock (r : Request) (s : State) : Host.Outcome State Fault Refusal := .next (serveLock r s)

end Sys2Proof.Machine
end

