-- ==== Sys2Proof/Machine/Maps.lean ====
section
/-! DEFINITION. The map commands and COEF SECTION (R5 to R8, R23, R24). -/

namespace Sys2Proof.Machine

/-- The map a name stands for; the pending one may be absent (R4, R5). -/
def Router.named (r : Router) : MapName → Option ChannelMap
  | .bankA => some r.bankA
  | .bankB => some r.bankB
  | .active => some r.active
  | .pendingMap => r.pendingMap.map (·.1)

/-- The code of a map name (R175). -/
def mapNameCode : MapName → Nat
  | .bankA => 0
  | .bankB => 1
  | .active => 2
  | .pendingMap => 3

/-! ### MAP CHANNEL and MAP GROUP -/

/-- The part with a channel entry written to a bank (R5). -/
def State.writeChannel (s : State) (k : Bank) (c : Chan) (e : ChannelEntry) : State :=
  { s with router := s.router.setBank k ((s.router.bank k).setChannel c e) }

/-- The rule of MAP CHANNEL with the write flag set. -/
def mapChannelWriteRule (p : List Byte) (s : State) : Reply :=
  takeOutsideBoot s (mapChannelWriteOf p) fun a =>
    .plain (s.writeChannel a.1 a.2.1 a.2.2) .ok
      (beBytes 1 (bankCode a.1) ++ beBytes 1 a.2.1.val ++ channelEntryBytes a.2.2)

/-- The rule of MAP CHANNEL with the write flag clear. -/
def mapChannelReadRule (p : List Byte) (s : State) : Reply :=
  takeOutsideBoot s (mapChannelReadOf p) fun a =>
    match s.router.named a.1 with
    | some m =>
      .plain s .ok (beBytes 1 (mapNameCode a.1) ++ beBytes 1 a.2.val ++ channelEntryBytes m.channels[a.2])
    | none => .plain s .notAvailable []

/-- The part with a group entry written to a bank (R6). -/
def State.writeGroup (s : State) (k : Bank) (g : Grp) (e : GroupEntry) : State :=
  { s with router := s.router.setBank k ((s.router.bank k).setGroup g e) }

/-- The rule of MAP GROUP with the write flag set. -/
def mapGroupWriteRule (p : List Byte) (s : State) : Reply :=
  takeOutsideBoot s (mapGroupWriteOf p) fun a =>
    .plain (s.writeGroup a.1 a.2.1 a.2.2) .ok
      (beBytes 1 (bankCode a.1) ++ beBytes 1 a.2.1.val ++ groupEntryBytes a.2.2)

/-- The rule of MAP GROUP with the write flag clear. -/
def mapGroupReadRule (p : List Byte) (s : State) : Reply :=
  takeOutsideBoot s (mapGroupReadOf p) fun a =>
    match s.router.named a.1 with
    | some m => .plain s .ok (beBytes 1 (mapNameCode a.1) ++ beBytes 1 a.2.val ++ groupEntryBytes m.groups[a.2])
    | none => .plain s .notAvailable []

/-! ### MAP COMMIT (R7, R8) -/

/-- The payload of an INVALID_TABLE answer: the reason, and the index or pair (R7, R96, R176). -/
def tableFaultBytes : TableFault → List Byte
  | .memberNoGroup c => beBytes 1 0 ++ beBytes 1 c.val
  | .groupNotMember c => beBytes 1 1 ++ beBytes 1 c.val
  | .badBackground g => beBytes 1 2 ++ beBytes 1 g.val
  | .lockedField c => beBytes 1 3 ++ beBytes 1 c.val
  | .overlap i j => beBytes 1 4 ++ beBytes 1 i.val ++ beBytes 1 j.val

/-- The part with a bank copied into the pending map (R7). -/
def State.commitMap (s : State) (k : Bank) : State :=
  { s with router := { s.router with pendingMap := some (s.router.bank k, k) } }

/-- The rule of MAP COMMIT. -/
def mapCommitRule (p : List Byte) (s : State) : Reply :=
  takeOutsideBoot s (mapCommitOf p) fun k =>
    if 2 ≤ s.control.lock then .plain s .locked []
    else match validateMap s.control.lock s.control.locked (s.router.bank k) with
      | some f => .plain s .invalidTable (tableFaultBytes f)
      | none => .plain (s.commitMap k) .pendingResult (beBytes 1 (bankCode k))

/-! ### COEF SECTION (R23, R24) -/

/-- The part with a waiting set written (R23). -/
def State.writeCoefs (s : State) (i : Fin 6) (k : CoefSet) : State :=
  { s with coefs := s.coefs.set i { s.coefs[i] with waiting := some k } }

/-- The rule of COEF SECTION with the write flag set, in the order of R23. -/
def coefWriteRule (p : List Byte) (s : State) : Reply :=
  takeAlways s (coefWriteOf p) fun a =>
    if s.control.mode ≠ .config then .wrongMode s
    else if 1 ≤ s.control.lock then .plain s .locked []
    else .plain (s.writeCoefs a.1 a.2) .pendingResult (coefBytes a.1 a.2)

/-- The rule of COEF SECTION with the write flag clear. -/
def coefReadRule (p : List Byte) (s : State) : Reply :=
  takeOutsideBoot s (coefReadOf p) fun i => .plain s .ok (coefBytes i s.coefs[i].inForce)

/-! ### The requests -/

/-- A MAP CHANNEL write request taken. -/
def serveMapChannelWrite (r : Request) (s : State) : State :=
  s.serve (commandCode .mapChannel) true false r (mapChannelWriteRule r.payload)

/-- A MAP CHANNEL read request taken. -/
def serveMapChannelRead (r : Request) (s : State) : State :=
  s.serve (commandCode .mapChannel) false false r (mapChannelReadRule r.payload)

/-- A MAP GROUP write request taken. -/
def serveMapGroupWrite (r : Request) (s : State) : State :=
  s.serve (commandCode .mapGroup) true false r (mapGroupWriteRule r.payload)

/-- A MAP GROUP read request taken. -/
def serveMapGroupRead (r : Request) (s : State) : State :=
  s.serve (commandCode .mapGroup) false false r (mapGroupReadRule r.payload)

/-- A MAP COMMIT request taken. -/
def serveMapCommit (r : Request) (s : State) : State :=
  s.serve (commandCode .mapCommit) r.write false r (mapCommitRule r.payload)

/-- A COEF SECTION write request taken. -/
def serveCoefWrite (r : Request) (s : State) : State :=
  s.serve (commandCode .coefSection) true false r (coefWriteRule r.payload)

/-- A COEF SECTION read request taken. -/
def serveCoefRead (r : Request) (s : State) : State :=
  s.serve (commandCode .coefSection) false false r (coefReadRule r.payload)

/-- MAP CHANNEL, write form (R5). -/
def execMapChannelWrite (r : Request) (s : State) : Host.Outcome State Fault Refusal :=
  .next (serveMapChannelWrite r s)

/-- MAP CHANNEL, read form (R5). -/
def execMapChannelRead (r : Request) (s : State) : Host.Outcome State Fault Refusal :=
  .next (serveMapChannelRead r s)

/-- MAP GROUP, write form (R6). -/
def execMapGroupWrite (r : Request) (s : State) : Host.Outcome State Fault Refusal := .next (serveMapGroupWrite r s)

/-- MAP GROUP, read form (R6). -/
def execMapGroupRead (r : Request) (s : State) : Host.Outcome State Fault Refusal := .next (serveMapGroupRead r s)

/-- MAP COMMIT (R7). -/
def execMapCommit (r : Request) (s : State) : Host.Outcome State Fault Refusal := .next (serveMapCommit r s)

/-- COEF SECTION, write form (R23). -/
def execCoefSectionWrite (r : Request) (s : State) : Host.Outcome State Fault Refusal := .next (serveCoefWrite r s)

/-- COEF SECTION, read form (R24). -/
def execCoefSectionRead (r : Request) (s : State) : Host.Outcome State Fault Refusal := .next (serveCoefRead r s)

end Sys2Proof.Machine
end

