-- ==== Sys2Proof/Machine/ScheduleCommands.lean ====
section
/-! DEFINITION. The schedule commands: PERIOD ENTRY, GROUP LIMIT, SCHEDULE COMMIT (R94 to R96). -/

namespace Sys2Proof.Machine

/-- The schedule a name stands for; the pending one may be absent (R92, R94). -/
def Schedules.named (s : Schedules) : ScheduleName → Option Schedule
  | .staged => some s.staged
  | .pendingSchedule => s.pendingSchedule.map (·.1)
  | .active => some s.active

/-- The code of a schedule name (R175). -/
def scheduleNameCode : ScheduleName → Nat
  | .staged => 0
  | .pendingSchedule => 1
  | .active => 2

/-- A staged entry written (R94, R95). -/
def Schedules.setStaged (s : Schedules) (i : Per) (e : PeriodEntry) : Schedules :=
  { s with staged := s.staged.set i e }

/-- The period fields replaced, the group limit records kept (R94). -/
def Schedules.writePeriod (s : Schedules) (i : Per) (e : PeriodEntry) : Schedules :=
  s.setStaged i { e with limits := s.staged[i].limits }

/-- A group limit record written, or removed (R95). -/
def Schedules.writeLimit (s : Schedules) (i : Per) (g : Grp) (r : Option LimitRecord) : Schedules :=
  s.setStaged i { s.staged[i] with limits := s.staged[i].limits.set g r }

/-- The groups that have a record in an entry (R94). -/
def limitGroups (e : PeriodEntry) : List Bool := e.limits.toList.map (·.isSome)

/-- The rule of PERIOD ENTRY with the write flag set. -/
def periodWriteRule (p : List Byte) (s : State) : Reply :=
  takeOutsideBoot s (periodWriteOf p) fun a =>
    .plain { s with schedules := s.schedules.writePeriod a.1 a.2 } .ok
      (beBytes 1 (scheduleNameCode .staged) ++ beBytes 1 a.1.val ++ periodBytes a.2)

/-- The rule of PERIOD ENTRY with the write flag clear: the entry, and the set of groups that have a record in it. -/
def periodReadRule (p : List Byte) (s : State) : Reply :=
  takeOutsideBoot s (periodReadOf p) fun a =>
    match s.schedules.named a.1 with
    | some d =>
      .plain s .ok (beBytes 1 (scheduleNameCode a.1) ++ beBytes 1 a.2.val ++ periodBytes d[a.2]
        ++ flagBytes 1 (limitGroups d[a.2]))
    | none => .plain s .notAvailable []

/-- The schedule, entry and group that a GROUP LIMIT answer names, before its record (R175). -/
def limitHead (n : ScheduleName) (i : Per) (g : Grp) : List Byte :=
  beBytes 1 (scheduleNameCode n) ++ beBytes 1 i.val ++ beBytes 1 g.val

/-- The rule of GROUP LIMIT with the write flag set: action write stores the record, action remove makes it absent. -/
def limitWriteRule (p : List Byte) (s : State) : Reply :=
  takeOutsideBoot s (limitWriteOf p) fun a =>
    .plain { s with schedules := s.schedules.writeLimit a.1 a.2.1 a.2.2 } .ok
      (match a.2.2 with
        | some r => limitHead .staged a.1 a.2.1 ++ limitBytes r
        | none => [])

/-- The rule of GROUP LIMIT with the write flag clear. -/
def limitReadRule (p : List Byte) (s : State) : Reply :=
  takeOutsideBoot s (limitReadOf p) fun a =>
    match (s.schedules.named a.1).bind fun d => d[a.2.1].limits[a.2.2] with
    | some r => .plain s .ok (limitHead a.1 a.2.1 a.2.2 ++ limitBytes r)
    | none => .plain s .notAvailable []

/-- The part with the staged schedule copied into the pending one (R96). -/
def State.commitSchedule (s : State) (m : CommitMode) : State :=
  { s with schedules := { s.schedules with pendingSchedule := some (s.schedules.staged, m) } }

/-- The rule of SCHEDULE COMMIT. -/
def scheduleCommitRule (p : List Byte) (s : State) : Reply :=
  takeOutsideBoot s (scheduleCommitOf p) fun m =>
    if 2 ≤ s.control.lock then .plain s .locked []
    else match firstOverlap s.schedules.staged with
      | some f => .plain s .invalidTable (tableFaultBytes f)
      | none => .plain (s.commitSchedule m) .pendingResult (beBytes 1 (commitModeCode m))

/-! ### The requests -/

/-- A PERIOD ENTRY write request taken. -/
def servePeriodWrite (r : Request) (s : State) : State :=
  s.serve (commandCode .periodEntry) true false r (periodWriteRule r.payload)

/-- A PERIOD ENTRY read request taken. -/
def servePeriodRead (r : Request) (s : State) : State :=
  s.serve (commandCode .periodEntry) false false r (periodReadRule r.payload)

/-- A GROUP LIMIT request with the write flag set taken, whichever action it names. -/
def serveLimitWrite (r : Request) (s : State) : State :=
  s.serve (commandCode .groupLimit) true false r (limitWriteRule r.payload)

/-- A GROUP LIMIT read request taken. -/
def serveLimitRead (r : Request) (s : State) : State :=
  s.serve (commandCode .groupLimit) false false r (limitReadRule r.payload)

/-- A SCHEDULE COMMIT request taken. -/
def serveScheduleCommit (r : Request) (s : State) : State :=
  s.serve (commandCode .scheduleCommit) r.write false r (scheduleCommitRule r.payload)

/-- PERIOD ENTRY, write form (R94). -/
def execPeriodEntryWrite (r : Request) (s : State) : Host.Outcome State Fault Refusal := .next (servePeriodWrite r s)

/-- PERIOD ENTRY, read form (R94). -/
def execPeriodEntryRead (r : Request) (s : State) : Host.Outcome State Fault Refusal := .next (servePeriodRead r s)

/-- GROUP LIMIT, action write (R95). -/
def execGroupLimitWrite (r : Request) (s : State) : Host.Outcome State Fault Refusal := .next (serveLimitWrite r s)

/-- GROUP LIMIT, action remove (R95). -/
def execGroupLimitRemove (r : Request) (s : State) : Host.Outcome State Fault Refusal := .next (serveLimitWrite r s)

/-- GROUP LIMIT, read form (R95). -/
def execGroupLimitRead (r : Request) (s : State) : Host.Outcome State Fault Refusal := .next (serveLimitRead r s)

/-- SCHEDULE COMMIT (R96). -/
def execScheduleCommit (r : Request) (s : State) : Host.Outcome State Fault Refusal := .next (serveScheduleCommit r s)

end Sys2Proof.Machine
end

