-- ==== Sys2Proof/Machine/Boot.lean ====
section
/-! DEFINITION. Power-on and the boot image: POWER_ON, BOOT_LOAD_END (R15, R27, R98, R179, R183, R188 to R190; log 4, 15, 18,
20, 36). -/

namespace Sys2Proof.Machine

/-- The part right after a power-on that reads the straps as `straps` (R183). The commands that wait, and the count of
free orders drawn, lie outside the part (log 19, 36). -/
def State.powerOn (s : State) (straps : Fin 4) : State :=
  { State.reset with control := Control.powerOn straps, choices := s.choices, pending := s.pending }

/-- POWER_ON (R183). -/
def execPowerOn (straps : Fin 4) (s : State) : Host.Outcome State Fault Refusal := .next (s.powerOn straps)

/-! ### The read (R188) -/

/-- The device address byte with the write bit: address 80 (R188). -/
def deviceWriteByte : Byte := 0xA0

/-- The device address byte with the read bit (R188). -/
def deviceReadByte : Byte := 0xA1

/-- One transaction of the memory port that reads `n` bytes from an address, as far as the memory acknowledges it; a
missing acknowledgement ends it with a stop (R188; log 20). -/
def portTransaction (a : PortAcks) (address n : Nat) : List PortAct :=
  [.start, .send deviceWriteByte]
    ++ if !a.deviceWrite then [.stop] else .send (BitVec.ofNat 8 (address / 256))
      :: if !a.addressHigh then [.stop] else .send (BitVec.ofNat 8 address)
        :: if !a.addressLow then [.stop] else .repeatedStart :: .send deviceReadByte
          :: if !a.deviceRead then [.stop] else [.receive n, .stop]

/-- Whether the memory acknowledges every transfer of a transaction (R188, step 1). -/
def acknowledged (a : PortAcks) : Bool := a.deviceWrite && a.addressHigh && a.addressLow && a.deviceRead

/-- `n` bytes of the memory from an address; past its end it reads as ones (R188; log 20). -/
def memoryBytes (m : MemoryRead) (address n : Nat) : List Byte :=
  (List.range n).map fun k => (m.bytes[address + k]?).getD 0xFF

/-- The body length the header gives (R179). -/
def imageLength (m : MemoryRead) : Nat := beNat (memoryBytes m 0 2)

/-- The auto-run bit of the header (R179). -/
def imageAutoRun (m : MemoryRead) : Bool := (beNat (memoryBytes m 2 1)) % 2 == 1

/-- The header's record count (R179). -/
def imageCount (m : MemoryRead) : Nat := beNat (memoryBytes m 3 1)

/-- The header's CRC-16 over the body (R179). -/
def imageCheck (m : MemoryRead) : Nat := beNat (memoryBytes m 4 2)

/-- The body (R179). -/
def imageBody (m : MemoryRead) : List Byte := memoryBytes m 6 (imageLength m)

/-- What the part does on the memory port at the load: the header's transaction, and the body's where the header's is
acknowledged and gives a length that fits (R188). -/
def portActs (m : MemoryRead) : List PortAct :=
  portTransaction m.header 0 6
    ++ if acknowledged m.header && decide (imageLength m ≤ 8186) then portTransaction m.body 6 (imageLength m) else []

/-! ### The records (R189) -/

/-- What the records write: bank A, the staged schedule, and the waiting sets. -/
structure BootTables where
  bankA : ChannelMap
  schedules : Schedules
  coefs : Vector CoefSection 6
  deriving DecidableEq, Repr

/-- One record applied as a write, or refused (R189). -/
def BootTables.record (t : BootTables) (code : Byte) (p : List Byte) : Option BootTables :=
  match commandOf code with
  | some .mapChannel =>
    match mapChannelWriteOf p with
    | some (.a, c, e) => some { t with bankA := t.bankA.setChannel c e }
    | _ => none
  | some .mapGroup =>
    match mapGroupWriteOf p with
    | some (.a, g, e) => some { t with bankA := t.bankA.setGroup g e }
    | _ => none
  | some .coefSection =>
    (coefWriteOf p).map fun a => { t with coefs := t.coefs.set a.1 { t.coefs[a.1] with waiting := some a.2 } }
  | some .periodEntry => (periodWriteOf p).map fun a => { t with schedules := t.schedules.writePeriod a.1 a.2 }
  | some .groupLimit => (limitWriteOf p).map fun a => { t with schedules := t.schedules.writeLimit a.1 a.2.1 a.2.2 }
  | _ => none

/-- The records of a body taken in turn from index `i`: the tables and the count, or the index of the refused record
(R189). `fuel` bounds the records by the bytes. -/
def takeRecords : Nat → List Byte → Nat → BootTables → Except Nat (BootTables × Nat)
  | 0, _, i, t => .ok (t, i)
  | _ + 1, [], i, t => .ok (t, i)
  | _ + 1, [_], i, _ => .error i
  | fuel + 1, code :: len :: rest, i, t =>
    if rest.length < len.toNat then .error i
    else match t.record code (rest.take len.toNat) with
      | none => .error i
      | some t => takeRecords fuel (rest.drop len.toNat) (i + 1) t

/-- The judgment of the image, the first failing step of R188; an accepted image gives the tables it writes. R188 says that a
body length of 0 with record count 0 passes every step, while its step 3 fails one whose header CRC-16 is not that of the empty
body, FFFF: the model holds to step 3 and fails it with CHECK (DESIGN CHOICE, log 53). -/
def judgeImage (m : MemoryRead) (t : BootTables) : Except BootOutcome BootTables :=
  if !(acknowledged m.header) then .error .noResponse
  else if 8186 < imageLength m then .error .length
  else if !(acknowledged m.body) then .error .noResponse
  else if (crc16 (imageBody m)).toNat ≠ imageCheck m then .error .check
  else match takeRecords (imageLength m + 1) (imageBody m) 0 t with
    | .error i => .error (.record i)
    | .ok (w, n) =>
      if n ≠ imageCount m then .error (.record (min n (imageCount m)))
      else match validateMap 0 none w.bankA with
        | some f => .error (.invalid f)
        | none =>
          match firstOverlap w.schedules.staged with
          | some f => .error (.invalid f)
          | none => .ok w

/-! ### The end of the load (R190) -/

/-- The part with an image discarded (R15, R27, R98, R190). -/
def State.discardImage (s : State) (why : BootOutcome) : State :=
  { s with
    router := { s.router with bankA := ChannelMap.default }
    schedules := { s.schedules with staged := Schedule.default }
    coefs := Vector.replicate 6 CoefSection.reset
    control := { s.control with bootOutcome := why, autoRun := false, mode := .config } }

/-- The part with an image accepted, in CONFIG (R7, R27, R96, R190). -/
def State.acceptImage (s : State) (t : BootTables) (autoRun : Bool) : State :=
  { s with
    router := { s.router with bankA := t.bankA, pendingMap := some (t.bankA, .a) }
    schedules := { t.schedules with pendingSchedule := some (t.schedules.staged, .immediate) }
    coefs := t.coefs.map CoefSection.place
    control := { s.control with bootOutcome := .accepted, bootDefault := false, autoRun := autoRun, mode := .config } }

/-- The end of the boot image load: the image is judged, and the part enters CONFIG, or RUN where the auto-run start is
taken with the clock set (R183, R185, R190). -/
def State.endLoad (s : State) (m : MemoryRead) : State :=
  let s := { s with control := { s.control with portLog := portActs m } }
  match judgeImage m { bankA := s.router.bankA, schedules := s.schedules, coefs := s.coefs } with
  | .error why => s.discardImage why
  | .ok t =>
    let accepted := s.acceptImage t (imageAutoRun m)
    if imageAutoRun m && s.time.clockSet then accepted.enterRun else accepted

/-- BOOT_LOAD_END (R190). The load is in progress in BOOT alone; outside it nothing ends (log 4). -/
def execBootLoadEnd (m : MemoryRead) (s : State) : Host.Outcome State Fault Refusal :=
  if s.control.mode = .boot then .next (s.endLoad m) else .next s

end Sys2Proof.Machine
end

