-- ==== Sys2Proof/Machine/Frames.lean ====
section
/-! DEFINITION. Sample frames and frame periods, the link, the boundaries and the interval timer as commands: SAMPLE_FRAME,
FRAME_PERIOD, LINK_LOSS, LINK_RESTORATION, SLICE_BOUNDARY, SECOND_BOUNDARY, INTERVAL_TIMER_EXPIRY (R1, R31, R62 to R67,
R141, R159 to R161; log 2, 3, 4, 23). -/

namespace Sys2Proof.Machine

/-! ### Frames (R159 to R161, R171) -/

/-- The bytes of a frame that its check covers: the header and the slots in the order sent (R159, R171). -/
def frameBytes (count status : Byte) (samples : List Sample) : List Byte :=
  [count, status] ++ samples.flatMap sampleBytes

/-- Whether a frame is good: its layout is a frame's and its check matches (R159, R171; log 23). -/
def goodFrame (f : Frame) : Bool :=
  decide (f.count.toNat ≤ 64) && decide (f.samples.length = f.count.toNat)
    && decide (f.check = crc16 (frameBytes f.count f.status f.samples))

/-- The idle frame the part sends of its own in HOLD-OVER (R160). -/
def idleFrame : Frame where
  count := 0
  status := 0
  samples := []
  check := crc16 (frameBytes 0 0 [])

/-- Whether a channel asks for fill in a slot: quenched, on that source slot, with fill mode zero or hold (R161). -/
def State.asksFill (s : State) (slot : Nat) (c : Chan) : Bool :=
  let e := s.router.active.channels[c]
  let st := s.channels[c].cond.state
  decide (e.sourceSlot.val = slot) && (decide (st = .absent) || decide (st = .checking)) && decide (e.fillMode ≠ .pass)

/-- The value that substitutes a slot, if any channel asks for fill (R161). -/
def State.fillValue (s : State) (slot : Nat) : Option Sample :=
  let asking := (List.finRange 16).filter (s.asksFill slot)
  match asking with
  | [] => none
  | c :: _ =>
    if asking.any fun d => decide (s.router.active.channels[d].fillMode = .zero) then some 0
    else some s.channels[c].holdValue

/-- The samples as sent on Trunk Out: slot by slot, substituted where fill is asked (R160, R161). -/
def State.sentFrom (s : State) : Nat → List Sample → List Sample
  | _, [] => []
  | slot, x :: rest => (s.fillValue slot).getD x :: s.sentFrom (slot + 1) rest

/-- Whether a slot of a good frame is substituted (R160, R161). -/
def State.substitutes (s : State) (f : Frame) : Bool :=
  (List.range f.samples.length).any fun slot => (s.fillValue slot).isSome

/-- A good frame as forwarded (R160): unmodified, or with the substituted samples and a recomputed check. -/
def State.forwardedFrame (s : State) (f : Frame) : Frame :=
  if s.substitutes f then
    let sent := s.sentFrom 0 f.samples
    { f with samples := sent, check := crc16 (frameBytes f.count f.status sent) }
  else f

/-- The samples last sent, after a good frame (R161). -/
def sentAfter (last : Vector Sample 64) (sent : List Sample) : Vector Sample 64 :=
  Vector.ofFn fun i => (sent[i.val]?).getD last[i]

/-- A good frame's samples reach the channels: the sample of the source slot, or a missing sample where the slot lies at
or above the slot count (R1, R21, R30). -/
def State.routeSamples (s : State) (samples : List Sample) : State :=
  { s with channels := Vector.ofFn fun c =>
      let e := s.router.active.channels[c]
      match samples[e.sourceSlot.val]? with
      | some x => s.channels[c].takeSample s.coefs e x
      | none => s.channels[c] }

/-- A good frame is routed as it arrived and sent on Trunk Out (R1, R160, R161). -/
def State.carryGood (s : State) (f : Frame) : State :=
  let out := s.forwardedFrame f
  { s.routeSamples f.samples with
    trunk := { s.trunk with frameOut := some out, lastSent := sentAfter s.trunk.lastSent out.samples } }

/-- A bad frame is sent unmodified (R160). -/
def State.carryBad (s : State) (f : Frame) : State :=
  { s with trunk := { s.trunk with frameOut := some f } }

/-- A frame period with no frame: in HOLD-OVER the part's own idle frame is sent, in LOCKED none (R160). -/
def State.carryNone (s : State) : State :=
  { s with trunk := { s.trunk with frameOut := match s.time.link with
      | .holdOver => some idleFrame
      | .locked => none } }

/-! ### The link (R31, R55, R65 to R67) -/

/-- The slice in progress takes the hold-over mark (R31). -/
def Channel.markHoldOver (ch : Channel) : Channel :=
  { ch with slice := ch.slice.map fun sl => { sl with holdOver := true } }

/-- Link loss is declared (R31, R55, R65, R138). -/
def State.loseLink (s : State) : State :=
  let marked := { s with time := s.time.lose, channels := s.channels.map Channel.markHoldOver }
  (marked.endCheck .link).emit 0 [[.event (Event.plain s.time.runningSecond .linkLost .none)]]

/-- Whether a restoration owes a check (R66, R67). -/
def TimeBase.owesCheck (t : TimeBase) : Bool := decide (60 ≤ t.outage) && !t.startUp

/-- A channel at link restoration: restore is held unless it is OFF (R55), and an owed check raises its balance (R67). -/
def Channel.regainLink (ch : Channel) (owes : Bool) : Channel :=
  { ch with
    cond := { ch.cond with restoreHeld := ch.cond.restoreHeld || decide (ch.cond.state ≠ .off) }
    account := { ch.account with
      balance := if owes then (raiseBalance ch.account.balance).1 else ch.account.balance } }

/-- LINK RESTORED (R66, R154). -/
def linkRestoredEvent (t : TimeBase) : Event :=
  { Event.plain t.runningSecond .linkRestored .none with
    startUp := t.startUp, detail := some ((min 65535 t.outage : Nat) : Int) }

/-- CHECK OVERDUE for each channel whose balance an owed check raises from 5 to 6 (R140). -/
def State.owedOverdue (s : State) : Chains :=
  (List.finRange 16).map fun c =>
    if s.time.owesCheck && s.router.active.channels[c].autoCheck && (raiseBalance s.channels[c].account.balance).2 then
      [.event (Event.plain s.time.runningSecond .checkOverdue (.channel c))]
    else []

/-- Link restoration is declared (R55, R66, R67). -/
def State.regainLink (s : State) : State :=
  { s with
    time := s.time.regain
    channels := Vector.ofFn fun c =>
      s.channels[c].regainLink (s.time.owesCheck && s.router.active.channels[c].autoCheck)
  }.emit 0 ([.event (linkRestoredEvent s.time)] :: s.owedOverdue)

/-! ### Frame periods (R62, R63) -/

/-- The frame index advances, or a boundary falls in its place (R63). -/
def State.advance (s : State) : State :=
  let s := { s with control := { s.control with secondTaken := false } }
  if s.time.frameIndex + 1 < 6000 then { s with time := { s.time with frameIndex := s.time.frameIndex + 1 } }
  else s.boundary (decide (7 ≤ s.time.sliceIndex))

/-- The runs of a frame period, and the declaration they bring (R65, R66). The period in which loss is declared is
counted in the hold-over length. -/
def State.countRuns (s : State) (good : Bool) : State :=
  if s.time.loses good then
    let t := s.loseLink
    { t with time := { t.time with holdLength := 1 } }
  else
    let counted := { s with time := s.time.countPeriod good }
    if s.time.regains good then counted.regainLink else counted

/-- SAMPLE_FRAME (R159). -/
def execSampleFrame (f : Frame) (s : State) : Host.Outcome State Fault Refusal :=
  let good := goodFrame f
  let counted := s.advance.countRuns good
  .next (if good then counted.carryGood f else counted.carryBad f)

/-- FRAME_PERIOD (R62). -/
def execFramePeriod (s : State) : Host.Outcome State Fault Refusal :=
  .next (s.advance.countRuns false).carryNone

/-- LINK_LOSS (R65). In HOLD-OVER no loss is declared, and nothing changes (log 4). -/
def execLinkLoss (s : State) : Host.Outcome State Fault Refusal :=
  match s.time.link with
  | .locked => .next s.loseLink
  | .holdOver => .next s

/-- LINK_RESTORATION (R66). In LOCKED no restoration is declared, and nothing changes (log 4). -/
def execLinkRestoration (s : State) : Host.Outcome State Fault Refusal :=
  match s.time.link with
  | .holdOver => .next s.regainLink
  | .locked => .next s

/-- SLICE_BOUNDARY (R63). At slice index 7 it is a second boundary too, and is taken as one (log 3). -/
def execSliceBoundary (s : State) : Host.Outcome State Fault Refusal :=
  let second := decide (7 ≤ s.time.sliceIndex)
  let t := s.boundary second
  .next { t with control := { t.control with secondTaken := second } }

/-- SECOND_BOUNDARY (R63). One that was taken with its slice boundary has no further effect (log 3). -/
def execSecondBoundary (s : State) : Host.Outcome State Fault Refusal :=
  if s.control.secondTaken then .next { s with control := { s.control with secondTaken := false } }
  else .next (s.boundary true)

/-- INTERVAL_TIMER_EXPIRY (R140, R141). A timer that does not run does not expire (log 4). -/
def execIntervalTimerExpiry (c : Chan) (s : State) : Host.Outcome State Fault Refusal :=
  if timerRuns s.control.mode s.router.active.channels[c] then
    let a := s.channels[c].account
    let b := raiseBalance a.balance
    let ch := { s.channels[c] with account := { a with timer := 0, balance := b.1 } }
    .next ({ s with channels := s.channels.set c ch }.emit 0
      [if b.2 then [.event (Event.plain s.time.runningSecond .checkOverdue (.channel c))] else []])
  else .next s

end Sys2Proof.Machine
end

