-- ==== Sys2Proof/Machine/CheckCommands.lean ====
section
/-! DEFINITION. The check commands and the reads of levels, statistics, results and events: CHECK START, CHECK ABORT, CHECK
READ, CHECK SUMMARY (R144 to R147), LEVEL READ (R45), STATS READ (R88), RESULT READ (R151), EVENT TAKE (R156). -/

namespace Sys2Proof.Machine

/-! ### CHECK START and CHECK ABORT (R144, R145) -/

/-- The masked channels that a map enables (R144). -/
def sweepOf (m : ChannelMap) (mask : ChanSet) : ChanSet :=
  chanSetOf fun c => mask.getLsbD c && m.channels[c].enabled

/-- The part with a sweep begun: the summary cleared, the set taken (R144, R147). -/
def State.beginSweep (s : State) (mask : ChanSet) : State :=
  let set := sweepOf s.router.active mask
  { s with check := { s.check with sweep := set, summary := { SweepSummary.cleared with taken := set } } }

/-- The rule of CHECK START. -/
def checkStartRule (p : List Byte) (s : State) : Reply :=
  takeOutsideBoot s (checkStartOf p) fun mask =>
    if s.check.busy || s.check.sweepPending then .plain s .busy []
    else .plain (s.beginSweep mask) .ok (beBytes 2 (sweepOf s.router.active mask).toNat)

/-- The channel whose check an abort ends (R138, R145). -/
def CheckEngine.abortable (k : CheckEngine) : Option Chan :=
  match k.stage with
  | .starting | .pre | .establish | .measure => k.channel
  | .idle | .ending => none

/-- The part with its check ended and its sweep emptied; "sweep pending" follows R131 at once (R138, R145; log 49). -/
def State.abortCheck (s : State) : State :=
  let t := s.endCheck .abort
  { t with check := { t.check with sweep := 0 } }

/-- The rule of CHECK ABORT (its count: log 25). -/
def checkAbortRule (p : List Byte) (s : State) : Reply :=
  takeOutsideBoot s (noPayload p) fun _ =>
    .plain s.abortCheck .ok
      (beBytes 1 (channelCode s.check.abortable) ++ beBytes 1 (channelsOf s.check.sweep).length)

/-! ### CHECK READ and CHECK SUMMARY (R146, R147) -/

/-- The fields of a check result record, each absent where there is none (R146). -/
def checkRecordBytes : Option CheckRecord → List Byte
  | some r =>
    beBytes 1 (yesNoCode true) ++ beBytes 1 (checkCodeCode r.code) ++ beOption 1 (r.reason.map checkReasonCode)
      ++ levelBytes r.response ++ beSignedOption 2 r.deviation ++ levelBytes r.lpre ++ levelBytes r.lchk
      ++ secondOptionBytes (some r.second) ++ beBytes 1 (checkKindCode r.kind)
  | none =>
    beBytes 1 (yesNoCode false) ++ beOption 1 none ++ beOption 1 none ++ levelBytes none ++ beSignedOption 2 none
      ++ levelBytes none ++ levelBytes none ++ secondOptionBytes none ++ beOption 1 none

/-- The rule of CHECK READ. -/
def checkReadRule (p : List Byte) (s : State) : Reply :=
  takeOutsideBoot s (channelArgOf p) fun c =>
    let a := s.channels[c].account
    .plain s .ok (checkRecordBytes a.record ++ beSigned 1 a.balance ++ beBytes 1 a.retry ++ beBytes 1 a.quiet)

/-- The rule of CHECK SUMMARY. -/
def checkSummaryRule (p : List Byte) (s : State) : Reply :=
  takeOutsideBoot s (noPayload p) fun _ =>
    let m := s.check.summary
    .plain s .ok (beBytes 2 m.taken.toNat ++ beBytes 2 s.check.sweep.toNat
      ++ beBytes 1 (yesNoCode s.check.sweepPending) ++ beBytes 1 m.count ++ beSigned 2 m.minimum ++ beSigned 2 m.maximum)

/-! ### LEVEL READ and STATS READ (R45, R88) -/

/-- The latest slice record of LEVEL READ, each field absent where there is none (R45; log 45). -/
def sliceRecordBytes : Option SliceRecord → List Byte
  | some r =>
    secondOptionBytes (some r.second) ++ beBytes 1 r.index ++ beBytes 1 (takenInCode r.takenIn) ++ beBytes 2 r.n
      ++ beBytes 1 (yesNoCode r.hasData) ++ levelBytes (r.levels.map (·.lt)) ++ levelBytes (r.levels.map (·.lpk))
      ++ beSignedOption 2 (r.levels.map (·.crest))
      ++ flagBytes 1 [((r.levels.map (·.ltUnder)).getD false), ((r.levels.map (·.lpkUnder)).getD false)]
      ++ flagBytes 1 [r.overload] ++ beBytes 2 r.clipCount ++ beSignedOption 4 r.rawMin ++ beSignedOption 4 r.rawMax
      ++ beBytes 1 (signalCode r.signal) ++ flagBytes 1 [r.holdOver, r.discarded]
  | none =>
    secondOptionBytes none ++ beOption 1 none ++ beOption 1 none ++ beOption 2 none ++ beOption 1 none
      ++ levelBytes none ++ levelBytes none ++ beSignedOption 2 none ++ beOption 1 none ++ beOption 1 none
      ++ beOption 2 none ++ beSignedOption 4 none ++ beSignedOption 4 none ++ beOption 1 none ++ beOption 1 none

/-- The latest channel second of LEVEL READ, each field absent where there is none (R45; log 45). -/
def channelSecondBytes : Option ChannelSecond → List Byte
  | some c =>
    secondOptionBytes (some c.second) ++ beBytes 1 c.qualifying ++ levelBytes c.level
      ++ flagBytes 1 [c.under, c.overload, c.discarded]
  | none => secondOptionBytes none ++ beOption 1 none ++ levelBytes none ++ beOption 1 none

/-- The rule of LEVEL READ. -/
def levelReadRule (p : List Byte) (s : State) : Reply :=
  takeOutsideBoot s (channelArgOf p) fun c =>
    let ch := s.channels[c]
    .plain s .ok (beBytes 1 c.val ++ beBytes 1 (channelStateCode ch.cond.state) ++ sliceRecordBytes ch.latestSlice
      ++ channelSecondBytes ch.latestSecond)

/-- The statistics of a ring (R88). -/
def statsBytes (ring : List RingEntry) : List Byte :=
  beBytes 2 ring.length ++ beBytes 2 (validLevels ring).length ++ beBytes 2 (overloadedValid ring)
    ++ secondOptionBytes (ring.head?.map (·.second)) ++ secondOptionBytes (ring.getLast?.map (·.second))
    ++ levelBytes (percentile ring 10) ++ levelBytes (percentile ring 50) ++ levelBytes (percentile ring 90)

/-- The rule of STATS READ. -/
def statsReadRule (p : List Byte) (s : State) : Reply :=
  takeOutsideBoot s (channelArgOf p) fun c =>
    let ch := s.channels[c]
    .plain s .ok (beBytes 1 c.val ++ beBytes 1 (channelStateCode ch.cond.state) ++ statsBytes ch.ring)

/-! ### RESULT READ and EVENT TAKE (R151, R156) -/

/-- The rule of RESULT READ. -/
def resultReadRule (p : List Byte) (s : State) : Reply :=
  takeAlways s (resultReadOf p) fun n =>
    match s.results.ring.find? fun r => decide (r.sequence = n) with
    | some r => .plain s .ok (resultBytes r)
    | none =>
      .plain s .notAvailable (beOption 3 (s.results.ring.head?.map (·.sequence))
        ++ beOption 3 (s.results.ring.getLast?.map (·.sequence)))

/-- The part with the oldest event removed (R156). -/
def State.dropEvent (s : State) : State :=
  { s with events := { s.events with queue := s.events.queue.tail } }

/-- The rule of EVENT TAKE. -/
def eventTakeRule (p : List Byte) (s : State) : Reply :=
  takeAlways s (noPayload p) fun _ =>
    match s.events.queue with
    | [] => .plain s .empty []
    | e :: _ => .plain s.dropEvent .ok (eventBytes e)

/-! ### The requests -/

/-- A CHECK START request taken. -/
def serveCheckStart (r : Request) (s : State) : State :=
  s.serve (commandCode .checkStart) r.write false r (checkStartRule r.payload)

/-- A CHECK ABORT request taken. -/
def serveCheckAbort (r : Request) (s : State) : State :=
  s.serve (commandCode .checkAbort) r.write false r (checkAbortRule r.payload)

/-- A CHECK READ request taken. -/
def serveCheckRead (r : Request) (s : State) : State :=
  s.serve (commandCode .checkRead) r.write false r (checkReadRule r.payload)

/-- A CHECK SUMMARY request taken. -/
def serveCheckSummary (r : Request) (s : State) : State :=
  s.serve (commandCode .checkSummary) r.write false r (checkSummaryRule r.payload)

/-- A LEVEL READ request taken. -/
def serveLevelRead (r : Request) (s : State) : State :=
  s.serve (commandCode .levelRead) r.write false r (levelReadRule r.payload)

/-- A STATS READ request taken. -/
def serveStatsRead (r : Request) (s : State) : State :=
  s.serve (commandCode .statsRead) r.write false r (statsReadRule r.payload)

/-- A RESULT READ request taken. -/
def serveResultRead (r : Request) (s : State) : State :=
  s.serve (commandCode .resultRead) r.write false r (resultReadRule r.payload)

/-- An EVENT TAKE request taken. -/
def serveEventTake (r : Request) (s : State) : State :=
  s.serve (commandCode .eventTake) r.write false r (eventTakeRule r.payload)

/-- CHECK START (R144). -/
def execCheckStart (r : Request) (s : State) : Host.Outcome State Fault Refusal := .next (serveCheckStart r s)

/-- CHECK ABORT (R145). -/
def execCheckAbort (r : Request) (s : State) : Host.Outcome State Fault Refusal := .next (serveCheckAbort r s)

/-- CHECK READ (R146). -/
def execCheckRead (r : Request) (s : State) : Host.Outcome State Fault Refusal := .next (serveCheckRead r s)

/-- CHECK SUMMARY (R147). -/
def execCheckSummary (r : Request) (s : State) : Host.Outcome State Fault Refusal := .next (serveCheckSummary r s)

/-- LEVEL READ (R45). -/
def execLevelRead (r : Request) (s : State) : Host.Outcome State Fault Refusal := .next (serveLevelRead r s)

/-- STATS READ (R88). -/
def execStatsRead (r : Request) (s : State) : Host.Outcome State Fault Refusal := .next (serveStatsRead r s)

/-- RESULT READ (R151). -/
def execResultRead (r : Request) (s : State) : Host.Outcome State Fault Refusal := .next (serveResultRead r s)

/-- EVENT TAKE (R156). -/
def execEventTake (r : Request) (s : State) : Host.Outcome State Fault Refusal := .next (serveEventTake r s)

end Sys2Proof.Machine
end

