-- ==== Sys2Proof/Machine/Exclusions.lean ====
section
/-! DEFINITION. The Exclusion List commands: EXCLUDE ADD with its retroactive application, EXCLUDE END, EXCLUDE CLEAR,
EXCLUDE READ (R119 to R125). -/

namespace Sys2Proof.Machine

/-! ### EXCLUDE ADD (R121, R122) -/

/-- The earliest start allowed at a current second (R121, step 1). -/
def earliestStart (now : Nat) : Nat := now - 900

/-- The entry an EXCLUDE ADD asks for at a current second, under id 0 until it is added; `none` where it would cover no
second (R121, steps 1 and 2). -/
def ExcludeRequest.entryAt (q : ExcludeRequest) (now : Nat) : Option Exclusion :=
  let requested := (now : Int) + q.offset
  let clipped := decide (requested < earliestStart now)
  let start := if clipped then earliestStart now else requested.toNat
  let stop := q.duration.map fun d => (requested + d).toNat
  if (stop.map (decide <| · ≤ start)).getD false then none
  else some { id := 0, mask := q.mask, start := start, stop := stop, reason := q.reason, clipped := clipped }

/-- The operands of an EXCLUDE ADD with every argument test of its rule made (R121). -/
def excludeEntryOf (p : List Byte) (now : Nat) : Option Exclusion :=
  (excludeAddOf p).bind fun q => q.entryAt now

/-- The lowest id that no entry holds (R119, R121 step 4). -/
def lowestFreeId (xs : List Exclusion) : Option (Fin 16) :=
  (List.finRange 16).find? fun i => xs.all fun x => decide (x.id ≠ i)

/-- An entry placed after every entry whose start is at or before its own (R119, R121 step 4). -/
def placeExclusion (x : Exclusion) (xs : List Exclusion) : List Exclusion :=
  xs.takeWhile (fun y => decide (y.start ≤ x.start)) ++ x :: xs.dropWhile (fun y => decide (y.start ≤ x.start))

/-- Whether a new entry reaches a record retroactively at a current second: not yet excluded, from the entry's start up
to the earlier of its end and the current second (R122). -/
def Exclusion.reaches (x : Exclusion) (now : Nat) (r : GroupSecond) : Bool :=
  decide (x.start ≤ r.second) && decide (r.second < now) && (x.stop.map (decide <| r.second < ·)).getD true
    && !r.excluded

/-- The windows of a group after a record handed by a retroactive exclusion (R105): subtracted from the window that took
it; the second part says whether one did. -/
def Group.subtractRecord (gr : Group) (r : GroupSecond) : Group × Bool :=
  let f (w : Window) : Window := if w.took r then w.subtract r else w
  ({ gr with openWindow := gr.openWindow.map f, dueWindows := gr.dueWindows.map f },
    (gr.openWindow.toList ++ gr.dueWindows).any (·.took r))

/-- Records handed in order of running second (R122): the group, and how many were subtracted. -/
def Group.subtractAll (gr : Group) (rs : List GroupSecond) : Group × Nat :=
  rs.foldl (fun a r => let t := a.1.subtractRecord r; (t.1, a.2 + t.2.toNat)) (gr, 0)

/-- The retroactive application of a new entry to one group (R122): the group, the records newly marked, and those of
them subtracted. -/
def Group.exclude (gr : Group) (x : Exclusion) (now : Nat) : Group × Nat × Nat :=
  let reached := gr.ring.filter (x.reaches now)
  let marked := { gr with ring := gr.ring.map fun r => if x.reaches now r then { r with excluded := true } else r }
  let t := marked.subtractAll reached
  (t.1, reached.length, t.2)

/-- A group under a new entry: reached where its mask names it. -/
def Group.excludeMasked (gr : Group) (g : Grp) (x : Exclusion) (now : Nat) : Group :=
  if x.mask.getLsbD g then (gr.exclude x now).1 else gr

/-- An entry in the layout the answers use: id, group mask, start, end, reason, clipped (R119, R121; log 17). -/
def exclusionBytes (x : Exclusion) : List Byte :=
  beBytes 1 x.id.val ++ beBytes 1 x.mask.toNat ++ secondBytes x.start ++ secondOptionBytes x.stop
    ++ beBytes 1 x.reason ++ beBytes 1 (yesNoCode x.clipped)

/-- The two counts of each group of the mask, in group order (R121, step 5). -/
def excludeCounts (groups : Vector Group 8) (x : Exclusion) (now : Nat) : List Byte :=
  ((List.finRange 8).filter fun g : Grp => x.mask.getLsbD g).flatMap fun g : Grp =>
    let t := groups[g].exclude x now
    beBytes 2 t.2.1 ++ beBytes 2 t.2.2

/-- The part with an entry added and applied (R121, step 4). -/
def State.addExclusion (s : State) (x : Exclusion) : State :=
  { s with
    exclusions := placeExclusion x s.exclusions
    groups := Vector.ofFn fun g => s.groups[g].excludeMasked g x s.time.runningSecond }

/-- The rule of EXCLUDE ADD. -/
def excludeAddRule (p : List Byte) (s : State) : Reply :=
  takeOutsideBoot s (excludeEntryOf p s.time.runningSecond) fun x =>
    if 16 ≤ s.exclusions.length then .plain s .full []
    else match lowestFreeId s.exclusions with
      | none => .plain s .full []
      | some i =>
        let x := { x with id := i }
        .plain (s.addExclusion x) .ok (exclusionBytes x ++ excludeCounts s.groups x s.time.runningSecond)

/-! ### EXCLUDE END, EXCLUDE CLEAR, EXCLUDE READ (R123 to R125) -/

/-- The entry that holds an id (R119). -/
def entryOf (xs : List Exclusion) (i : Fin 16) : Option Exclusion := xs.find? fun x => decide (x.id = i)

/-- An entry ended at the end of the current second (R123). -/
def Exclusion.endAt (x : Exclusion) (now : Nat) : Exclusion :=
  { x with stop := some (match x.stop with
      | some e => min e (now + 1)
      | none => now + 1) }

/-- The rule of EXCLUDE END. -/
def excludeEndRule (p : List Byte) (s : State) : Reply :=
  takeOutsideBoot s (excludeIdOf p) fun i =>
    match entryOf s.exclusions i with
    | none => .plain s .notAvailable []
    | some x =>
      .plain { s with exclusions := s.exclusions.map fun y =>
          if y.id = i then y.endAt s.time.runningSecond else y } .ok
        (exclusionBytes (x.endAt s.time.runningSecond))

/-- The rule of EXCLUDE CLEAR. -/
def excludeClearRule (p : List Byte) (s : State) : Reply :=
  takeOutsideBoot s (excludeIdOf p) fun i =>
    match entryOf s.exclusions i with
    | none => .plain s .notAvailable []
    | some x =>
      .plain { s with exclusions := s.exclusions.filter fun y => decide (y.id ≠ i) } .ok (exclusionBytes x)

/-- The current second, the count of entries and their ids in list order (R125). -/
def excludeListBytes (s : State) : List Byte :=
  secondBytes s.time.runningSecond ++ beBytes 1 s.exclusions.length
    ++ s.exclusions.flatMap fun x => beBytes 1 x.id.val

/-- The rule of EXCLUDE READ. -/
def excludeReadRule (p : List Byte) (s : State) : Reply :=
  takeOutsideBoot s (excludeReadOf p) fun sel =>
    match sel with
    | none => .plain s .ok (excludeListBytes s)
    | some i =>
      match entryOf s.exclusions i with
      | none => .plain s .notAvailable []
      | some x => .plain s .ok (excludeListBytes s ++ exclusionBytes x)

/-! ### The requests -/

/-- An EXCLUDE ADD request taken; acted on when broadcast (R180). -/
def serveExcludeAdd (r : Request) (s : State) : State :=
  s.serve (commandCode .excludeAdd) r.write true r (excludeAddRule r.payload)

/-- An EXCLUDE END request taken. -/
def serveExcludeEnd (r : Request) (s : State) : State :=
  s.serve (commandCode .excludeEnd) r.write false r (excludeEndRule r.payload)

/-- An EXCLUDE CLEAR request taken. -/
def serveExcludeClear (r : Request) (s : State) : State :=
  s.serve (commandCode .excludeClear) r.write false r (excludeClearRule r.payload)

/-- An EXCLUDE READ request taken. -/
def serveExcludeRead (r : Request) (s : State) : State :=
  s.serve (commandCode .excludeRead) r.write false r (excludeReadRule r.payload)

/-- EXCLUDE ADD (R121). -/
def execExcludeAdd (r : Request) (s : State) : Host.Outcome State Fault Refusal := .next (serveExcludeAdd r s)

/-- EXCLUDE END (R123). -/
def execExcludeEnd (r : Request) (s : State) : Host.Outcome State Fault Refusal := .next (serveExcludeEnd r s)

/-- EXCLUDE CLEAR (R124). -/
def execExcludeClear (r : Request) (s : State) : Host.Outcome State Fault Refusal := .next (serveExcludeClear r s)

/-- EXCLUDE READ (R125). -/
def execExcludeRead (r : Request) (s : State) : Host.Outcome State Fault Refusal := .next (serveExcludeRead r s)

end Sys2Proof.Machine
end

