-- ==== Sys2Proof/Machine/Lanes.lean ====
section
/-! DEFINITION. The lanes and the cells on them: CONTROL_CELL, CELL_TIMEOUT, CELL_LENGTH_FAULT, PASS_THROUGH_CELL,
FORWARD_CELL_WINDOW, RETURN_LANE_SEND, UNKNOWN_COMMAND (R162 to R166, R172, R180; log 21, 22, 35). -/

namespace Sys2Proof.Machine

/-! ### Commands by their code (R174, R180) -/

/-- An unknown command code answered UNKNOWN (R180). -/
def serveUnknown (code : Byte) (r : Request) (s : State) : State :=
  s.serve code r.write false r fun s => .plain s .unknown []

/-- A request taken by its command code; the write flag tells the forms of the commands that have a write form (R180). -/
def serveCode (code : Byte) (r : Request) (s : State) : State :=
  match commandOf code with
  | none => serveUnknown code r s
  | some .identify => serveIdentify r s
  | some .status => serveStatus r s
  | some .setMode => serveSetMode r s
  | some .setTime => serveSetTime r s
  | some .trimTime => serveTrimTime r s
  | some .restart => serveRestart r s
  | some .lock => serveLock r s
  | some .mapChannel => if r.write then serveMapChannelWrite r s else serveMapChannelRead r s
  | some .mapGroup => if r.write then serveMapGroupWrite r s else serveMapGroupRead r s
  | some .mapCommit => serveMapCommit r s
  | some .coefSection => if r.write then serveCoefWrite r s else serveCoefRead r s
  | some .periodEntry => if r.write then servePeriodWrite r s else servePeriodRead r s
  | some .groupLimit => if r.write then serveLimitWrite r s else serveLimitRead r s
  | some .scheduleCommit => serveScheduleCommit r s
  | some .excludeAdd => serveExcludeAdd r s
  | some .excludeEnd => serveExcludeEnd r s
  | some .excludeClear => serveExcludeClear r s
  | some .excludeRead => serveExcludeRead r s
  | some .checkStart => serveCheckStart r s
  | some .checkAbort => serveCheckAbort r s
  | some .checkRead => serveCheckRead r s
  | some .checkSummary => serveCheckSummary r s
  | some .levelRead => serveLevelRead r s
  | some .statsRead => serveStatsRead r s
  | some .resultRead => serveResultRead r s
  | some .eventTake => serveEventTake r s

/-- UNKNOWN_COMMAND (R180). A code that is a command's asks for that command. -/
def execUnknownCommand (code : Byte) (r : Request) (s : State) : Host.Outcome State Fault Refusal :=
  .next (serveCode code r s)

/-! ### Cells on the Trunk Out return lane (R164, R165, R172) -/

/-- Whose a cell is, by the node field of byte 0 (R164). -/
inductive Addressee where
  | this | everyone | other
  deriving DecidableEq, Repr

/-- The node field of byte 0: bits 2 to 0 (R172). -/
def nodeField (b : Byte) : Nat := b.toNat % 8

/-- Whose a cell with this byte 0 is (R164). -/
def State.addressee (s : State) (b : Byte) : Addressee :=
  if nodeField b = s.control.node.val then .this else if nodeField b = 7 then .everyone else .other

/-- The parser after a cell (R164). -/
def State.withParser (s : State) (p : Parser) : State := { s with trunk := { s.trunk with parser := p } }

/-- A cell ended with a fault before its last byte: the fault is held where the cell is this node's or broadcast; any
other is dropped (R164, R165). -/
def State.spoil (s : State) (arrived : List Byte) (f : CellFault) : State :=
  match arrived with
  | [] => s
  | b :: _ =>
    match s.addressee b with
    | .this | .everyone => s.cellFault f
    | .other => s

/-- The request a whole cell carries (R172). -/
def cellRequest (broadcast : Bool) (cell : Cell) : Request where
  broadcast := broadcast
  write := (cell[0]?.getD 0).msb
  tag := cell[2]?.getD 0
  payload := (cell.drop 4).dropLast

/-- Whether a cell's check byte matches (R165). -/
def cellChecks (cell : Cell) : Bool := decide (cell.getLast? = some (crc8 cell.dropLast))

/-- A whole cell taken, forwarded upward, or both (R164, R165). A broadcast cell goes up before its command is carried out, the
model's choice (log 50). -/
def State.takeCell (s : State) (cell : Cell) : State :=
  let code := cell[1]?.getD 0
  match s.addressee (cell[0]?.getD 0) with
  | .this => if cellChecks cell then serveCode code (cellRequest false cell) s else s.cellFault .check
  | .everyone =>
    let up := { s with trunk := s.trunk.forwardUp cell }
    if cellChecks cell then serveCode code (cellRequest true cell) up else up.cellFault .check
  | .other => { s with trunk := s.trunk.forwardUp cell }

/-- Bytes that arrive on the lane, the first with the start mark (R164, R165). A cell still in arrival ends as a TIMEOUT.
A length field above 48 faults the cell at byte 3; fewer bytes than the cell's n + 5 leave it in arrival; bytes after its
last carry no start mark and are dropped (log 21, 22). -/
def State.receiveCell (s : State) (bytes : List Byte) : State :=
  let s := match s.trunk.parser with
    | .hunting => s
    | .inCell arrived => s.spoil arrived .timeout
  match bytes with
  | _ :: _ :: _ :: n :: _ =>
    if 48 < n.toNat then (s.spoil bytes .length).withParser .hunting
    else if bytes.length < n.toNat + 5 then s.withParser (.inCell bytes)
    else (s.withParser .hunting).takeCell (bytes.take (n.toNat + 5))
  | few => s.withParser (.inCell few)

/-- CONTROL_CELL (R164). -/
def execControlCell (bytes : Cell) (s : State) : Host.Outcome State Fault Refusal := .next (s.receiveCell bytes)

/-- CELL_TIMEOUT (R165): the cell of which `arrived` is in is faulted or dropped; a start mark begins a new cell. -/
def execCellTimeout (arrived : List Byte) (startMark : Bool) (s : State) : Host.Outcome State Fault Refusal :=
  .next ((s.spoil arrived .timeout).withParser (if startMark then .inCell [] else .hunting))

/-- CELL_LENGTH_FAULT (R165): the cell whose byte 3 exceeds 48 is faulted or dropped, and the parser hunts. -/
def execCellLengthFault (arrived : List Byte) (s : State) : Host.Outcome State Fault Refusal :=
  .next ((s.spoil arrived .length).withParser .hunting)

/-! ### The forward lane and the return lane toward the hub (R162, R166) -/

/-- A cell arrives on the Trunk In forward lane (R162). -/
def Trunk.passThrough (t : Trunk) (cell : Cell) : Trunk :=
  if t.through.length < 4 then { t with through := t.through ++ [cell] } else { t with discard := true }

/-- PASS_THROUGH_CELL (R162). -/
def execPassThroughCell (cell : Cell) (s : State) : Host.Outcome State Fault Refusal :=
  .next { s with trunk := s.trunk.passThrough cell }

/-- One forward cell window (R162). -/
def Trunk.window (t : Trunk) : Trunk :=
  match t.through, t.out with
  | [], [] => { t with cellOut := none }
  | c :: rest, [] => { t with through := rest, cellOut := some c, turn := .own }
  | [], c :: rest => { t with out := rest, cellOut := some c.bytes, turn := .passThrough }
  | c :: through, d :: out =>
    match t.turn with
    | .passThrough => { t with through := through, cellOut := some c, turn := .own }
    | .own => { t with out := out, cellOut := some d.bytes, turn := .passThrough }

/-- FORWARD_CELL_WINDOW (R162). -/
def execForwardCellWindow (s : State) : Host.Outcome State Fault Refusal :=
  .next { s with trunk := s.trunk.window }

/-- The free Trunk In return lane sends the oldest hub cell, or else the oldest pass-through cell (R166). -/
def Trunk.sendReturn (t : Trunk) : Trunk :=
  match t.hub, t.retThrough with
  | c :: rest, _ => { t with hub := rest, returnOut := some c }
  | [], c :: rest => { t with retThrough := rest, returnOut := some c }
  | [], [] => { t with returnOut := none }

/-- RETURN_LANE_SEND (R166). -/
def execReturnLaneSend (s : State) : Host.Outcome State Fault Refusal :=
  .next { s with trunk := s.trunk.sendReturn }

end Sys2Proof.Machine
end

