-- ==== Sys2Proof/Machine/Dispatch.lean ====
section
/-! DEFINITION. The dispatch of the commands: one arm a constructor of `Instr`, one direct call of its meaning. -/

namespace Sys2Proof.Machine

/-- The effect of a command on everything but the queue of waiting commands. -/
def exec (i : Instr) (s : State) : Host.Outcome State Fault Refusal :=
  match i with
  | .powerOn straps => Sys2Proof.Machine.execPowerOn straps s
  | .bootLoadEnd read => Sys2Proof.Machine.execBootLoadEnd read s
  | .sampleFrame frame => Sys2Proof.Machine.execSampleFrame frame s
  | .framePeriod => Sys2Proof.Machine.execFramePeriod s
  | .linkLoss => Sys2Proof.Machine.execLinkLoss s
  | .linkRestoration => Sys2Proof.Machine.execLinkRestoration s
  | .sliceBoundary => Sys2Proof.Machine.execSliceBoundary s
  | .secondBoundary => Sys2Proof.Machine.execSecondBoundary s
  | .intervalTimerExpiry channel => Sys2Proof.Machine.execIntervalTimerExpiry channel s
  | .controlCell bytes => Sys2Proof.Machine.execControlCell bytes s
  | .cellTimeout arrived startMark => Sys2Proof.Machine.execCellTimeout arrived startMark s
  | .passThroughCell cell => Sys2Proof.Machine.execPassThroughCell cell s
  | .forwardCellWindow => Sys2Proof.Machine.execForwardCellWindow s
  | .returnLaneSend => Sys2Proof.Machine.execReturnLaneSend s
  | .unknownCommand code request => Sys2Proof.Machine.execUnknownCommand code request s
  | .identify request => Sys2Proof.Machine.execIdentify request s
  | .status request => Sys2Proof.Machine.execStatus request s
  | .setMode request => Sys2Proof.Machine.execSetMode request s
  | .setTime request => Sys2Proof.Machine.execSetTime request s
  | .trimTime request => Sys2Proof.Machine.execTrimTime request s
  | .restart request => Sys2Proof.Machine.execRestart request s
  | .lock request => Sys2Proof.Machine.execLock request s
  | .mapChannelWrite request => Sys2Proof.Machine.execMapChannelWrite request s
  | .mapChannelRead request => Sys2Proof.Machine.execMapChannelRead request s
  | .mapGroupWrite request => Sys2Proof.Machine.execMapGroupWrite request s
  | .mapGroupRead request => Sys2Proof.Machine.execMapGroupRead request s
  | .mapCommit request => Sys2Proof.Machine.execMapCommit request s
  | .coefSectionWrite request => Sys2Proof.Machine.execCoefSectionWrite request s
  | .coefSectionRead request => Sys2Proof.Machine.execCoefSectionRead request s
  | .periodEntryWrite request => Sys2Proof.Machine.execPeriodEntryWrite request s
  | .periodEntryRead request => Sys2Proof.Machine.execPeriodEntryRead request s
  | .groupLimitWrite request => Sys2Proof.Machine.execGroupLimitWrite request s
  | .groupLimitRemove request => Sys2Proof.Machine.execGroupLimitRemove request s
  | .groupLimitRead request => Sys2Proof.Machine.execGroupLimitRead request s
  | .scheduleCommit request => Sys2Proof.Machine.execScheduleCommit request s
  | .excludeAdd request => Sys2Proof.Machine.execExcludeAdd request s
  | .excludeEnd request => Sys2Proof.Machine.execExcludeEnd request s
  | .excludeClear request => Sys2Proof.Machine.execExcludeClear request s
  | .excludeRead request => Sys2Proof.Machine.execExcludeRead request s
  | .checkStart request => Sys2Proof.Machine.execCheckStart request s
  | .checkAbort request => Sys2Proof.Machine.execCheckAbort request s
  | .checkRead request => Sys2Proof.Machine.execCheckRead request s
  | .checkSummary request => Sys2Proof.Machine.execCheckSummary request s
  | .levelRead request => Sys2Proof.Machine.execLevelRead request s
  | .statsRead request => Sys2Proof.Machine.execStatsRead request s
  | .resultRead request => Sys2Proof.Machine.execResultRead request s
  | .eventTake request => Sys2Proof.Machine.execEventTake request s
  | .cellLengthFault arrived => Sys2Proof.Machine.execCellLengthFault arrived s

end Sys2Proof.Machine
end

