-- ==== Sys2Proof/Safety.lean ====
section
/-! DEFINITION. What a safe state of the part is: the laws of the part as the chapters state them, each a decidable
property of one state that every step keeps; and the cells, entries and values that the statements speak of. -/

namespace Sys2Proof.Machine

/-! ### Queues, records and sequences -/

/-- The queues of the Trunk Interface hold no more than their places: 8 cells of which 6 notices (R163), 4
pass-through cells (R162), 2 hub cells and 2 return pass-through cells (R166). -/
abbrev State.queueLaw (s : State) : Prop :=
  s.trunk.out.length ≤ 8 ∧ s.trunk.notices ≤ 6 ∧ s.trunk.through.length ≤ 4 ∧ s.trunk.hub.length ≤ 2
    ∧ s.trunk.retThrough.length ≤ 2

/-- Sequence numbers consecutive modulo 65,536, the last of them just below the next one (R150, R155). -/
abbrev consecutive (next : Nat) (held : List Nat) : Prop :=
  next < 65536 ∧ held = (List.range held.length).map fun i => (next + 65536 - held.length + i) % 65536

/-- The law of the Event Queue: at most 64 records, with consecutive sequence numbers (R155). -/
abbrev State.eventLaw (s : State) : Prop :=
  s.events.queue.length ≤ 64 ∧ consecutive s.events.next (s.events.queue.map (·.sequence))

/-- The law of the Result Store: at most 512 records, their sequence numbers consecutive (R150). -/
abbrev State.resultLaw (s : State) : Prop :=
  s.results.ring.length ≤ 512 ∧ consecutive s.results.next (s.results.ring.map (·.sequence))

/-! ### Checks -/

/-- Every check balance lies between -3 and +6 (R140). -/
abbrev State.balanceLaw (s : State) : Prop :=
  ∀ c : Chan, -3 ≤ s.channels[c].account.balance ∧ s.channels[c].account.balance ≤ 6

/-- Whether a stage is one in which the drive is on (R132, R134). -/
def Stage.driven : Stage → Bool
  | .establish | .measure => true
  | _ => false

/-- Whether a stage is one in which channels may be in CHECKING (R133, R134, R138). -/
def Stage.quenching : Stage → Bool
  | .pre | .establish | .measure | .ending => true
  | _ => false

/-- At most one check is in progress and at most one drive is on: a channel is under check exactly while the stage is
not IDLE, and the drive is on exactly in ESTABLISH and MEASURE (R131, R132, R134). A channel is CHECKING only as part
of the check in progress, with its end held once that is ENDING; a check start is held only for a channel of a check
in STARTING (R53, R54, R133, R138). -/
abbrev State.checkLaw (s : State) : Prop :=
  s.check.channel.isSome = s.check.busy
    ∧ s.check.drive.isSome = s.check.stage.driven
    ∧ ∀ c : Chan,
        (s.channels[c].cond.state = .checking → s.check.involved c = true ∧ s.check.stage.quenching = true
          ∧ (s.check.stage = .ending → s.channels[c].cond.request = .endHeld))
        ∧ (s.channels[c].cond.request = .startHeld → s.check.involved c = true ∧ s.check.stage = .starting)

/-! ### Maps, lock and schedule -/

/-- The active map, and a pending one, pass tests 1 and 2 of the commit validation (R8, R10); while the lock level is 1
or 2, the locked fields of the active map equal the locked values (R10, R187). -/
abbrev State.mapLaw (s : State) : Prop :=
  tableFault s.router.active = none ∧ (∀ p ∈ s.router.pendingMap, tableFault p.1 = none)
    ∧ (1 ≤ s.control.lock → s.control.locked = some s.router.active.lockedFields)

/-- The active schedule, and a pending one, hold no two entries that overlap (R96, R97). -/
abbrev State.scheduleLaw (s : State) : Prop :=
  firstOverlap s.schedules.active = none ∧ ∀ p ∈ s.schedules.pendingSchedule, firstOverlap p.1 = none

/-! ### Channels -/

/-- A channel is OFF exactly while the active map has it disabled, and from a RESTART to the next slice boundary; in OFF
it holds no slice in progress, no second in formation, no latest record and no ring, and otherwise its slice in progress
is taken in its state (R29, R40, R44, R49, R85). -/
abbrev State.channelLaw (s : State) : Prop :=
  ∀ c : Chan,
    (s.channels[c].cond.state = .off ↔ s.router.active.channels[c].enabled = false ∨ s.control.restarted = true)
    ∧ (s.channels[c].cond.state = .off → s.channels[c].slice = none ∧ s.channels[c].forming = none
        ∧ s.channels[c].latestSlice = none ∧ s.channels[c].latestSecond = none ∧ s.channels[c].ring = [])
    ∧ (s.channels[c].cond.state ≠ .off →
        s.channels[c].slice.map (·.takenIn) = some s.channels[c].cond.state ∧ s.channels[c].forming.isSome = true)

/-- Running seconds rising, all of them before the second in progress (R82, R84). -/
abbrev rising (now : Nat) (seconds : List Nat) : Prop :=
  seconds.Pairwise (· < ·) ∧ ∀ x ∈ seconds, x < now

/-- Each channel ring and each group ring holds at most 900 entries, in order of running second, no two of one second
(R82, R84). -/
abbrev State.ringLaw (s : State) : Prop :=
  (∀ c : Chan, s.channels[c].ring.length ≤ 900 ∧ rising s.time.runningSecond (s.channels[c].ring.map (·.second)))
    ∧ ∀ g : Grp, s.groups[g].ring.length ≤ 900 ∧ rising s.time.runningSecond (s.groups[g].ring.map (·.second))

/-! ### Windows, alerts and exclusions -/

/-- Windows exist in RUN only, and of enabled groups only; none waits due between commands; the alert level and its period
are those of the open window; an alert is ON only against a level (R106, R113, R126). -/
abbrev State.windowLaw (s : State) : Prop :=
  ∀ g : Grp,
    (s.groups[g].openWindow.isSome = true → s.control.mode = .run ∧ s.router.active.groups[g].enabled = true)
    ∧ s.groups[g].dueWindows = []
    ∧ s.groups[g].alertLevel = (s.groups[g].openWindow.bind (·.limit)).bind (·.alert)
    ∧ s.groups[g].alertPeriod = s.groups[g].openWindow.map (·.period)
    ∧ (s.groups[g].alertOn = true → s.groups[g].alertLevel.isSome = true)

/-- The Exclusion List holds at most 16 entries in order of start, each with its own id, a group and a reason of 0 to 15
(R119). -/
abbrev State.exclusionLaw (s : State) : Prop :=
  s.exclusions.length ≤ 16 ∧ (s.exclusions.map (·.id)).Nodup
    ∧ s.exclusions.Pairwise (fun x y => x.start ≤ y.start)
    ∧ ∀ x ∈ s.exclusions, x.mask ≠ 0 ∧ x.reason ≤ 15

/-! ### Time and mode -/

/-- A civil position: a day 0 to 6 and a second-of-day below 86,400 (R61). -/
abbrev Pos.legal (p : Pos) : Prop := p.day ≤ 6 ∧ p.second ≤ 86399

/-- The time record lies in its ranges (R61); each run belongs to its link state and stands below the length at which it
declares (R65, R66); start-up ends with the first restoration (R66). -/
abbrev State.timeLaw (s : State) : Prop :=
  s.time.missingRun < 192 ∧ s.time.goodRun < 48 ∧ s.time.holdLength ≤ 4294967295 ∧ s.time.frameIndex < 6000
    ∧ s.time.sliceIndex < 8 ∧ s.time.here.legal ∧ (∀ p ∈ s.time.pendingTime, p.legal)
    ∧ -4 ≤ s.time.trim ∧ s.time.trim ≤ 4
    ∧ (s.time.link = .locked → s.time.goodRun = 0 ∧ s.time.startUp = false)
    ∧ (s.time.link = .holdOver → s.time.missingRun = 0)

/-- RUN requires the clock set and holds no pending time (R68, R69, R113, R183); lock level 2 stands in RUN only, and no
lock level stands in BOOT (R23, R187). -/
abbrev State.modeLaw (s : State) : Prop :=
  (s.control.mode = .run → s.time.clockSet = true ∧ s.time.pendingTime = none)
    ∧ (s.control.lock = 2 → s.control.mode = .run) ∧ (s.control.mode = .boot → s.control.lock = 0)
    ∧ s.control.lock ≤ 2

/-! ### Legal entries -/

/-- A level lies between 0.00 and 199.99 dB (R34). -/
abbrev legalLevel (l : Level) : Prop := l ≤ 19999

/-- A channel entry with every field in its range (R2). -/
abbrev ChannelEntry.legal (e : ChannelEntry) : Prop :=
  legalLevel e.sensitivity ∧ e.absentThreshold ≤ 65535 ∧ 1 ≤ e.overloadCount ∧ e.overloadCount ≤ 255
    ∧ 60 ≤ e.checkInterval ∧ e.checkInterval ≤ 1440 ∧ legalLevel e.referenceResponse
    ∧ 10 ≤ e.tolerance ∧ e.tolerance ≤ 200 ∧ legalLevel e.quietLevel

/-- A group entry with every field in its range (R3). -/
abbrev GroupEntry.legal (e : GroupEntry) : Prop :=
  60 ≤ e.alertWindow ∧ e.alertWindow ≤ 900 ∧ e.crestThreshold ≤ 4000 ∧ legalLevel e.impulseFloor
    ∧ 1 ≤ e.impulseHold ∧ e.impulseHold ≤ 64

/-- The period fields of an entry in their ranges (R92). -/
abbrev PeriodEntry.legal (e : PeriodEntry) : Prop :=
  e.startMinute ≤ 1439 ∧ 1 ≤ e.endMinute ∧ e.endMinute ≤ 1440 ∧ e.startMinute < e.endMinute

/-- A group limit record with every field in its range (R93). -/
abbrev LimitRecord.legal (r : LimitRecord) : Prop :=
  legalLevel r.leq ∧ (∀ l ∈ r.alert, legalLevel l) ∧ (∀ l ∈ r.lmax, legalLevel l) ∧ (∀ l ∈ r.peak, legalLevel l)
    ∧ r.penalty ≤ 1000 ∧ 1 ≤ r.threshold ∧ r.threshold ≤ 255

/-- A coefficient: any signed 32-bit integer (R17). -/
abbrev legalCoef (k : Int) : Prop := -2147483648 ≤ k ∧ k ≤ 2147483647

/-- A coefficient set of five coefficients (R17, R18). -/
abbrev CoefSet.legal (k : CoefSet) : Prop :=
  legalCoef k.b0 ∧ legalCoef k.b1 ∧ legalCoef k.b2 ∧ legalCoef k.a1 ∧ legalCoef k.a2

/-! ### Requests and cells -/

/-- A request sent to this node, for whose answer the outgoing queue has a place (R163, R180). -/
abbrev Addressed (r : Request) (s : State) : Prop := r.broadcast = false ∧ s.trunk.out.length < 8

/-- A control cell with a matching check byte (R165, R172; its bit order is the model's choice, log 55). -/
def requestCell (node : Nat) (write : Bool) (code tag : Byte) (payload : List Byte) : Cell :=
  let body : Cell := [BitVec.ofNat 8 (128 * write.toNat + node), code, tag, BitVec.ofNat 8 payload.length] ++ payload
  body ++ [crc8 body]

/-- An event raised in the step that led to this state is held in the Event Queue, or the queue is full and the event may be
counted as lost (R155). -/
abbrev State.raised (t : State) (e : Event) : Prop :=
  64 ≤ t.events.queue.length ∨ ∃ x ∈ t.events.queue, x.event = e

/-- The command a request row runs, with its code on the wire: each of the 33 rows that a control cell's code reaches
(R174, R180). -/
def rowOf (r : Request) : Command → Instr
  | .identify => .identify r
  | .status => .status r
  | .setMode => .setMode r
  | .setTime => .setTime r
  | .trimTime => .trimTime r
  | .restart => .restart r
  | .lock => .lock r
  | .mapChannel => if r.write then .mapChannelWrite r else .mapChannelRead r
  | .mapGroup => if r.write then .mapGroupWrite r else .mapGroupRead r
  | .mapCommit => .mapCommit r
  | .coefSection => if r.write then .coefSectionWrite r else .coefSectionRead r
  | .periodEntry => if r.write then .periodEntryWrite r else .periodEntryRead r
  | .groupLimit =>
    if r.write then (if r.payload[3]? = some 1 then .groupLimitRemove r else .groupLimitWrite r) else .groupLimitRead r
  | .scheduleCommit => .scheduleCommit r
  | .excludeAdd => .excludeAdd r
  | .excludeEnd => .excludeEnd r
  | .excludeClear => .excludeClear r
  | .excludeRead => .excludeRead r
  | .checkStart => .checkStart r
  | .checkAbort => .checkAbort r
  | .checkRead => .checkRead r
  | .checkSummary => .checkSummary r
  | .levelRead => .levelRead r
  | .statsRead => .statsRead r
  | .resultRead => .resultRead r
  | .eventTake => .eventTake r

/-- Whether the operands of a request can be read: no argument test of its command fails (R180). An EXCLUDE ADD is tested
against the current second (R121). -/
def readable (k : Command) (r : Request) (now : Nat) : Bool :=
  let p := r.payload
  match k with
  | .identify | .restart | .checkAbort | .checkSummary | .eventTake => (noPayload p).isSome
  | .status => (statusPartOf p).isSome
  | .setMode => (setModeOf p).isSome
  | .setTime => (setTimeOf p).isSome
  | .trimTime => (trimOf p).isSome
  | .lock => (lockOf p).isSome
  | .mapChannel => if r.write then (mapChannelWriteOf p).isSome else (mapChannelReadOf p).isSome
  | .mapGroup => if r.write then (mapGroupWriteOf p).isSome else (mapGroupReadOf p).isSome
  | .mapCommit => (mapCommitOf p).isSome
  | .coefSection => if r.write then (coefWriteOf p).isSome else (coefReadOf p).isSome
  | .periodEntry => if r.write then (periodWriteOf p).isSome else (periodReadOf p).isSome
  | .groupLimit => if r.write then (limitWriteOf p).isSome else (limitReadOf p).isSome
  | .scheduleCommit => (scheduleCommitOf p).isSome
  | .excludeAdd => (excludeEntryOf p now).isSome
  | .excludeEnd | .excludeClear => (excludeIdOf p).isSome
  | .excludeRead => (excludeReadOf p).isSome
  | .checkStart => (checkStartOf p).isSome
  | .checkRead | .levelRead | .statsRead => (channelArgOf p).isSome
  | .resultRead => (resultReadOf p).isSome

/-! ### Values -/

/-- The real number an intensity stands for (R43): the sum of `q * 10^(r/1000)` over its terms. -/
noncomputable def intensityValue (a : Intensity) : ℝ :=
  (a.map fun t => (t.2 : ℝ) * (10 : ℝ) ^ ((t.1 : ℝ) / 1000)).sum

/-- The one form in which an intensity is held: residues below 1000, rising, and no coefficient 0 (log 5). -/
abbrev canonicalIntensity (a : Intensity) : Prop :=
  (a.map (·.1)).Pairwise (· < ·) ∧ ∀ t ∈ a, t.1 < 1000 ∧ t.2 ≠ 0

end Sys2Proof.Machine
end

