-- ==== Sys2Proof/Certificates/Slice0/Obligations.lean ====
section
/-! DEFINITION. The statements for the provers. -/

open Sys2Proof Sys2Proof.Machine

/-! ### The step, power-on and the boot image -/

/-- A step runs the command at the front of the queue on the part with the queue's rest, and idles on an empty queue (the
model's choice: log 1, 39). -/
def Obligations.StepRunsFrontCommand : Prop :=
  ∀ (c : Instr) (rest : List Instr) (s : State),
    step { s with pending := c :: rest } = exec c { s with pending := rest }
      ∧ step { s with pending := [] } = .next { s with pending := [] }

/-- Every command, whatever its operands, completes with a next state and leaves the waiting commands alone: the manual
names no condition that stops the part (log 37). -/
def Obligations.CommandsNeverStopNorTouchQueue : Prop :=
  ∀ (c : Instr) (s : State), ∃ t, exec c s = .next t ∧ t.pending = s.pending

/-- POWER_ON gives the part at reset with the straps read, whatever stood before (R183; the queue and the count of free
orders lie outside the part: log 19, 36); and reset holds the values the chapters give for power-on (R15, R28, R46, R60,
R74, R90, R98, R130, R148, R158, R169, R190). The state at reset obeys every law of Safety.lean. -/
def Obligations.PowerOnGivesResetValues : Prop :=
  (∀ (n : Fin 4) (s : State), exec (.powerOn n) s =
    .next { State.reset with
      control := { State.reset.control with node := n }, choices := s.choices, pending := s.pending })
  ∧ State.reset.control.mode = .boot ∧ State.reset.control.lock = 0 ∧ State.reset.control.bootDefault = true
  ∧ State.reset.control.bootOutcome = .notRecorded ∧ State.reset.control.autoRun = false
  ∧ State.reset.time.link = .holdOver ∧ State.reset.time.startUp = true ∧ State.reset.time.clockSet = false
  ∧ State.reset.time.runningSecond = 0 ∧ State.reset.time.pendingTime = none ∧ State.reset.time.trim = 0
  ∧ State.reset.time.here = { day := 0, second := 0 }
  ∧ State.reset.router.pendingMap = none ∧ State.reset.schedules.pendingSchedule = none
  ∧ (∀ c : Chan, State.reset.router.active.channels[c] = ChannelEntry.default c
      ∧ State.reset.channels[c].cond.state = .off ∧ State.reset.channels[c].slice = none
      ∧ State.reset.channels[c].ring = [] ∧ State.reset.channels[c].account.balance = 0
      ∧ State.reset.channels[c].account.record = none ∧ State.reset.channels[c].holdValue = 0)
  ∧ (∀ g : Grp, State.reset.router.active.groups[g] = GroupEntry.default
      ∧ State.reset.groups[g].ring = [] ∧ State.reset.groups[g].openWindow = none
      ∧ State.reset.groups[g].alertOn = false ∧ State.reset.groups[g].holdCount = 0)
  ∧ (∀ i : Fin 6, State.reset.coefs[i] = { inForce := CoefSet.passThrough, waiting := none, written := false })
  ∧ State.reset.check.stage = .idle ∧ State.reset.check.drive = none ∧ State.reset.check.sweep = 0
  ∧ State.reset.exclusions = [] ∧ State.reset.results.ring = [] ∧ State.reset.results.next = 0
  ∧ State.reset.events.queue = [] ∧ State.reset.events.next = 0
  ∧ State.reset.trunk.out = [] ∧ State.reset.trunk.through = [] ∧ State.reset.trunk.turn = .passThrough
  ∧ State.reset.trunk.hub = [] ∧ State.reset.trunk.retThrough = [] ∧ State.reset.trunk.lastFault = none
  ∧ State.reset.trunk.discard = false ∧ State.reset.trunk.parser = .hunting
  ∧ (State.reset.queueLaw ∧ State.reset.eventLaw ∧ State.reset.resultLaw ∧ State.reset.balanceLaw
    ∧ State.reset.checkLaw ∧ State.reset.mapLaw ∧ State.reset.scheduleLaw ∧ State.reset.channelLaw
    ∧ State.reset.ringLaw ∧ State.reset.windowLaw ∧ State.reset.exclusionLaw ∧ State.reset.timeLaw
    ∧ State.reset.modeLaw)

/-- BOOT_LOAD_END judges the image by the five steps of R188, and the first that fails discards it with its outcome: a
missing acknowledgement, a body too long, a CRC that does not match, a record refused or a count of records that does not
agree with the header's (with the index of R189), a bank A or a staged schedule that does not pass its commit's tests. A
discarded image leaves bank A, the staged schedule and the coefficient table at their defaults, and CONFIG entered. An
accepted one leaves bank A and the staged schedule as its records wrote them, both committed, its coefficients in force, and
RUN entered where auto-run finds the clock set (R185, R188 to R190). In every case the memory port has read the header as R188
gives, and the body where the header was acknowledged and its length fits, each transaction cut by a stop at a missing
acknowledgement (log 20). An empty image is held to step 3 too, the model's choice (log 53). Outside BOOT nothing ends (the model's choice: log 4). -/
def Obligations.BootLoadFollowsItsSteps : Prop :=
  ∀ (m : MemoryRead) (s : State),
    (s.control.mode ≠ .boot → exec (.bootLoadEnd m) s = .next s) ∧
    (s.control.mode = .boot →
      let transaction (a : PortAcks) (address n : Nat) : List PortAct :=
        let opening : List PortAct := [.start, .send 0xA0]
        let high : List PortAct := opening ++ [.send (BitVec.ofNat 8 (address / 256))]
        let low : List PortAct := high ++ [.send (BitVec.ofNat 8 (address % 256))]
        let asked : List PortAct := low ++ [.repeatedStart, .send 0xA1]
        if a.deviceWrite = false then opening ++ [.stop] else if a.addressHigh = false then high ++ [.stop]
        else if a.addressLow = false then low ++ [.stop] else if a.deviceRead = false then asked ++ [.stop]
        else asked ++ [.receive n, .stop]
      let port : List PortAct := transaction m.header 0 6
        ++ (if acknowledged m.header = true ∧ imageLength m ≤ 8186 then transaction m.body 6 (imageLength m) else [])
      let discarded (why : BootOutcome) : Prop :=
        ∃ t, exec (.bootLoadEnd m) s = .next t
          ∧ t = { s with
              router := { s.router with bankA := ChannelMap.default }
              schedules := { s.schedules with staged := Schedule.default }
              coefs := Vector.replicate 6 { inForce := CoefSet.passThrough, waiting := none, written := false }
              control := { s.control with
                bootOutcome := why, autoRun := false, mode := .config, portLog := port } }
      let records := takeRecords (imageLength m + 1) (imageBody m) 0
        { bankA := s.router.bankA, schedules := s.schedules, coefs := s.coefs }
      (acknowledged m.header = false → discarded .noResponse)
      ∧ (acknowledged m.header = true → 8186 < imageLength m → discarded .length)
      ∧ (acknowledged m.header = true → imageLength m ≤ 8186 → acknowledged m.body = false → discarded .noResponse)
      ∧ (acknowledged m.header = true → imageLength m ≤ 8186 → acknowledged m.body = true →
          (crc16 (imageBody m)).toNat ≠ imageCheck m → discarded .check)
      ∧ (acknowledged m.header = true → imageLength m ≤ 8186 → acknowledged m.body = true →
          (crc16 (imageBody m)).toNat = imageCheck m →
          (∀ i, records = .error i → discarded (.record i))
          ∧ ∀ w n, records = .ok (w, n) →
            (n ≠ imageCount m → discarded (.record (min n (imageCount m))))
            ∧ (n = imageCount m →
              (∀ f, tableFault w.bankA = some f → discarded (.invalid f))
              ∧ (tableFault w.bankA = none → ∀ f, firstOverlap w.schedules.staged = some f → discarded (.invalid f))
              ∧ (tableFault w.bankA = none → firstOverlap w.schedules.staged = none →
                ∃ t, exec (.bootLoadEnd m) s = .next t
                  ∧ t.control.bootOutcome = .accepted ∧ t.control.bootDefault = false ∧ t.control.portLog = port
                  ∧ t.router = { s.router with bankA := w.bankA, pendingMap := some (w.bankA, .a) }
                  ∧ t.schedules = { w.schedules with pendingSchedule := some (w.schedules.staged, .immediate) }
                  ∧ (∀ i : Fin 6, t.coefs[i] = (match w.coefs[i].waiting with
                      | none => w.coefs[i]
                      | some k => { inForce := k, waiting := none, written := true }))
                  ∧ t.control.mode = (if imageAutoRun m = true ∧ s.time.clockSet = true then .run else .config)
                  ∧ t.control.autoRun = (imageAutoRun m && !s.time.clockSet)
                  ∧ t.channels = s.channels ∧ t.events = s.events ∧ t.results = s.results))))

/-- The records of a boot image are taken in turn as R189 says: a record of another command, one that would run past the end
of the body, one of another length than its command's write payload, and one whose map or schedule is not bank A or the staged
one are refused with their index; a record taken is a
write, MAP CHANNEL and MAP GROUP to bank A, COEF SECTION to the waiting set, PERIOD ENTRY and GROUP LIMIT to the staged
schedule, and leaves the rest of the tables as it was (R27, R189); action remove ignores its record's fields (log 15). -/
def Obligations.BootRecordsAreTakenInTurn : Prop :=
  (∀ (fuel i : Nat) (t : BootTables),
    takeRecords (fuel + 1) [] i t = .ok (t, i)
    ∧ (∀ code, takeRecords (fuel + 1) [code] i t = .error i)
    ∧ ∀ (code len : Byte) (rest : List Byte),
      (rest.length < len.toNat → takeRecords (fuel + 1) (code :: len :: rest) i t = .error i)
      ∧ (code.toNat ∉ [10, 11, 13, 20, 21] → takeRecords (fuel + 1) (code :: len :: rest) i t = .error i)
      ∧ ∀ p after : List Byte, rest = p ++ after → p.length = len.toNat →
        (t.record code p = none → takeRecords (fuel + 1) (code :: len :: rest) i t = .error i)
        ∧ ∀ w, t.record code p = some w → takeRecords (fuel + 1) (code :: len :: rest) i t
            = takeRecords fuel after (i + 1) w)
  ∧ ∀ t : BootTables,
    (∀ (c : Chan) (e : ChannelEntry), e.legal →
      t.record 10 ([0, BitVec.ofNat 8 c.val] ++ channelEntryBytes e) = some { t with
        bankA := { t.bankA with channels := t.bankA.channels.set c e } })
    ∧ (∀ (g : Grp) (e : GroupEntry), e.legal →
      t.record 11 ([0, BitVec.ofNat 8 g.val] ++ groupEntryBytes e) = some { t with
        bankA := { t.bankA with groups := t.bankA.groups.set g e } })
    ∧ (∀ (i : Fin 6) (k : CoefSet), k.legal → t.record 13 (coefBytes i k) = some { t with
        coefs := t.coefs.set i { t.coefs[i] with waiting := some k } })
    ∧ (∀ (i : Per) (e : PeriodEntry), e.legal →
      t.record 20 ([0, BitVec.ofNat 8 i.val] ++ periodBytes e) = some { t with schedules := { t.schedules with
        staged := t.schedules.staged.set i { e with limits := t.schedules.staged[i].limits } } })
    ∧ (∀ (i : Per) (g : Grp) (x : LimitRecord), x.legal →
      t.record 21 ([0, BitVec.ofNat 8 i.val, BitVec.ofNat 8 g.val] ++ limitBytes x) = some { t with
        schedules := { t.schedules with staged := t.schedules.staged.set i { t.schedules.staged[i] with
          limits := t.schedules.staged[i].limits.set g (some x) } } })
    ∧ (∀ (i : Per) (g : Grp) (ignored : List Byte), ignored.length = 12 →
      t.record 21 ([0, BitVec.ofNat 8 i.val, BitVec.ofNat 8 g.val, 1] ++ ignored) = some { t with
        schedules := { t.schedules with staged := t.schedules.staged.set i { t.schedules.staged[i] with
          limits := t.schedules.staged[i].limits.set g none } } })
    ∧ (∀ (code b : Byte) (rest : List Byte), code ≠ 13 → b ≠ 0 → t.record code (b :: rest) = none)
    ∧ ∀ (code : Byte) (p : List Byte),
      (code = 10 ∧ p.length ≠ 24 ∨ code = 11 ∧ p.length ≠ 12 ∨ code = 13 ∧ p.length ≠ 22 ∨ code = 20 ∧ p.length ≠ 9
        ∨ code = 21 ∧ p.length ≠ 16) → t.record code p = none

/-! ### Answers -/

/-- An answer enters the outgoing queue behind the cells that wait, in the layout of R172 with the status header of R173,
and clears the last cell fault and the discard flag it carries (R165, R167); it changes nothing else. A notice is refused with
8 cells or 6 notices waiting, and otherwise enters in the same layout with the write flag clear, tag 0 and OK, its header
carrying no fault, which is kept, and the discard flag, which is cleared (R163, R167, R168; a place kept for an answer, and the
bit order of the check byte, are the model's: log 13, 55). A stored event hands the EVENT NOTICE with the whole record, a stored
result the RESULT NOTICE with sequence, group, outcome and rated level (R150, R152, R155, R157). -/
def Obligations.AnswersAndNoticesCarryHeader : Prop :=
  (∀ (s : State) (p : List Byte), s.control.lock ≤ 2 → s.events.queue.length ≤ 64 → p.length ≤ 255 →
    ∃ h0 h3 : Byte,
      let mode := match s.control.mode with | .boot => 0 | .config => 1 | .run => 2
      let fault := match s.trunk.lastFault with
        | none => 0 | some .check => 1 | some .length => 2 | some .timeout => 3 | some .overrun => 4
      let flags := 16 * (decide (s.check.stage ≠ .idle)).toNat + 8 * s.check.sweepPending.toNat
        + 4 * s.trunk.discard.toNat + 2 * s.control.bootDefault.toNat
        + (decide (∃ i : Fin 6, s.coefs[i].written = false)).toNat
      let cell (w : Bool) (code tag : Byte) (k : ResultCode) (h1 : Byte) : Cell :=
        let body : Cell := [BitVec.ofNat 8 (128 * w.toNat + s.control.node.val), code, tag, BitVec.ofNat 8 p.length,
          BitVec.ofNat 8 (resultCodeCode k), h0, h1, 0, h3] ++ p
        body ++ [crc8 body]
      h0.toNat = 64 * mode + 32 * s.time.clockSet.toNat + 16 * (decide (s.time.link = .holdOver)).toNat
          + 4 * s.control.lock
      ∧ h3.toNat = s.events.queue.length
      ∧ (∀ (w : Bool) (code tag : Byte) (k : ResultCode), ∃ h1 : Byte, h1.toNat = 32 * fault + flags
        ∧ s.answer w code tag k p = { s with trunk := { s.trunk with
            out := s.trunk.out ++ [{ notice := false, bytes := cell w code tag k h1 }]
            lastFault := none, discard := false } })
      ∧ ∀ (reserve : Nat) (code : Byte),
        let room := s.trunk.out.length + reserve < 8 ∧ s.trunk.out.countP (·.notice) < 6
        (¬room → s.notify reserve code p = s)
        ∧ (room → ∃ h1 : Byte, h1.toNat = flags ∧ s.notify reserve code p = { s with trunk := { s.trunk with
            out := s.trunk.out ++ [{ notice := true, bytes := cell false code 0 .ok h1 }], discard := false } }))
  ∧ (∀ (s : State) (reserve : Nat) (e : Event), s.events.queue.length < 64 →
    let x : EventRecord := { sequence := s.events.next, event := e, lostAfter := 0 }
    s.storeEvent reserve e = { s with events := {
      queue := s.events.queue ++ [x], next := (s.events.next + 1) % 65536 } }.notify reserve 81 (eventBytes x))
  ∧ ∀ (s : State) (reserve : Nat) (r : WindowResult),
    s.storeResult reserve r = { s with results := {
        ring := s.results.ring.drop (s.results.ring.length - 511) ++ [{ r with sequence := s.results.next }]
        next := (s.results.next + 1) % 65536 } }.notify reserve 80
      (beBytes 2 s.results.next ++ [BitVec.ofNat 8 r.group.val, BitVec.ofNat 8 (windowOutcomeCode r.outcome)]
        ++ levelBytes r.rated)

/-- A taken command is answered exactly once, by a cell that carries its write flag, code and tag, entered last; without a
place for the answer it is faulted OVERRUN and has no other effect; broadcast, it is never answered, and ignored but for
SET TIME, TRIM TIME and EXCLUDE ADD; an unknown code is answered UNKNOWN (R163, R165, R167, R180). -/
def Obligations.RequestsAreAnsweredOnce : Prop :=
  (∀ (k : Command) (r : Request) (s : State),
    let acted := k = .setTime ∨ k = .trimTime ∨ k = .excludeAdd
    (r.broadcast = true → ¬acted → exec (rowOf r k) s = .next s)
    ∧ (r.broadcast = true → acted → ∃ t, exec (rowOf r k) s = .next t
        ∧ t.trunk.out.filter (!·.notice) = s.trunk.out.filter (!·.notice) ∧ t.trunk.lastFault = s.trunk.lastFault)
    ∧ (r.broadcast = false → 8 ≤ s.trunk.out.length →
        exec (rowOf r k) s = .next { s with trunk := { s.trunk with lastFault := some .overrun } })
    ∧ (Addressed r s → ∃ t before code head payload, exec (rowOf r k) s = .next t
        ∧ t.trunk.out = before ++ [{ notice := false
                                     bytes := outBytes s.control.node r.write (commandCode k) r.tag code head payload }]
        ∧ (k ≠ .restart → before.filter (!·.notice) = s.trunk.out.filter (!·.notice))
        ∧ t.trunk.lastFault = none ∧ t.trunk.discard = false))
  ∧ ∀ (code : Byte) (r : Request) (s : State), commandOf code = none →
      (r.broadcast = true → exec (.unknownCommand code r) s = .next s)
      ∧ (Addressed r s → exec (.unknownCommand code r) s = .next (s.answer r.write code r.tag .unknown []))

/-- A payload whose length is not that of the form asked for, or whose operands the command's own tests cannot read, is
answered BAD_ARGUMENT with an empty payload, in every mode, and has no other effect. In BOOT every command but IDENTIFY,
STATUS, SET TIME, RESULT READ and EVENT TAKE whose operands can be read is answered WRONG_MODE with reason MODE, with no
effect (R175, R180; a GROUP LIMIT remove has the 16 bytes of the write form). -/
def Obligations.ArgumentsThenModeAreTested : Prop :=
  let lengths : Command → Bool → List Nat := fun k w => match k with
    | .identify | .restart | .checkAbort | .checkSummary | .eventTake => [0]
    | .status => [0, 1]
    | .setMode | .trimTime | .lock | .mapCommit | .scheduleCommit | .excludeEnd | .excludeClear | .excludeRead
    | .checkRead | .levelRead | .statsRead => [1]
    | .setTime => [4]
    | .checkStart | .resultRead => [2]
    | .excludeAdd => [10]
    | .mapChannel => if w then [24] else [2]
    | .mapGroup => if w then [12] else [2]
    | .coefSection => if w then [22] else [2]
    | .periodEntry => if w then [9] else [2]
    | .groupLimit => if w then [16] else [4]
  ∀ (k : Command) (r : Request) (s : State), Addressed r s →
    let read := readable k r s.time.runningSecond
    (r.payload.length ∉ lengths k r.write → read = false)
    ∧ (read = false → exec (rowOf r k) s = .next (s.answer r.write (commandCode k) r.tag .badArgument []))
    ∧ (read = true → s.control.mode = .boot →
        k ≠ .identify → k ≠ .status → k ≠ .setTime → k ≠ .resultRead → k ≠ .eventTake →
        exec (rowOf r k) s = .next (s.answer r.write (commandCode k) r.tag .wrongMode [0]))

/-! ### The Control Cell Engine and the clock -/

/-- IDENTIFY is answered with the fixed description in every mode and at every lock level; the node number in it is the one
POWER_ON read, and no other command changes it (R181). STATUS answers its three parts without any effect: part 0, also asked
for by an empty payload, opens with mode, lock level and boot outcome and has 151 bytes; parts 1 and 2 are the condition
records of eight channels each, 160 bytes; a part above 2 is BAD_ARGUMENT (R182). The widths are R175's where it gives them;
the model's choices are the boot index in 2 bytes without its reason (log 16), the second-of-day of a held second as ones
(log 34), and one byte for the four flags of the latest group slice, its fields absent where there is none (log 45). -/
def Obligations.IdentifyAndStatusAnswer : Prop :=
  ((∀ (r : Request) (s : State), Addressed r s → r.payload = [] →
      exec (.identify r) s =
        .next (s.answer r.write 1 r.tag .ok [6, 72, 1, BitVec.ofNat 8 s.control.node.val, 16, 8, 2, 0, 64, 16, 32, 0]))
    ∧ (∀ (n : Fin 4) (s t : State), exec (.powerOn n) s = .next t → t.control.node = n)
    ∧ ∀ (c : Instr) (s t : State), (∀ n, c ≠ .powerOn n) → exec c s = .next t → t.control.node = s.control.node)
  ∧ (∀ (r : Request) (s : State), Addressed r s →
      (r.payload = [] ∨ r.payload = [0] → ∃ p, exec (.status r) s = .next (s.answer r.write 2 r.tag .ok p)
        ∧ p.length = 151
        ∧ p.take 3 = [BitVec.ofNat 8 (modeCode s.control.mode), BitVec.ofNat 8 s.control.lock,
            BitVec.ofNat 8 (bootOutcomeCode s.control.bootOutcome)]
        ∧ (p.drop 6).take 25 = timeBytes s.time ∧ p.drop 31 = s.groups.toList.flatMap groupStatusBytes)
      ∧ (r.payload = [1] → ∃ p, exec (.status r) s = .next (s.answer r.write 2 r.tag .ok p) ∧ p.length = 160
        ∧ ∀ i : Fin 8, (p.drop (20 * i.val)).take 20 = conditionBytes s.channels[i.val].cond)
      ∧ (r.payload = [2] → ∃ p, exec (.status r) s = .next (s.answer r.write 2 r.tag .ok p) ∧ p.length = 160
        ∧ ∀ i : Fin 8, (p.drop (20 * i.val)).take 20 = conditionBytes s.channels[8 + i.val].cond)
      ∧ ∀ b : Byte, r.payload = [b] → 3 ≤ b.toNat →
          exec (.status r) s = .next (s.answer r.write 2 r.tag .badArgument []))

/-- SET MODE takes its tests in the order of the table of R184, and the first that applies gives the answer (CONFIG is
code 1 and RUN code 2: log 9). At the change from RUN to CONFIG its records are handed over first, with one place of the
outgoing queue kept for the answer, which R163 would let a notice take: the model's choice (log 13). -/
def Obligations.SetModeFollowsItsTable : Prop :=
  ∀ (r : Request) (s : State), Addressed r s →
    let reply (t : State) (k : ResultCode) (p : List Byte) := t.answer r.write 3 r.tag k p
    (r.payload ≠ [1] → r.payload ≠ [2] → exec (.setMode r) s = .next (reply s .badArgument []))
    ∧ (r.payload = [2] → exec (.setMode r) s = .next (
        if s.control.mode = .boot then reply s .wrongMode [0]
        else if s.time.clockSet = false then reply s .wrongMode [1]
        else if s.check.stage ≠ .idle then reply s .busy []
        else if s.control.mode = .run then reply s .ok []
        else reply s.enterRun .ok []))
    ∧ (r.payload = [1] → exec (.setMode r) s = .next (
        if s.control.mode = .boot then reply s .wrongMode [0]
        else if 2 ≤ s.control.lock then reply s .locked []
        else if s.check.stage ≠ .idle then reply s .busy []
        else if s.control.mode = .config then reply s .ok []
        else reply (s.leaveRun.emit 1 s.leaveRunChains) .ok []))

/-- On entry to RUN the pending time is dropped, the auto-run mark falls, and each enabled group opens a window where the
present position lies in an active period, which hands its limit record to the alert (R101, R126, R130, R183). The present
position in a held second is the one it waits at, and the window is a late start unless the position is an aligned start:
the model's readings of R101 and R183 (log 27, 26). -/
def Obligations.EnteringRunOpensWindows : Prop :=
  ∀ (s : State), s.scheduleLaw →
    let t := s.enterRun
    let p := if s.time.held then s.time.here.next else s.time.here
    t.control = { s.control with mode := .run, autoRun := false }
    ∧ t.time = { s.time with pendingTime := none }
    ∧ ∀ g : Grp,
      t.groups[g].alertOn = false
      ∧ (s.router.active.groups[g].enabled = false ∨ (∀ i : Per, s.schedules.active[i].covers p = false) →
          t.groups[g].openWindow = none ∧ t.groups[g].alertLevel = none)
      ∧ ∀ i : Per, s.router.active.groups[g].enabled = true → s.schedules.active[i].covers p = true →
          let e := s.schedules.active[i]
          let first := e.startMinute * 60
          ∃ w, t.groups[g].openWindow = some w ∧ w.period = i ∧ w.day = p.day ∧ w.start = p.second
            ∧ w.firstSecond = s.time.runningSecond ∧ w.limit = e.limits[g]
            ∧ w.stop = (match e.length.seconds with
                | none => e.endMinute * 60
                | some l => min (first + (p.second - first) / l * l + l) (e.endMinute * 60))
            ∧ w.expected = 0 ∧ w.data = 0 ∧ w.excluded = 0
            ∧ (w.flags.lateStart = true ↔
                (match e.length.seconds with
                  | none => p.second ≠ first
                  | some l => (p.second - first) % l ≠ 0))
            ∧ t.groups[g].alertLevel = w.limit.bind (·.alert) ∧ t.groups[g].alertPeriod = some i

/-- SET MODE CONFIG (code 1: log 9) taken in RUN closes every open and due window at once, flagged "truncated": each is judged
by R107 to R109 as it stands, under its group's entry, the channel rings and the lock level, and its record enters the Result
Store, one for each window and nothing else (R110, R113). Each judged EXCEEDED raises WINDOW EXCEEDED, and each alert that is
ON turns OFF with ALERT OFF, without a level and with the limit and period it had, each event in the Event Queue or counted as
lost. No window and no alert is left (R129, R183). -/
def Obligations.LeavingRunClosesEveryWindow : Prop :=
  ∀ (r : Request) (s : State), Addressed r s → r.payload = [1] → s.control.mode = .run → s.control.lock < 2 →
    s.check.stage = .idle → s.resultLaw →
    let closing (g : Grp) : List Window := s.groups[g].dueWindows ++ s.groups[g].openWindow.toList
    let count : Nat := ((List.finRange 8).map fun g : Grp => (closing g).length).sum
    let judged (g : Grp) (w : Window) : WindowResult :=
      { w with flags := { w.flags with truncated := true } }.judge g s.router.active.groups[g].correction
        (backgroundLevel s.router.active.groups[g] fun c => s.channels[c].ring) s.control.lock
    ∃ t, exec (.setMode r) s = .next t ∧ t.control.mode = .config
      ∧ (∀ g : Grp, t.groups[g] = { s.groups[g] with
          openWindow := none, dueWindows := [], alertOn := false, alertLevel := none, alertPeriod := none })
      ∧ t.results.next = (s.results.next + count) % 65536
      ∧ (∀ x ∈ t.results.ring, x ∈ s.results.ring
          ∨ ∃ (g : Grp) (w : Window), w ∈ closing g ∧ x = { judged g w with sequence := x.sequence })
      ∧ ∀ g : Grp,
        (count ≤ 512 → ∀ w ∈ closing g, ∃ x ∈ t.results.ring, x = { judged g w with sequence := x.sequence }
          ∧ x.flags.truncated = true
          ∧ (x.outcome = .exceeded → t.raised { Event.plain s.time.runningSecond .windowExceeded (.group g) with
              level := x.rated, limit := x.limit, period := some w.period, detail := some (x.sequence : Int) }))
        ∧ (s.groups[g].alertOn = true → t.raised { Event.plain s.time.runningSecond .alertOff (.group g) with
            limit := s.groups[g].alertLevel, period := s.groups[g].alertPeriod })

/-- SET TIME takes its tests in the order of the table of R68; broadcast, it is acted on in the same way and not answered.
TRIM TIME moves the trim balance by its value, both clamped to -4 to +4, answers the applied value and raises CLOCK TRIM with
it unless it is 0; with the clock unset it is refused with reason CLOCK; broadcast, it acts in the same way and is not
answered (R70, R154, R180). Where it is answered, its notice is offered first, with one place of the outgoing queue kept for
the answer: the model's choice (log 13). -/
def Obligations.TimeCommandsMoveTheClock : Prop :=
  (∀ (r : Request) (s : State) (d q : Nat), d < 256 → q < 16777216 → r.payload = [BitVec.ofNat 8 d] ++ beBytes 3 q →
      let bad := 6 < d ∨ 86399 < q
      let refused := s.control.mode ≠ .config ∧ s.time.clockSet = true
      let taken := { s with time := { s.time with pendingTime := some { day := d, second := q } } }
      (Addressed r s → exec (.setTime r) s = .next (
          if bad then s.answer r.write 4 r.tag .badArgument []
          else if refused then s.answer r.write 4 r.tag .wrongMode [0]
          else taken.answer r.write 4 r.tag .pendingResult r.payload))
      ∧ (r.broadcast = true → exec (.setTime r) s = .next (if bad ∨ refused then s else taken)))
  ∧ (∀ (r : Request) (s : State) (b : Byte), r.payload = [b] →
      let balance := max (-4) (min 4 (s.time.trim + max (-4) (min 4 b.toInt)))
      let applied := balance - s.time.trim
      let moved := { s with time := { s.time with trim := balance } }
      let trimmed : Event :=
        { second := s.time.runningSecond, kind := .clockTrim, subject := .none, level := none, limit := none
          period := none, value := none, discarded := false, manual := false, startUp := false, detail := some applied }
      (Addressed r s → exec (.trimTime r) s = .next (
          if s.control.mode = .boot then s.answer r.write 5 r.tag .wrongMode [0]
          else if s.time.clockSet = false then s.answer r.write 5 r.tag .wrongMode [1]
          else (if applied = 0 then moved else moved.storeEvent 1 trimmed).answer r.write 5 r.tag .ok
            [BitVec.ofInt 8 applied]))
      ∧ (r.broadcast = true → exec (.trimTime r) s = .next (
          if s.control.mode = .boot ∨ s.time.clockSet = false then s
          else if applied = 0 then moved else moved.storeEvent 0 trimmed)))

/-- RESTART is refused in BOOT and at lock level 2; taken, it clears and keeps what the table of R186 says, hands DRIVE OFF
where the drive was on, and then enters its OK answer, under the header of the part after it, as the only cell of the
emptied queue. That what was last put on the lanes stays, and that the sweep summary names no taken channel, are the model's
choices (log 35, 19). -/
def Obligations.RestartClearsAndKeeps : Prop :=
  ∀ (r : Request) (s : State), Addressed r s → r.payload = [] →
    (s.control.mode = .boot → exec (.restart r) s = .next (s.answer r.write 6 r.tag .wrongMode [0]))
    ∧ (s.control.mode ≠ .boot → 2 ≤ s.control.lock →
        exec (.restart r) s = .next (s.answer r.write 6 r.tag .locked []))
    ∧ (s.control.mode ≠ .boot → s.control.lock < 2 → ∃ t : State,
        exec (.restart r) s = .next (t.answer r.write 6 r.tag .ok [])
        ∧ t.time = s.time ∧ t.choices = s.choices ∧ t.pending = s.pending
        ∧ t.control = { s.control with mode := .config, autoRun := false, restarted := true }
        ∧ t.router = { s.router with pendingMap := none }
        ∧ t.schedules = { s.schedules with pendingSchedule := none }
        ∧ (∀ i : Fin 6, t.coefs[i] = { s.coefs[i] with waiting := none })
        ∧ (∀ c : Chan, t.channels[c].levelPath = PathState.zero ∧ t.channels[c].peakPath = PathState.zero
            ∧ t.channels[c].cond = Condition.reset ∧ t.channels[c].slice = none ∧ t.channels[c].forming = none
            ∧ t.channels[c].latestSlice = none ∧ t.channels[c].latestSecond = none ∧ t.channels[c].ring = []
            ∧ t.channels[c].account = CheckAccount.reset ∧ t.channels[c].holdValue = s.channels[c].holdValue)
        ∧ (∀ g : Grp, t.groups[g] = Group.reset)
        ∧ t.exclusions = []
        ∧ t.check.stage = .idle ∧ t.check.channel = none ∧ t.check.drive = none ∧ t.check.sweep = 0
        ∧ t.check.summary = { taken := 0, count := 0, minimum := 9999, maximum := -9999 }
        ∧ t.results = { ring := [], next := 0 } ∧ t.events = { queue := [], next := 0 }
        ∧ t.trunk = { s.trunk with
            out := [], through := [], turn := .passThrough
            hub := (match s.check.drive with
              | some slot => [requestCell 4 true 71 0 [BitVec.ofNat 8 slot.val]]
              | none => [])
            retThrough := [], lastFault := none, discard := false, parser := .hunting })

/-- LOCK takes its tests in the order of the table of R187; a rise from 0 records the locked fields of the active map, and
every rise raises LOCK with the new level, its notice offered with one place of the outgoing queue kept for the answer, the
model's choice (log 13). Power-on sets the lock level to 0, no other command lowers it, and none that runs no LOCK moves
it. -/
def Obligations.LockFollowsItsTable : Prop :=
  (∀ (r : Request) (s : State) (b : Byte), Addressed r s → r.payload = [b] →
    let raised := { s with control := { s.control with
      lock := b.toNat
      locked := if s.control.lock = 0 then some (s.router.active.channels.map ChannelEntry.lockedFields)
        else s.control.locked } }
    let event : Event :=
      { second := s.time.runningSecond, kind := .lock, subject := .none, level := none, limit := none, period := none
        value := none, discarded := false, manual := false, startUp := false, detail := some (b.toNat : Int) }
    exec (.lock r) s = .next (
      if b ≠ 1 ∧ b ≠ 2 then s.answer r.write 7 r.tag .badArgument []
      else if s.control.mode = .boot then s.answer r.write 7 r.tag .wrongMode [0]
      else if b.toNat ≤ s.control.lock then s.answer r.write 7 r.tag .ok [BitVec.ofNat 8 s.control.lock]
      else if b = 2 ∧ s.control.mode ≠ .run then s.answer r.write 7 r.tag .wrongMode [0]
      else (raised.storeEvent 1 event).answer r.write 7 r.tag .ok [b]))
  ∧ (∀ (n : Fin 4) (s t : State), exec (.powerOn n) s = .next t → t.control.lock = 0)
  ∧ ∀ (c : Instr) (s t : State), (∀ n, c ≠ .powerOn n) → exec c s = .next t →
      s.control.lock ≤ t.control.lock
      ∧ ((∀ r, c ≠ .lock r) → (∀ bytes, c ≠ .controlCell bytes) → (∀ code r, c ≠ .unknownCommand code r) →
          t.control.lock = s.control.lock)

/-! ### Tables -/

/-- MAP CHANNEL and MAP GROUP: a write of an entry with every field in its range, laid out as R175 gives, is stored in the
bank as it stands and answered with the entry, and a read of the same entry then answers the same bytes; a read of the active
map, or of a pending one that is held, answers its entry, and of a pending one that is not, NOT_AVAILABLE (R2 to R6). -/
def Obligations.MapEntriesWriteAndReadBack : Prop :=
  ∀ (rw rr : Request) (s : State), Addressed rw s → rr.broadcast = false → s.trunk.out.length < 7 →
    s.control.mode ≠ .boot →
    (∀ (k : Bank) (c : Chan) (e : ChannelEntry), e.legal →
      rw.payload = [BitVec.ofNat 8 (bankCode k), BitVec.ofNat 8 c.val] ++ channelEntryBytes e →
      rr.payload = [BitVec.ofNat 8 (bankCode k), BitVec.ofNat 8 c.val] →
      ∃ t, exec (.mapChannelWrite rw) s = .next t
        ∧ t = (s.writeChannel k c e).answer true 10 rw.tag .ok rw.payload
        ∧ (t.router.bank k).channels[c] = e
        ∧ exec (.mapChannelRead rr) t = .next (t.answer false 10 rr.tag .ok rw.payload))
    ∧ (∀ (k : Bank) (g : Grp) (e : GroupEntry), e.legal →
      rw.payload = [BitVec.ofNat 8 (bankCode k), BitVec.ofNat 8 g.val] ++ groupEntryBytes e →
      rr.payload = [BitVec.ofNat 8 (bankCode k), BitVec.ofNat 8 g.val] →
      ∃ t, exec (.mapGroupWrite rw) s = .next t
        ∧ t = (s.writeGroup k g e).answer true 11 rw.tag .ok rw.payload
        ∧ (t.router.bank k).groups[g] = e
        ∧ exec (.mapGroupRead rr) t = .next (t.answer false 11 rr.tag .ok rw.payload))
    ∧ (∀ c : Chan,
      (rr.payload = [2, BitVec.ofNat 8 c.val] → exec (.mapChannelRead rr) s = .next (s.answer false 10 rr.tag .ok
        (rr.payload ++ channelEntryBytes s.router.active.channels[c])))
      ∧ (rr.payload = [3, BitVec.ofNat 8 c.val] → exec (.mapChannelRead rr) s = .next (match s.router.pendingMap with
        | some p => s.answer false 10 rr.tag .ok (rr.payload ++ channelEntryBytes p.1.channels[c])
        | none => s.answer false 10 rr.tag .notAvailable [])))
    ∧ (∀ g : Grp,
      (rr.payload = [2, BitVec.ofNat 8 g.val] → exec (.mapGroupRead rr) s = .next (s.answer false 11 rr.tag .ok
        (rr.payload ++ groupEntryBytes s.router.active.groups[g])))
      ∧ (rr.payload = [3, BitVec.ofNat 8 g.val] → exec (.mapGroupRead rr) s = .next (match s.router.pendingMap with
        | some p => s.answer false 11 rr.tag .ok (rr.payload ++ groupEntryBytes p.1.groups[g])
        | none => s.answer false 11 rr.tag .notAvailable [])))

/-- A table write stores the entry its payload spells, every clamped field set to the nearer end of its range, and answers it
as stored; a payload that spells no entry (an enumerated value or an index out of range, a level above 199.99 dB, another
length) is BAD_ARGUMENT, with every entry left as it was (R2, R3, R94, R95). Of a GROUP LIMIT this is said byte by byte: its
schedule, index, group and action, its presence mask, and its fields; action remove takes the 16 bytes of the write form too
and ignores the record's fields, and a level without its presence bit is not read: the model's choices (log 15). -/
def Obligations.TableWritesStoreLegalEntries : Prop :=
  ∀ (r : Request) (s : State), Addressed r s → s.control.mode ≠ .boot →
    let refused (code : Byte) : State := s.answer true code r.tag .badArgument []
    let between (lo hi n : Nat) : Nat := max lo (min hi n)
    (let spells (k : Bank) (c : Chan) (e : ChannelEntry) : Prop :=
        r.payload = [BitVec.ofNat 8 (bankCode k), BitVec.ofNat 8 c.val] ++ channelEntryBytes e
          ∧ legalLevel e.sensitivity ∧ e.absentThreshold ≤ 65535 ∧ e.overloadCount ≤ 255 ∧ e.checkInterval ≤ 65535
          ∧ legalLevel e.referenceResponse ∧ e.tolerance ≤ 65535 ∧ legalLevel e.quietLevel;
      (∀ k c e, spells k c e →
        let stored : ChannelEntry := { e with
          overloadCount := between 1 255 e.overloadCount, checkInterval := between 60 1440 e.checkInterval
          tolerance := between 10 200 e.tolerance }
        stored.legal ∧ exec (.mapChannelWrite r) s = .next ((s.writeChannel k c stored).answer true 10 r.tag .ok
          ([BitVec.ofNat 8 (bankCode k), BitVec.ofNat 8 c.val] ++ channelEntryBytes stored)))
      ∧ ((∀ k c e, ¬spells k c e) → exec (.mapChannelWrite r) s = .next (refused 10)))
    ∧ (let spells (k : Bank) (g : Grp) (e : GroupEntry) : Prop :=
        r.payload = [BitVec.ofNat 8 (bankCode k), BitVec.ofNat 8 g.val] ++ groupEntryBytes e
          ∧ e.alertWindow ≤ 65535 ∧ e.crestThreshold ≤ 65535 ∧ legalLevel e.impulseFloor ∧ e.impulseHold ≤ 255;
      (∀ k g e, spells k g e →
        let stored : GroupEntry := { e with
          alertWindow := between 60 900 e.alertWindow, crestThreshold := between 0 4000 e.crestThreshold
          impulseHold := between 1 64 e.impulseHold }
        stored.legal ∧ exec (.mapGroupWrite r) s = .next ((s.writeGroup k g stored).answer true 11 r.tag .ok
          ([BitVec.ofNat 8 (bankCode k), BitVec.ofNat 8 g.val] ++ groupEntryBytes stored)))
      ∧ ((∀ k g e, ¬spells k g e) → exec (.mapGroupWrite r) s = .next (refused 11)))
    ∧ (let spells (i : Per) (e : PeriodEntry) : Prop :=
        r.payload = [0, BitVec.ofNat 8 i.val] ++ periodBytes e ∧ e.legal;
      (∀ i e, spells i e → exec (.periodEntryWrite r) s = .next ({ s with schedules := { s.schedules with
          staged := s.schedules.staged.set i { e with limits := s.schedules.staged[i].limits } } }.answer
            true 20 r.tag .ok ([0, BitVec.ofNat 8 i.val] ++ periodBytes e)))
      ∧ ((∀ i e, ¬spells i e) → exec (.periodEntryWrite r) s = .next (refused 20)))
    ∧ (let put (i : Per) (g : Grp) (x : Option LimitRecord) : State := { s with schedules := { s.schedules with
          staged := s.schedules.staged.set i { s.schedules.staged[i] with
            limits := s.schedules.staged[i].limits.set g x } } }
      let head (i : Per) (g : Grp) : List Byte := [0, BitVec.ofNat 8 i.val, BitVec.ofNat 8 g.val];
      ∀ c : Instr, c = .groupLimitWrite r ∨ c = .groupLimitRemove r →
        (∀ (a i g act mask thr : Byte) (leq alert lmax peak penalty : Nat), leq < 65536 → alert < 65536 → lmax < 65536 →
          peak < 65536 → penalty < 65536 →
          r.payload = [a, i, g, act, mask] ++ beBytes 2 leq ++ beBytes 2 alert ++ beBytes 2 lmax ++ beBytes 2 peak
            ++ beBytes 2 penalty ++ [thr] →
          let tooHigh := 19999 < leq ∨ (mask.getLsbD 0 = true ∧ 19999 < alert) ∨ (mask.getLsbD 1 = true ∧ 19999 < lmax)
            ∨ (mask.getLsbD 2 = true ∧ 19999 < peak)
          let stored : LimitRecord :=
            { leq := leq
              alert := if mask.getLsbD 0 then some alert else none
              lmax := if mask.getLsbD 1 then some lmax else none
              peak := if mask.getLsbD 2 then some peak else none
              penalty := between 0 1000 penalty
              threshold := between 1 255 thr.toNat }
          (a ≠ 0 ∨ 23 < i.toNat ∨ 7 < g.toNat ∨ 1 < act.toNat ∨ (act = 0 ∧ tooHigh) → exec c s = .next (refused 21))
          ∧ ∀ (j : Per) (h : Grp), a = 0 → i.toNat = j.val → g.toNat = h.val →
            (act = 0 → ¬tooHigh → stored.legal ∧ exec c s =
              .next ((put j h (some stored)).answer true 21 r.tag .ok (head j h ++ limitBytes stored)))
            ∧ (act = 1 → exec c s = .next ((put j h none).answer true 21 r.tag .ok [])))
        ∧ (r.payload.length ≠ 16 → exec c s = .next (refused 21)))

/-- MAP COMMIT refuses a bank other than A or B, is LOCKED at level 2, copies a bank that passes the four tests of R8 into
the pending map under its name, and answers INVALID_TABLE with the reason and index of the first failure in the order of R8,
changing nothing, for one that does not (R7, R8). SCHEDULE COMMIT refuses a mode other than boundary or immediate, is LOCKED
at level 2, copies a staged schedule without overlaps into the pending one with its mode, and answers INVALID_TABLE with
reason OVERLAP and the first pair that overlaps, in order of i and then of j, changing nothing, otherwise (R96). -/
def Obligations.CommitsAreValidated : Prop :=
  (∀ (r : Request) (s : State) (b : Byte), Addressed r s → s.control.mode ≠ .boot → r.payload = [b] →
      (b ≠ 0 → b ≠ 1 → exec (.mapCommit r) s = .next (s.answer r.write 12 r.tag .badArgument []))
      ∧ ∀ k : Bank, b = BitVec.ofNat 8 (bankCode k) →
        let m := s.router.bank k
        let channelFails (c : Chan) (reason : Byte) : Prop :=
          m.channels[c].enabled = true
            ∧ ((reason = 0 ∧ m.channels[c].role = .member ∧ m.channels[c].group = none)
              ∨ (reason = 1 ∧ m.channels[c].role ≠ .member ∧ m.channels[c].group ≠ none))
        let groupFails (g : Grp) : Prop :=
          m.groups[g].enabled = true ∧ ∃ c : Chan, m.groups[g].background = some c
            ∧ ¬(m.channels[c].enabled = true ∧ m.channels[c].role = .reference)
        let lockFails (c : Chan) : Prop :=
          1 ≤ s.control.lock ∧ ∃ l, s.control.locked = some l ∧ m.channels[c].lockedFields ≠ l[c]
        let channelsPass : Prop := ∀ (c : Chan) (reason : Byte), ¬channelFails c reason
        let groupsPass : Prop := ∀ g : Grp, ¬groupFails g
        let invalid (reason : Byte) (index : Nat) : Prop :=
          exec (.mapCommit r) s = .next (s.answer r.write 12 r.tag .invalidTable [reason, BitVec.ofNat 8 index])
        (2 ≤ s.control.lock → exec (.mapCommit r) s = .next (s.answer r.write 12 r.tag .locked []))
        ∧ (s.control.lock < 2 → channelsPass → groupsPass → (∀ c : Chan, ¬lockFails c) → exec (.mapCommit r) s =
            .next ({ s with router := { s.router with pendingMap := some (m, k) } }.answer r.write 12 r.tag
              .pendingResult [b]))
        ∧ (s.control.lock < 2 → ∀ (c : Chan) (reason : Byte), channelFails c reason →
            (∀ d : Chan, d < c → ∀ q : Byte, ¬channelFails d q) → invalid reason c.val)
        ∧ (s.control.lock < 2 → channelsPass → ∀ g : Grp, groupFails g → (∀ h : Grp, h < g → ¬groupFails h) →
            invalid 2 g.val)
        ∧ (s.control.lock < 2 → channelsPass → groupsPass → ∀ c : Chan, lockFails c →
            (∀ d : Chan, d < c → ¬lockFails d) → invalid 3 c.val))
  ∧ (∀ (r : Request) (s : State) (b : Byte), Addressed r s → s.control.mode ≠ .boot → r.payload = [b] →
      let overlap (i j : Per) : Prop :=
        let x := s.schedules.staged[i]
        let y := s.schedules.staged[j]
        x.enabled = true ∧ y.enabled = true ∧ (∃ d : Fin 7, x.days.getLsbD d.val = true ∧ y.days.getLsbD d.val = true)
          ∧ x.startMinute < y.endMinute ∧ y.startMinute < x.endMinute
      (b ≠ 0 → b ≠ 1 → exec (.scheduleCommit r) s = .next (s.answer r.write 22 r.tag .badArgument []))
      ∧ ∀ m : CommitMode, b = BitVec.ofNat 8 (commitModeCode m) →
        (2 ≤ s.control.lock → exec (.scheduleCommit r) s = .next (s.answer r.write 22 r.tag .locked []))
        ∧ (s.control.lock < 2 → (∀ i j : Per, i < j → ¬overlap i j) → exec (.scheduleCommit r) s =
            .next ({ s with schedules := { s.schedules with pendingSchedule := some (s.schedules.staged, m) } }.answer
              r.write 22 r.tag .pendingResult [b]))
        ∧ (s.control.lock < 2 → ∀ i j : Per, i < j → overlap i j →
            (∀ h k : Per, h < k → overlap h k → i < h ∨ (i = h ∧ j ≤ k)) → exec (.scheduleCommit r) s =
              .next (s.answer r.write 22 r.tag .invalidTable [4, BitVec.ofNat 8 i.val, BitVec.ofNat 8 j.val])))

/-- COEF SECTION: a write is taken in CONFIG at lock level 0 alone, in the order of R23, and makes the five coefficients the
section's waiting set; a read answers the in-force set, not the waiting one; a weighting other than A or C, or a section
above 2, is BAD_ARGUMENT (R23, R24). -/
def Obligations.CoefficientsWriteAndRead : Prop :=
  ∀ (r : Request) (s : State) (i : Fin 6), Addressed r s →
    (∀ k : CoefSet, k.legal → r.payload = coefBytes i k → exec (.coefSectionWrite r) s = .next (
        if s.control.mode ≠ .config then s.answer true 13 r.tag .wrongMode [0]
        else if 1 ≤ s.control.lock then s.answer true 13 r.tag .locked []
        else { s with coefs := s.coefs.set i { s.coefs[i] with waiting := some k } }.answer true 13 r.tag
          .pendingResult r.payload))
    ∧ (r.payload = [BitVec.ofNat 8 (i.val / 3), BitVec.ofNat 8 (i.val % 3)] → s.control.mode ≠ .boot →
        exec (.coefSectionRead r) s = .next (s.answer false 13 r.tag .ok (coefBytes i s.coefs[i].inForce)))
    ∧ ∀ (a b : Byte) (rest : List Byte), r.payload = a :: b :: rest → 1 < a.toNat ∨ 2 < b.toNat →
        exec (.coefSectionWrite r) s = .next (s.answer true 13 r.tag .badArgument [])
        ∧ exec (.coefSectionRead r) s = .next (s.answer false 13 r.tag .badArgument [])

/-- PERIOD ENTRY and GROUP LIMIT: a staged entry or limit record with every field in its range is stored and read back in
the bytes it was written in, the entry's limit records untouched by the former; action remove makes the record absent, and
its read is then NOT_AVAILABLE. A read of the active schedule, or of a pending one that is held, answers what it holds, and of
a pending one that is not, NOT_AVAILABLE (R93 to R95; log 8, 15). -/
def Obligations.ScheduleEntriesWriteAndReadBack : Prop :=
  ∀ (rw rr rx : Request) (s : State) (i : Per) (ignored : List Byte), Addressed rw s → rr.broadcast = false → rx.broadcast = false →
    s.trunk.out.length < 5 → s.control.mode ≠ .boot →
    (∀ e : PeriodEntry, e.legal → rw.payload = [0, BitVec.ofNat 8 i.val] ++ periodBytes e →
      rr.payload = [0, BitVec.ofNat 8 i.val] →
      ∃ t mask, exec (.periodEntryWrite rw) s = .next t
        ∧ t = { s with schedules := { s.schedules with
            staged := s.schedules.staged.set i { e with limits := s.schedules.staged[i].limits } } }.answer
              true 20 rw.tag .ok rw.payload
        ∧ exec (.periodEntryRead rr) t = .next (t.answer false 20 rr.tag .ok (rw.payload ++ [mask]))
        ∧ ∀ g : Grp, mask.getLsbD g.val = s.schedules.staged[i].limits[g].isSome)
    ∧ (∀ (g : Grp) (x : LimitRecord), x.legal → rw.payload = [0, BitVec.ofNat 8 i.val, BitVec.ofNat 8 g.val] ++ limitBytes x →
      rr.payload = [0, BitVec.ofNat 8 i.val, BitVec.ofNat 8 g.val, 0] →
      rx.payload = [0, BitVec.ofNat 8 i.val, BitVec.ofNat 8 g.val, 1] ++ ignored → ignored.length = 12 →
      ∃ t u, exec (.groupLimitWrite rw) s = .next t ∧ t.schedules.staged[i].limits[g] = some x
        ∧ (∀ h : Grp, h ≠ g → t.schedules.staged[i].limits[h] = s.schedules.staged[i].limits[h])
        ∧ exec (.groupLimitRead rr) t = .next (t.answer false 21 rr.tag .ok rw.payload)
        ∧ exec (.groupLimitRemove rx) t = .next u ∧ u.schedules.staged[i].limits[g] = none
        ∧ (∀ j : Per, j ≠ i → u.schedules.staged[j] = s.schedules.staged[j])
        ∧ exec (.groupLimitRead rr) u = .next (u.answer false 21 rr.tag .notAvailable []))
    ∧ ∀ g : Grp,
      let mask (e : PeriodEntry) (m : Byte) : Prop := ∀ h : Grp, m.getLsbD h.val = e.limits[h].isSome
      let periodAs (name : Byte) (d : Schedule) : Prop := rr.payload = [name, BitVec.ofNat 8 i.val] →
        ∃ m, mask d[i] m ∧ exec (.periodEntryRead rr) s =
          .next (s.answer false 20 rr.tag .ok (rr.payload ++ periodBytes d[i] ++ [m]))
      let limitAs (name : Byte) (d : Schedule) : Prop :=
        rr.payload = [name, BitVec.ofNat 8 i.val, BitVec.ofNat 8 g.val, 0] →
        exec (.groupLimitRead rr) s = .next (match d[i].limits[g] with
          | some x => s.answer false 21 rr.tag .ok ([name, BitVec.ofNat 8 i.val, BitVec.ofNat 8 g.val] ++ limitBytes x)
          | none => s.answer false 21 rr.tag .notAvailable [])
      periodAs 2 s.schedules.active ∧ limitAs 2 s.schedules.active
      ∧ (∀ p, s.schedules.pendingSchedule = some p → periodAs 1 p.1 ∧ limitAs 1 p.1)
      ∧ (s.schedules.pendingSchedule = none →
        (rr.payload = [1, BitVec.ofNat 8 i.val] →
          exec (.periodEntryRead rr) s = .next (s.answer false 20 rr.tag .notAvailable []))
        ∧ (rr.payload = [1, BitVec.ofNat 8 i.val, BitVec.ofNat 8 g.val, 0] →
          exec (.groupLimitRead rr) s = .next (s.answer false 21 rr.tag .notAvailable [])))

/-! ### The Exclusion List -/

/-- EXCLUDE ADD takes the steps of R121: the start is clipped to 900 s back and never below 0, the end is taken before the
clipping, an entry that would cover nothing is BAD_ARGUMENT, a full list is FULL, and otherwise the entry takes the lowest
free id and stands behind every entry whose start is at or before its own. The records of the masked groups' rings that it
reaches are marked excluded, each is subtracted from the open window that took it, and the answer counts both for each group
(R105, R121, R122; the answer's layout: log 17). Sent to the broadcast address it does the same and is not answered, whether the
outgoing queue has room or not; in BOOT, or with a payload of another length, it then does nothing (R180). -/
def Obligations.ExcludeAddFollowsItsSteps : Prop :=
  (∀ (r : Request) (s : State), r.broadcast = true → s.control.mode = .boot ∨ r.payload.length ≠ 10 →
    exec (.excludeAdd r) s = .next s)
  ∧ ∀ (r : Request) (s : State) (offset : Int) (duration reason : Nat) (mask : GrpSet), Addressed r s ∨ r.broadcast = true →
    s.control.mode ≠ .boot → -2147483648 ≤ offset → offset ≤ 2147483647 → duration < 4294967296 → reason < 256 →
    (∀ g : Grp, s.groups[g].dueWindows = []) →
    r.payload = beSigned 4 offset ++ beBytes 4 duration ++ [mask, BitVec.ofNat 8 reason] →
    let now := s.time.runningSecond
    let requested : Int := now + offset
    let earliest : Nat := now - 900
    let start : Int := max requested earliest
    let stop : Option Int := if duration = 4294967295 then none else some (requested + (min 86400 duration : Nat))
    let bad := 86400 < offset ∨ duration = 0 ∨ mask = 0 ∨ 15 < reason ∨ ∃ e, stop = some e ∧ e ≤ start
    let answers (t : State) (code : ResultCode) (body : List Byte) : Prop :=
      exec (.excludeAdd r) s = .next (if r.broadcast then t else t.answer r.write 30 r.tag code body)
    (bad → answers s .badArgument [])
    ∧ (¬bad → 16 ≤ s.exclusions.length → answers s .full [])
    ∧ (¬bad → s.exclusions.length < 16 → ∃ (x : Exclusion) (t : State),
        let reached (y : GroupSecond) : Bool := decide (x.start ≤ y.second) && decide (y.second < now)
          && (match x.stop with | some e => decide (y.second < e) | none => true) && !y.excluded
        let took (w : Window) (y : GroupSecond) : Bool := decide (w.firstSecond ≤ y.second)
          && (match y.position with
            | some p => decide (w.day = p.day ∧ w.start ≤ p.second ∧ p.second < w.stop)
            | none => false)
        let less (w : Window) (y : GroupSecond) : Window := { w with
          data := w.data - y.data, excluded := w.excluded + 8, sum := subIntensity w.sum y.sum
          onsets := w.onsets - y.onsets, overload := w.overload - y.overload
          flags := { w.flags with maxExcluded := true } }
        let counts (g : Grp) : List Byte := beBytes 2 (s.groups[g].ring.countP reached)
          ++ beBytes 2 (s.groups[g].ring.countP fun y => reached y && s.groups[g].openWindow.any (took · y))
        answers t .ok (exclusionBytes x ++ ((List.finRange 8).filter fun g : Grp => mask.getLsbD g.val).flatMap counts)
        ∧ (x.start : Int) = start ∧ x.stop.map (fun e => (e : Int)) = stop ∧ x.mask = mask ∧ x.reason = reason
        ∧ x.clipped = decide (requested < earliest)
        ∧ (∀ y ∈ s.exclusions, y.id ≠ x.id) ∧ (∀ j : Fin 16, j < x.id → ∃ y ∈ s.exclusions, y.id = j)
        ∧ t = { s with exclusions := t.exclusions, groups := t.groups }
        ∧ (∃ before after, s.exclusions = before ++ after ∧ t.exclusions = before ++ x :: after
          ∧ (∀ y ∈ before, y.start ≤ x.start) ∧ ∀ y, after.head? = some y → x.start < y.start)
        ∧ ∀ g : Grp, t.groups[g] = if mask.getLsbD g.val then { s.groups[g] with
            ring := s.groups[g].ring.map fun y => if reached y then { y with excluded := true } else y
            openWindow := s.groups[g].openWindow.map fun w =>
              ((s.groups[g].ring.filter reached).filter (took w)).foldl less w }
          else s.groups[g])

/-- EXCLUDE END moves an end that is open or later to the current second plus 1, EXCLUDE CLEAR removes the entry, EXCLUDE
READ returns the current second, the ids in list order and the entry; an id not held is NOT_AVAILABLE, one above 15
BAD_ARGUMENT (R123 to R125; the entry's layout: log 17). -/
def Obligations.ExclusionEndClearRead : Prop :=
  ∀ (r : Request) (s : State) (b : Byte), Addressed r s → s.control.mode ≠ .boot → s.exclusionLaw → r.payload = [b] →
    let now := s.time.runningSecond
    let list := beBytes 4 (now % 4294967296) ++ [BitVec.ofNat 8 s.exclusions.length]
      ++ s.exclusions.map fun x : Exclusion => BitVec.ofNat 8 x.id.val
    (b = 255 → exec (.excludeRead r) s = .next (s.answer r.write 33 r.tag .ok list))
    ∧ (15 < b.toNat → exec (.excludeEnd r) s = .next (s.answer r.write 31 r.tag .badArgument [])
        ∧ exec (.excludeClear r) s = .next (s.answer r.write 32 r.tag .badArgument [])
        ∧ (b ≠ 255 → exec (.excludeRead r) s = .next (s.answer r.write 33 r.tag .badArgument [])))
    ∧ (b.toNat ≤ 15 → (∀ y ∈ s.exclusions, y.id.val ≠ b.toNat) →
        exec (.excludeEnd r) s = .next (s.answer r.write 31 r.tag .notAvailable [])
        ∧ exec (.excludeClear r) s = .next (s.answer r.write 32 r.tag .notAvailable [])
        ∧ exec (.excludeRead r) s = .next (s.answer r.write 33 r.tag .notAvailable []))
    ∧ ∀ x ∈ s.exclusions, x.id.val = b.toNat →
        let ended := { x with stop := some (min (x.stop.getD (now + 1)) (now + 1)) }
        exec (.excludeEnd r) s = .next ({ s with
            exclusions := s.exclusions.map fun y : Exclusion => if y.id = x.id then ended else y }.answer r.write 31 r.tag .ok
              (exclusionBytes ended))
        ∧ exec (.excludeClear r) s = .next ({ s with
            exclusions := s.exclusions.filter fun y : Exclusion => decide (y.id ≠ x.id) }.answer r.write 32 r.tag .ok
              (exclusionBytes x))
        ∧ exec (.excludeRead r) s = .next (s.answer r.write 33 r.tag .ok (list ++ exclusionBytes x))

/-! ### Checks and reads -/

/-- CHECK START refuses an empty mask, is BUSY while a check or a sweep is in progress, and otherwise clears the summary and
takes the masked channels that the active map enables as the sweep (R144, R147). CHECK ABORT empties the sweep and ends the
check in progress: in STARTING the starts are withdrawn and the stage is IDLE; in PRE, ESTABLISH and MEASURE the ends are
held and the stage is ENDING; the record is INCOMPLETE, reason "abort", and the retry delay 60; an idle or ending check is
left alone (R137, R138, R145; the count answered: log 25). -/
def Obligations.SweepsStartAndAbort : Prop :=
  (∀ (r : Request) (s : State) (mask : ChanSet), Addressed r s → s.control.mode ≠ .boot →
      r.payload = beBytes 2 mask.toNat →
      (mask = 0 → exec (.checkStart r) s = .next (s.answer r.write 40 r.tag .badArgument []))
      ∧ (mask ≠ 0 → (s.check.stage ≠ .idle ∨ s.check.sweep ≠ 0) →
          exec (.checkStart r) s = .next (s.answer r.write 40 r.tag .busy []))
      ∧ (mask ≠ 0 → s.check.stage = .idle → s.check.sweep = 0 → ∃ set : ChanSet,
          (∀ c : Chan, set.getLsbD c.val = (mask.getLsbD c.val && s.router.active.channels[c].enabled))
          ∧ exec (.checkStart r) s = .next ({ s with check := { s.check with
              sweep := set, summary := { taken := set, count := 0, minimum := 9999, maximum := -9999 } } }.answer
                r.write 40 r.tag .ok (beBytes 2 set.toNat))))
  ∧ (∀ (r : Request) (s : State), Addressed r s → s.control.mode ≠ .boot → r.payload = [] →
      let count := BitVec.ofNat 8 (((List.finRange 16).filter fun c : Chan => s.check.sweep.getLsbD c.val).length)
      (s.check.stage = .idle ∨ s.check.stage = .ending → exec (.checkAbort r) s =
          .next ({ s with check := { s.check with sweep := 0 } }.answer r.write 41 r.tag .ok [255, count]))
      ∧ ∀ c : Chan, s.check.channel = some c → s.check.stage ≠ .idle → s.check.stage ≠ .ending →
          ∃ t : State, exec (.checkAbort r) s = .next (t.answer r.write 41 r.tag .ok [BitVec.ofNat 8 c.val, count])
            ∧ t.check.sweep = 0 ∧ t.check.drive = none
            ∧ t.check.stage = (if s.check.stage = .starting then .idle else .ending)
            ∧ t.channels[c].account = { s.channels[c].account with
                retry := 60
                record := some { code := .incomplete, reason := some .abort, response := none, deviation := none
                                 lpre := none, lchk := none, second := s.time.runningSecond, kind := s.check.kind } }
            ∧ (∀ d : Chan, s.check.involved d = true →
                t.channels[d].cond.request = if s.check.stage = .starting then .none else .endHeld)
            ∧ (∀ d : Chan, s.check.involved d = false → t.channels[d] = s.channels[d])
            ∧ (s.trunk.hub = [] → t.trunk.hub = (match s.check.drive with
                | some slot => [requestCell 4 true 71 0 [BitVec.ofNat 8 slot.val]]
                | none => []))
            ∧ t.events = s.events ∧ t.groups = s.groups ∧ t.control = s.control)

/-- CHECK READ, CHECK SUMMARY, LEVEL READ and STATS READ answer what the part holds and change nothing but the outgoing
queue; a channel above 15 is BAD_ARGUMENT (R45, R88, R146, R147). The model's readings are the absent fields (log 45) and the
yes-or-no bytes, sweep pending among them, which carry yes as 0 and no as 1 (log 8). -/
def Obligations.ReadsAnswerWithoutEffect : Prop :=
  ∀ (r : Request) (s : State), Addressed r s → s.control.mode ≠ .boot →
    (∀ c : Chan, r.payload = [BitVec.ofNat 8 c.val] →
      let ch := s.channels[c]
      let state := BitVec.ofNat 8 (channelStateCode ch.cond.state)
      (∃ head, exec (.checkRead r) s = .next (s.answer r.write 42 r.tag .ok (head
          ++ [BitVec.ofInt 8 ch.account.balance, BitVec.ofNat 8 ch.account.retry, BitVec.ofNat 8 ch.account.quiet]))
        ∧ head = checkRecordBytes ch.account.record ∧ head.length = 17)
      ∧ (∃ tail, exec (.levelRead r) s = .next (s.answer r.write 50 r.tag .ok ([BitVec.ofNat 8 c.val, state] ++ tail))
        ∧ tail = sliceRecordBytes ch.latestSlice ++ channelSecondBytes ch.latestSecond ∧ tail.length = 39)
      ∧ exec (.statsRead r) s = .next (s.answer r.write 51 r.tag .ok ([BitVec.ofNat 8 c.val, state]
          ++ beBytes 2 ch.ring.length ++ beBytes 2 (ch.ring.countP (·.level.isSome))
          ++ beBytes 2 (ch.ring.countP fun e => e.level.isSome && e.overload)
          ++ secondOptionBytes (ch.ring.head?.map (·.second)) ++ secondOptionBytes (ch.ring.getLast?.map (·.second))
          ++ levelBytes (percentile ch.ring 10) ++ levelBytes (percentile ch.ring 50)
          ++ levelBytes (percentile ch.ring 90))))
    ∧ (∀ b : Byte, r.payload = [b] → 15 < b.toNat →
        exec (.checkRead r) s = .next (s.answer r.write 42 r.tag .badArgument [])
        ∧ exec (.levelRead r) s = .next (s.answer r.write 50 r.tag .badArgument [])
        ∧ exec (.statsRead r) s = .next (s.answer r.write 51 r.tag .badArgument []))
    ∧ (r.payload = [] → exec (.checkSummary r) s = .next (s.answer r.write 43 r.tag .ok
        (beBytes 2 s.check.summary.taken.toNat ++ beBytes 2 s.check.sweep.toNat
          ++ [if s.check.sweep ≠ 0 ∨ (s.check.stage ≠ .idle ∧ s.check.kind = .manual) then 0 else 1]
          ++ [BitVec.ofNat 8 s.check.summary.count] ++ beSigned 2 s.check.summary.minimum
          ++ beSigned 2 s.check.summary.maximum)))

/-- RESULT READ answers the record that holds its sequence, in every mode; a sequence not held is NOT_AVAILABLE with the oldest
and newest sequences held, each absent when the ring is empty; nothing changes but the outgoing queue. A payload of another
length is BAD_ARGUMENT, and a broadcast request is ignored (R151). The 43 bytes of a record are its fields at their places,
most significant byte first, an absent level as all ones, the outcomes numbered from EXCLUDED 0 and the flags as bits 0 to 9
(R149, R170, R177). -/
def Obligations.ResultReadFindsSequence : Prop :=
  (∀ (r : Request) (s : State), (r.broadcast = true → exec (.resultRead r) s = .next s)
    ∧ (Addressed r s → r.payload.length ≠ 2 →
        exec (.resultRead r) s = .next (s.answer r.write 60 r.tag .badArgument [])))
  ∧ (∀ (r : Request) (s : State) (n : Nat), Addressed r s → s.resultLaw → n < 65536 → r.payload = beBytes 2 n →
    (∀ x ∈ s.results.ring, x.sequence = n →
      exec (.resultRead r) s = .next (s.answer r.write 60 r.tag .ok (resultBytes x)))
    ∧ (s.results.ring = [] →
        exec (.resultRead r) s = .next (s.answer r.write 60 r.tag .notAvailable (List.replicate 6 0xFF)))
    ∧ ∀ oldest newest, s.results.ring.head? = some oldest → s.results.ring.getLast? = some newest →
        (∀ x ∈ s.results.ring, x.sequence ≠ n) → exec (.resultRead r) s = .next (s.answer r.write 60 r.tag .notAvailable
          (beBytes 3 oldest.sequence ++ beBytes 3 newest.sequence)))
  ∧ ∀ x : WindowResult,
    let part (first count : Nat) : List Byte := ((resultBytes x).drop first).take count
    let level (l : Option Level) : List Byte := match l with | some n => beBytes 2 n | none => [255, 255]
    let f := x.flags
    (resultBytes x).length = 43 ∧ part 0 2 = beBytes 2 x.sequence ∧ part 2 1 = [BitVec.ofNat 8 x.group.val]
    ∧ part 3 1 = [BitVec.ofNat 8 x.period.val] ∧ part 4 1 = [BitVec.ofNat 8 x.day] ∧ part 5 3 = beBytes 3 x.start
    ∧ part 8 3 = beBytes 3 x.expected ∧ part 11 3 = beBytes 3 x.data ∧ part 14 3 = beBytes 3 x.excluded
    ∧ part 17 2 = level x.leq ∧ part 19 2 = level x.l90 ∧ part 21 2 = level x.site
    ∧ part 23 2 = level x.penalty ∧ part 25 2 = level x.rated ∧ part 27 2 = level x.limit
    ∧ (∀ n : Nat, [WindowOutcome.excluded, .unregulated, .insufficient, .indeterminate, .exceeded, .compliant][n]?
        = some x.outcome → part 29 1 = [BitVec.ofNat 8 n])
    ∧ part 30 2 = level x.maxLevel ∧ part 32 2 = level x.maxPeak ∧ part 34 3 = beBytes 3 x.onsets
    ∧ part 37 3 = beBytes 3 x.overload
    ∧ part 40 2 = beBytes 2 (f.lateStart.toNat + 2 * f.short.toNat + 4 * f.truncated.toNat + 8 * f.membership.toNat
        + 16 * f.suspect.toNat + 32 * f.maxExcluded.toNat + 64 * f.noBackground.toNat + 128 * f.trim.toNat
        + 256 * f.holdOver.toNat + 512 * f.underrange.toNat)
    ∧ part 42 1 = [BitVec.ofNat 8 x.lockLevel]

/-- An event is stored behind the others with the next sequence while fewer than 64 are held, and otherwise raises the
lost-after count of the newest up to 255; EVENT TAKE removes the oldest and answers its 19 bytes, under a header formed
after the removal, and is EMPTY on an empty queue; broadcast it is ignored, and without a place for its answer it is faulted
OVERRUN and the record stays (R155, R156). The 19 bytes of a record are its fields at their places, most significant byte
first, the kinds numbered from ALERT ON 1, an absent level as all ones; a subject of none as 0, and an absent period, kind value
or detail as 255, 255 and the most negative value, are the model's choices (R154, R170, R176, R178; log 33). -/
def Obligations.EventQueueStoresAndTakes : Prop :=
  (∀ (s : State) (n : Nat) (e : Event), s.events.queue.length < 64 →
    (s.storeEvent n e).events = { queue := s.events.queue ++ [{ sequence := s.events.next, event := e, lostAfter := 0 }]
                                  next := (s.events.next + 1) % 65536 })
  ∧ (∀ (s : State) (n : Nat) (e : Event) (front : List EventRecord) (x : EventRecord),
      s.events.queue = front ++ [x] → 64 ≤ s.events.queue.length →
      s.storeEvent n e = { s with events := { s.events with
        queue := front ++ [{ x with lostAfter := min 255 (x.lostAfter + 1) }] } })
  ∧ (∀ (r : Request) (s : State), (r.broadcast = true → exec (.eventTake r) s = .next s)
    ∧ (r.broadcast = false → 8 ≤ s.trunk.out.length →
        exec (.eventTake r) s = .next { s with trunk := { s.trunk with lastFault := some .overrun } }))
  ∧ (∀ (r : Request) (s : State), Addressed r s → r.payload = [] →
    (s.events.queue = [] → exec (.eventTake r) s = .next (s.answer r.write 61 r.tag .empty []))
    ∧ ∀ e rest, s.events.queue = e :: rest → exec (.eventTake r) s =
        .next ({ s with events := { s.events with queue := rest } }.answer r.write 61 r.tag .ok (eventBytes e)))
  ∧ ∀ x : EventRecord,
    let e := x.event
    let part (first count : Nat) : List Byte := ((eventBytes x).drop first).take count
    let level (l : Option Level) : List Byte := match l with | some n => beBytes 2 n | none => [255, 255]
    (eventBytes x).length = 19 ∧ part 0 2 = beBytes 2 x.sequence ∧ part 2 4 = beBytes 4 (e.second % 4294967296)
    ∧ (∀ n : Nat, [EventKind.alertOn, .alertOff, .lmax, .peak, .windowExceeded, .signalAbsent, .signalRestored, .checkFault,
        .checkOverdue, .linkLost, .linkRestored, .scheduleChanged, .mapChanged, .lock, .clockSet, .clockTrim][n]? = some e.kind →
        part 6 1 = [BitVec.ofNat 8 (n + 1)])
    ∧ part 7 1 = [match e.subject with
        | .none => 0
        | .group g => BitVec.ofNat 8 (64 + g.val)
        | .channel c => BitVec.ofNat 8 (128 + c.val)]
    ∧ part 8 2 = level e.level ∧ part 10 2 = level e.limit
    ∧ part 12 1 = [match e.period with | some i => BitVec.ofNat 8 i.val | none => 255]
    ∧ part 13 1 = [BitVec.ofNat 8 (e.detail.isSome.toNat + 2 * e.discarded.toNat + 4 * e.manual.toNat + 8 * e.startUp.toNat)]
    ∧ part 14 1 = [match e.value with
        | none => 255
        | some (.check .incomplete) | some (.commit .boundary) | some (.bank .a) => 0
        | some (.check .overload) | some (.commit .immediate) | some (.bank .b) => 1
        | some (.check .ambient) => 2
        | some (.check .noResponse) => 3
        | some (.check .low) => 4
        | some (.check .high) => 5
        | some (.check .pass) => 6]
    ∧ part 15 3 = (match e.detail with | some d => beSigned 3 d | none => [128, 0, 0])
    ∧ part 18 1 = [BitVec.ofNat 8 x.lostAfter]

/-! ### Cells, lanes and frames -/

/-- A whole cell with a matching check byte runs its command where it is sent to this node, runs it and goes up the lane
where it is broadcast, and only goes up the lane where it is another node's (R164, R172, R174, R180). A broadcast cell goes up
before its command is run, and the bits of the check byte are taken from the most significant: the model's choices (log 50,
55). -/
def Obligations.ControlCellsGoWhereAddressed : Prop :=
  ∀ (s : State) (w : Bool) (code tag : Byte) (p : List Byte), s.trunk.parser = .hunting → p.length ≤ 48 →
    let run (r : Request) (s : State) := match commandOf code with
      | some k => exec (rowOf r k) s
      | none => exec (.unknownCommand code r) s
    let up (cell : Cell) : State := { s with trunk :=
      if s.trunk.retThrough.length < 2 then { s.trunk with retThrough := s.trunk.retThrough ++ [cell] }
      else { s.trunk with discard := true } }
    let request (b : Bool) : Request := { broadcast := b, write := w, tag := tag, payload := p }
    exec (.controlCell (requestCell s.control.node.val w code tag p)) s = run (request false) s
    ∧ exec (.controlCell (requestCell 7 w code tag p)) s = run (request true) (up (requestCell 7 w code tag p))
    ∧ ∀ n : Nat, n < 7 → n ≠ s.control.node.val →
        exec (.controlCell (requestCell n w code tag p)) s = .next (up (requestCell n w code tag p))

/-- A cell whose last byte is late or whose length exceeds 48 has no effect but its fault, held where the cell is this node's
or broadcast, and another node's is dropped; a cell whose check byte does not match is faulted CHECK where it is this node's,
faulted CHECK and still forwarded upward where it is broadcast, and forwarded upward unjudged where it is another node's
(R164, R165; bit order of the check: log 55). -/
def Obligations.FaultyCellsAreHeldOrDropped : Prop :=
  ∀ (s : State) (b : Byte) (rest : List Byte),
    let ours := b.toNat % 8 = s.control.node.val ∨ b.toNat % 8 = 7
    let held (f : CellFault) (parser : Parser) : State :=
      { s with trunk := { s.trunk with
        lastFault := if ours then some f else s.trunk.lastFault, parser := parser } }
    (∀ mark : Bool, exec (.cellTimeout (b :: rest) mark) s =
      .next (held .timeout (if mark then .inCell [] else .hunting)))
    ∧ exec (.cellLengthFault (b :: rest)) s = .next (held .length .hunting)
    ∧ ∀ (w : Bool) (code tag x : Byte) (p : List Byte), p.length ≤ 48 → s.trunk.parser = .hunting →
        let spoilt (n : Nat) : Cell := (requestCell n w code tag p).dropLast ++ [x]
        let up (cell : Cell) : Trunk :=
          if s.trunk.retThrough.length < 2 then { s.trunk with retThrough := s.trunk.retThrough ++ [cell] }
          else { s.trunk with discard := true }
        let wrong (n : Nat) : Prop := x ≠ crc8 (requestCell n w code tag p).dropLast
        (wrong s.control.node.val → exec (.controlCell (spoilt s.control.node.val)) s =
          .next { s with trunk := { s.trunk with lastFault := some .check } })
        ∧ (wrong 7 → exec (.controlCell (spoilt 7)) s =
          .next { s with trunk := { up (spoilt 7) with lastFault := some .check } })
        ∧ ∀ n : Nat, n < 7 → n ≠ s.control.node.val → exec (.controlCell (spoilt n)) s =
            .next { s with trunk := up (spoilt n) }

/-- Each forward cell window sends by the table of R162, the two sources alternating while both hold cells; a cell arriving
finds a place in the pass-through buffer while it holds fewer than 4, and is discarded with the flag set otherwise; the turn
is pass-through after power-on and after RESTART. The Trunk In return lane sends the oldest hub cell before any pass-through
cell, and nothing where none waits; a hub cell is a control cell to node 4 with the write flag set, tag 0 and the slot (R132,
R166; bit order of its check: log 55). -/
def Obligations.LanesSendInTurn : Prop :=
  ((∀ s : State,
      (s.trunk.through = [] → s.trunk.out = [] →
        exec .forwardCellWindow s = .next { s with trunk := { s.trunk with cellOut := none } })
      ∧ (∀ c through, s.trunk.through = c :: through → (s.trunk.out = [] ∨ s.trunk.turn = .passThrough) →
        exec .forwardCellWindow s =
          .next { s with trunk := { s.trunk with through := through, cellOut := some c, turn := .own } })
      ∧ (∀ c out, s.trunk.out = c :: out → (s.trunk.through = [] ∨ s.trunk.turn = .own) →
        exec .forwardCellWindow s =
          .next { s with trunk := { s.trunk with out := out, cellOut := some c.bytes, turn := .passThrough } })
      ∧ ∀ cell, exec (.passThroughCell cell) s = .next { s with trunk :=
          if s.trunk.through.length < 4 then { s.trunk with through := s.trunk.through ++ [cell] }
          else { s.trunk with discard := true } })
    ∧ (∀ n s t, exec (.powerOn n) s = .next t → t.trunk.turn = .passThrough)
    ∧ ∀ s : State, s.restart.trunk.turn = .passThrough)
  ∧ ((∀ s : State,
      (∀ c rest, s.trunk.hub = c :: rest → exec .returnLaneSend s =
        .next { s with trunk := { s.trunk with hub := rest, returnOut := some c } })
      ∧ (∀ c rest, s.trunk.hub = [] → s.trunk.retThrough = c :: rest → exec .returnLaneSend s =
        .next { s with trunk := { s.trunk with retThrough := rest, returnOut := some c } })
      ∧ (s.trunk.hub = [] → s.trunk.retThrough = [] → exec .returnLaneSend s =
        .next { s with trunk := { s.trunk with returnOut := none } }))
    ∧ ∀ (code : Byte) (slot : Fin 64), hubCell code slot = requestCell 4 true code 0 [BitVec.ofNat 8 slot.val])

/-- A good frame hands each channel with a slice in progress the sample of its slot: N, E, P, the clip count and the raw
extremes take it (R30); a channel whose slot lies at or above the slot count, or that is OFF, is left as it stands (R1, R21).
In LOCKED it ends the missing run, and in HOLD-OVER it raises the good run and the hold-over length, short of the 48th, which
declares restoration (R65, R66). Nothing else changes but what Trunk Out sent and the mark of a boundary taken. At frame index
5,999 the frame period first takes the boundary, the second boundary at slice index 7, and the frame then counts as period 0 of
the slice it opens (R63; the model's choice of order: log 2). -/
def Obligations.GoodFrameReachesChannels : Prop :=
  ∀ (s : State) (f : Frame), goodFrame f = true → s.time.link = .locked ∨ s.time.goodRun < 47 →
    let carries (u t : State) (index : Nat) : Prop :=
      t = { u with
          time := (match u.time.link with
            | .locked => { u.time with frameIndex := index, missingRun := 0 }
            | .holdOver => { u.time with
                frameIndex := index, goodRun := u.time.goodRun + 1
                holdLength := min 4294967295 (u.time.holdLength + 1) })
          channels := t.channels
          trunk := { u.trunk with frameOut := t.trunk.frameOut, lastSent := t.trunk.lastSent }
          control := { u.control with secondTaken := false } }
      ∧ ∀ c : Chan,
        let e := u.router.active.channels[c]
        let ch := u.channels[c]
        (f.count.toNat ≤ e.sourceSlot.val ∨ ch.slice = none → t.channels[c] = ch)
        ∧ ∀ x sl, f.samples[e.sourceSlot.val]? = some x → ch.slice = some sl →
            let level := levelPathStep u.coefs e.levelWeighting ch.levelPath (x.toInt * 256)
            let peak := peakPathStep u.coefs e.peakWeighting ch.peakPath (x.toInt * 256)
            t.channels[c] = { ch with
              levelPath := level.1
              peakPath := peak.1
              slice := some { sl with
                n := sl.n + 1
                energy := sl.energy + level.2.1.natAbs ^ 2
                peak := if sl.peak < peak.2.1.natAbs then peak.2.1.natAbs else sl.peak
                clipCount := if x.toInt = -8388608 ∨ x.toInt = 8388607 then sl.clipCount + 1 else sl.clipCount
                rawMin := some (match sl.rawMin with | some m => if x.toInt < m then x.toInt else m | none => x.toInt)
                rawMax := some (match sl.rawMax with | some m => if m < x.toInt then x.toInt else m | none => x.toInt)
                saturated := sl.saturated || level.2.2 || peak.2.2 } }
            ∧ (e.levelWeighting = .z → level = (ch.levelPath, x.toInt * 256, false))
    (s.time.frameIndex + 1 < 6000 → ∃ t, exec (.sampleFrame f) s = .next t ∧ carries s t (s.time.frameIndex + 1))
    ∧ (s.time.frameIndex = 5999 → s.control.secondTaken = false →
      ∃ u t, exec (if 7 ≤ s.time.sliceIndex then .secondBoundary else .sliceBoundary) s = .next u
        ∧ u.time.frameIndex = 0 ∧ u.time.link = s.time.link
        ∧ exec (.sampleFrame f) s = .next t ∧ carries u t 0)

/-- On Trunk Out a good frame keeps its slot count, its hub status byte and every slot that no quenched channel fills; a
slot filled for zero carries 0, one filled for hold alone the hold value of the lowest channel asking; the frame check
matches what is sent (R160, R161). The channels ask as they stand in that frame period: at frame index 5,999, where the period
first takes the boundary, as the boundary leaves them (R63; the model's choice of order: log 2). -/
def Obligations.FillReplacesQuenchedSlots : Prop :=
  ∀ (s : State) (f : Frame), goodFrame f = true → s.time.link = .locked ∨ s.time.goodRun < 47 →
    let asks (u : State) (slot : Nat) (c : Chan) : Prop :=
      u.router.active.channels[c].sourceSlot.val = slot
        ∧ (u.channels[c].cond.state = .absent ∨ u.channels[c].cond.state = .checking)
        ∧ u.router.active.channels[c].fillMode ≠ .pass
    let sends (u t : State) : Prop := ∃ sent, t.trunk.frameOut = some sent
      ∧ sent.count = f.count ∧ sent.status = f.status ∧ sent.samples.length = f.samples.length ∧ goodFrame sent = true
      ∧ ∀ (slot : Fin 64) (x : Sample), f.samples[slot.val]? = some x → ∃ y, sent.samples[slot.val]? = some y
        ∧ t.trunk.lastSent[slot] = y
        ∧ ((∀ c : Chan, ¬asks u slot.val c) → y = x)
        ∧ ((∃ c : Chan, asks u slot.val c ∧ u.router.active.channels[c].fillMode = .zero) → y = 0)
        ∧ ∀ c : Chan, asks u slot.val c → (∀ d : Chan, asks u slot.val d → c ≤ d) →
            (∀ d : Chan, asks u slot.val d → u.router.active.channels[d].fillMode = .hold) → y = u.channels[c].holdValue
    (s.time.frameIndex + 1 < 6000 → ∃ t, exec (.sampleFrame f) s = .next t ∧ sends s t)
    ∧ (s.time.frameIndex = 5999 → s.control.secondTaken = false →
      ∃ u t, exec (if 7 ≤ s.time.sliceIndex then .secondBoundary else .sliceBoundary) s = .next u
        ∧ exec (.sampleFrame f) s = .next t ∧ sends u t)

/-- Inside a slice, a bad frame or a frame period with no frame raises the missing run in LOCKED and ends the good run in
HOLD-OVER, whose length it raises; no channel changes; a bad frame is sent unmodified, and with no frame the part sends its
own idle frame in HOLD-OVER and nothing in LOCKED (R21, R62, R65, R66, R160). At frame index 5,999 the frame period first
takes the boundary, the second boundary at slice index 7, and then counts as period 0 of the slice it opens (R63; the model's
choice of order: log 2). -/
def Obligations.MissingFramesCountTheRun : Prop :=
  ∀ (s : State),
    (s.time.frameIndex + 1 < 6000 →
      let after (time : TimeBase) (sent : Option Frame) : State :=
        { s with
          time := { time with frameIndex := s.time.frameIndex + 1 }
          trunk := { s.trunk with frameOut := sent }
          control := { s.control with secondTaken := false } }
      (s.time.link = .locked → s.time.missingRun < 191 →
        let missed := { s.time with missingRun := s.time.missingRun + 1 }
        exec .framePeriod s = .next (after missed none)
        ∧ ∀ f, goodFrame f = false → exec (.sampleFrame f) s = .next (after missed (some f)))
      ∧ (s.time.link = .holdOver →
        let missed := { s.time with goodRun := 0, holdLength := min 4294967295 (s.time.holdLength + 1) }
        (∃ idle, goodFrame idle = true ∧ idle.count = 0 ∧ idle.status = 0
          ∧ exec .framePeriod s = .next (after missed (some idle)))
        ∧ ∀ f, goodFrame f = false → exec (.sampleFrame f) s = .next (after missed (some f))))
    ∧ (s.time.frameIndex = 5999 → s.control.secondTaken = false → s.time.missingRun < 191 →
      ∃ u, exec (if 7 ≤ s.time.sliceIndex then .secondBoundary else .sliceBoundary) s = .next u
        ∧ u.time.frameIndex = 0
        ∧ let missed : TimeBase := (match s.time.link with
            | .locked => { u.time with missingRun := s.time.missingRun + 1 }
            | .holdOver => { u.time with goodRun := 0, holdLength := min 4294967295 (s.time.holdLength + 1) })
          (∃ idle, exec .framePeriod s = .next { u with time := missed, trunk := { u.trunk with frameOut := idle } }
            ∧ (idle.isSome = true ↔ s.time.link = .holdOver))
          ∧ ∀ f, goodFrame f = false → exec (.sampleFrame f) s =
              .next { u with time := missed, trunk := { u.trunk with frameOut := some f } })

/-- Link loss, declared by LINK_LOSS or by the 192nd frame period in a row without a good frame, be it empty or a bad frame,
turns LOCKED into HOLD-OVER, marks every slice in progress hold-over and raises LINK LOST; in HOLD-OVER none is declared (R31,
R65; in a frame period the declaring period is counted, and LINK_LOSS is the declaration alone: log 2, 4). A check in progress
ends: in STARTING its starts are withdrawn and the stage is IDLE, in PRE, ESTABLISH and MEASURE its ends are held and the
stage is ENDING; the record is INCOMPLETE, reason "link", the retry delay 60, DRIVE OFF goes to the hub where the drive was
on, and the channel of a manual check leaves the sweep (R137, R138). The declaring frame period sends the bad frame as it came,
or the idle frame of HOLD-OVER (R160); at frame index 5,999 it first takes the boundary, the second boundary at slice index 7,
and the loss meets what that leaves, its check too (R63; the model's choice of order: log 2). -/
def Obligations.LinkLossIsDeclared : Prop :=
  ∀ (s : State),
    let marked (ch : Channel) : Channel := { ch with slice := ch.slice.map fun sl => { sl with holdOver := true } }
    let quiet (u : State) : Prop := u.check.stage = .idle ∨ u.check.stage = .ending
    let event (u : State) : Event :=
      { second := u.time.runningSecond, kind := .linkLost, subject := .none, level := none, limit := none
        period := none, value := none, discarded := false, manual := false, startUp := false, detail := none }
    let declared (u t : State) (length index : Nat) (sent : Option Frame) : Prop :=
      let lost : State := { u with
        time := { u.time with link := .holdOver, holdLength := length, missingRun := 0, frameIndex := index }
        channels := u.channels.map marked }
      let raised := lost.storeEvent 0 (event u)
      t.trunk.frameOut = sent
      ∧ (quiet u → t = { raised with trunk := { raised.trunk with frameOut := sent } })
      ∧ ∀ c : Chan, u.check.channel = some c → ¬quiet u →
        t = { lost with channels := t.channels, check := t.check, trunk := t.trunk, events := raised.events }
        ∧ t.check.stage = (if u.check.stage = .starting then .idle else .ending) ∧ t.check.drive = none
        ∧ (u.check.stage ≠ .starting → t.check.channel = some c ∧ t.check.decided = some (.incomplete, .link))
        ∧ (∀ d : Chan, t.check.sweep.getLsbD d.val =
            (u.check.sweep.getLsbD d.val && !(decide (u.check.kind = .manual) && decide (d = c))))
        ∧ t.channels[c].account = { u.channels[c].account with
            retry := 60
            record := some { code := .incomplete, reason := some .link, response := none, deviation := none
                             lpre := none, lchk := none, second := u.time.runningSecond, kind := u.check.kind } }
        ∧ (∀ d : Chan, u.check.involved d = true →
            t.channels[d].cond.request = if u.check.stage = .starting then .none else .endHeld)
        ∧ (∀ d : Chan, u.check.involved d = false → t.channels[d] = marked u.channels[d])
        ∧ (∀ d : Chan, t.channels[d].slice = (marked u.channels[d]).slice
            ∧ t.channels[d].cond.state = u.channels[d].cond.state)
        ∧ (u.trunk.hub = [] → t.trunk.hub = (match u.check.drive with
            | some slot => [requestCell 4 true 71 0 [BitVec.ofNat 8 slot.val]]
            | none => []))
    let missed (u : State) (index : Nat) : Prop :=
      (∃ t idle, exec .framePeriod s = .next t ∧ declared u t 1 index (some idle)
        ∧ goodFrame idle = true ∧ idle.count = 0 ∧ idle.status = 0)
      ∧ ∀ f, goodFrame f = false → ∃ t, exec (.sampleFrame f) s = .next t ∧ declared u t 1 index (some f)
    let taking : State := { s with control := { s.control with secondTaken := false } }
    (s.time.link = .holdOver → exec .linkLoss s = .next s)
    ∧ (s.time.link = .locked → ∃ t, exec .linkLoss s = .next t ∧ declared s t 0 s.time.frameIndex s.trunk.frameOut)
    ∧ (s.time.link = .locked → s.time.missingRun = 191 → s.time.frameIndex + 1 < 6000 → missed taking (s.time.frameIndex + 1))
    ∧ (s.time.link = .locked → s.time.missingRun = 191 → s.time.frameIndex = 5999 →
      ∃ u, exec (if 7 ≤ s.time.sliceIndex then .secondBoundary else .sliceBoundary) taking = .next u
        ∧ u.time.frameIndex = 0 ∧ u.time.link = .locked ∧ missed u 0)

/-- Restoration, declared by LINK_RESTORATION or by the 48th good frame in a row, turns HOLD-OVER into LOCKED and ends start-up,
holds restore for every channel that is not OFF, raises the balance of each auto-check channel by 1 up to 6 after an outage of
60 s or more outside start-up, with CHECK OVERDUE where it rises from 5 to 6, and raises LINK RESTORED with the outage length;
these events and no others enter the Event Queue, or are counted as lost (R55, R66, R67, R140). In LOCKED nothing is declared.
The declaring frame is counted in the outage, and its samples reach the channels (R1); at frame index 5,999 its period first
takes the boundary, and the restoration falls in the slice it opens (R63; log 2, 4). -/
def Obligations.RestorationIsDeclared : Prop :=
  ∀ (s : State),
    let declared (u t : State) (length index : Nat) : Prop :=
      let owed (c : Chan) : Prop :=
        60 * 48000 ≤ length ∧ u.time.startUp = false ∧ u.router.active.channels[c].autoCheck = true
      let stored (e : Event) : Prop := t.raised e ∧ (u.events.queue.length ≤ 47 → ∃ x ∈ t.events.queue, x.event = e)
      t.time = { u.time with
          link := .locked, goodRun := 0, missingRun := 0, startUp := false, holdLength := length, frameIndex := index }
      ∧ t.groups = u.groups ∧ t.check = u.check ∧ t.router = u.router ∧ t.results = u.results
      ∧ (∀ c : Chan,
          t.channels[c].cond = { u.channels[c].cond with
              restoreHeld := u.channels[c].cond.restoreHeld || decide (u.channels[c].cond.state ≠ .off) }
          ∧ t.channels[c].account = { u.channels[c].account with
              balance := if owed c ∧ u.channels[c].account.balance < 6 then u.channels[c].account.balance + 1
                else u.channels[c].account.balance }
          ∧ (owed c → u.channels[c].account.balance = 5 → stored
              { second := u.time.runningSecond, kind := .checkOverdue, subject := .channel c, level := none, limit := none
                period := none, value := none, discarded := false, manual := false, startUp := false, detail := none }))
      ∧ stored { second := u.time.runningSecond, kind := .linkRestored, subject := .none, level := none, limit := none
                 period := none, value := none, discarded := false, manual := false, startUp := u.time.startUp
                 detail := some ((min 65535 (length / 48000) : Nat) : Int) }
      ∧ (u.events.queue.length ≤ 47 → t.events.queue.length = u.events.queue.length + 1
          + (List.finRange 16).countP fun c : Chan => decide (owed c ∧ u.channels[c].account.balance = 5))
    (s.time.link = .locked → exec .linkRestoration s = .next s)
    ∧ (s.time.link = .holdOver → ∃ t, exec .linkRestoration s = .next t
        ∧ declared s t s.time.holdLength s.time.frameIndex
        ∧ ∀ c : Chan, t.channels[c].slice = s.channels[c].slice)
    ∧ ∀ f : Frame, goodFrame f = true → s.time.link = .holdOver → s.time.goodRun = 47 →
      let length := min 4294967295 (s.time.holdLength + 1)
      let sampled (u t : State) : Prop := ∀ c : Chan, t.channels[c].slice.map (·.n) = u.channels[c].slice.map fun sl =>
        if u.router.active.channels[c].sourceSlot.val < f.count.toNat then sl.n + 1 else sl.n
      (s.time.frameIndex + 1 < 6000 → ∃ t, exec (.sampleFrame f) s = .next t
        ∧ declared s t length (s.time.frameIndex + 1) ∧ sampled s t)
      ∧ (s.time.frameIndex = 5999 → s.control.secondTaken = false →
        ∃ u t, exec (if 7 ≤ s.time.sliceIndex then .secondBoundary else .sliceBoundary) s = .next u
          ∧ exec (.sampleFrame f) s = .next t ∧ declared u t length 0 ∧ sampled u t)

/-! ### Boundaries -/

/-- SLICE_BOUNDARY inside a second returns the frame index to 0 and raises the slice index; every slice in progress closes
into the channel's latest record under the map in force: its intensity, levels, crest, overload and signal class by R33 to
R38 (levels by the rounding of log 5 and 6); every channel that is not OFF opens an empty slice in its state with the marks of
the position handed; each enabled group forms a group slice from its awaited members' LIVE records with data, takes it and
tests it against its open window's immediate limits, and each event that raises is queued or counted as lost; each group awaits
its members that are not OFF for the slice that opens; waiting
coefficient sets come into force at lock level 0 and are discarded at 1 and 2; maps, schedules, exclusions and civil time
stand (R25, R29, R32, R44, R63, R76 to R79, R111, R112). SECOND_BOUNDARY closes the slices, opens the next ones and brings the
coefficients into force in the same way; a channel that its activation disables has no latest record (R9, R44). -/
def Obligations.SliceBoundaryClosesSlices : Prop :=
  ∀ (second : Bool) (s : State), (if second then s.control.secondTaken = false else s.time.sliceIndex < 7) → s.channelLaw →
    let awaited (t : State) (g : Grp) : ChanSet :=
      membersOf s.router.active (fun c => decide (t.channels[c].cond.state ≠ .off)) g
    ∃ t, exec (if second then .secondBoundary else .sliceBoundary) s = .next t
    ∧ (second = false → t.time = { s.time with
        frameIndex := 0, sliceIndex := s.time.sliceIndex + 1, handedHoldOver := decide (s.time.link = .holdOver) }
      ∧ t.router = s.router ∧ t.schedules = s.schedules ∧ t.exclusions = s.exclusions
      ∧ t.control = { s.control with restarted := false, secondTaken := false })
    ∧ (∀ i : Fin 6, t.coefs[i] = (match s.coefs[i].waiting with
        | none => s.coefs[i]
        | some k => if s.control.lock = 0 then { inForce := k, waiting := none, written := true }
            else { s.coefs[i] with waiting := none }))
    ∧ (∀ g : Grp, second = false → s.router.active.groups[g].enabled = false →
        t.groups[g] = { s.groups[g] with awaited := awaited t g })
    ∧ (∀ g : Grp, second = false → s.router.active.groups[g].enabled = true → ∃ x ad, t.groups[g].latest = some x
        ∧ (let gr := s.groups[g].takeSlice s.router.active.groups[g] x ad
          let excluded := covered s.exclusions g s.time.runningSecond
          let tested := gr.immediate g (decide (s.control.mode = .run)) excluded x
          t.groups[g] = { tested.1 with awaited := awaited t g }
          ∧ ∀ e, .event e ∈ tested.2.flatten → 64 ≤ t.events.queue.length ∨ ∃ r ∈ t.events.queue, r.event = e)
        ∧ x = formGroupSlice s.time.runningSecond s.time.sliceIndex x.holdOver x.discarded ad
        ∧ ad = ((List.finRange 16).filterMap fun c : Chan => if s.groups[g].awaited.getLsbD c.val then
            s.channels[c].slice.bind fun sl => admission
              (sl.close s.time.runningSecond s.time.sliceIndex s.router.active.channels[c]) s.channels[c].cond.suspect
            else none)
        ∧ (let awaits (c : Chan) (sl : Slice) : Prop :=
            s.groups[g].awaited.getLsbD c.val = true ∧ s.channels[c].slice = some sl;
          ((∀ c sl, ¬awaits c sl) → x.holdOver = s.time.handedHoldOver ∧ x.discarded = s.time.held)
          ∧ ∀ h d, (∃ c sl, awaits c sl) → (∀ c sl, awaits c sl → sl.holdOver = h ∧ sl.discarded = d) →
              x.holdOver = h ∧ x.discarded = d)
        ∧ x.second = s.time.runningSecond ∧ x.index = s.time.sliceIndex
        ∧ x.count = (List.finRange 16).countP fun d : Chan => s.groups[g].awaited.getLsbD d.val
            && decide (s.channels[d].cond.state = .live)
            && (s.channels[d].slice.any fun sl => decide (4500 ≤ sl.n) && !sl.holdOver))
    ∧ ∀ c : Chan,
      (∀ sl, s.channels[c].slice = some sl → t.router.active.channels[c].enabled = true →
        ∃ x, t.channels[c].latestSlice = some x
        ∧ x.second = s.time.runningSecond ∧ x.index = s.time.sliceIndex ∧ x.takenIn = s.channels[c].cond.state
        ∧ x.n = sl.n ∧ x.clipCount = sl.clipCount ∧ x.rawMin = sl.rawMin ∧ x.rawMax = sl.rawMax
        ∧ x.holdOver = sl.holdOver ∧ x.discarded = sl.discarded
        ∧ (let e := s.router.active.channels[c]
          let data := 4500 ≤ sl.n ∧ sl.holdOver = false
          let i := levelIntensity e.sensitivity ((sl.energy : Rat) / ((sl.n * 2 ^ 62 : Nat) : Rat))
          let p := levelIntensity e.sensitivity (((sl.peak ^ 2 : Nat) : Rat) / ((2 ^ 62 : Nat) : Rat))
          let span := sl.rawMax.getD 0 - sl.rawMin.getD 0
          (data → x.levels = some { intensity := i, lt := (levelOf i).1, ltUnder := (levelOf i).2
                                    lpk := (levelOf p).1, lpkUnder := (levelOf p).2 })
          ∧ (¬data → x.levels = none)
          ∧ (∀ l, x.levels = some l → l.crest = (l.lpk : Int) - l.lt)
          ∧ (sl.n = 0 → x.signal = .empty) ∧ (sl.n ≠ 0 → span < e.absentThreshold → x.signal = .silent)
          ∧ (sl.n ≠ 0 → e.absentThreshold ≤ span → data → x.signal = .present)
          ∧ (sl.n ≠ 0 → e.absentThreshold ≤ span → ¬data → x.signal = .sparse))
        ∧ (x.overload = true ↔ s.router.active.channels[c].overloadCount ≤ sl.clipCount ∨ sl.saturated = true))
      ∧ (s.channels[c].slice = none → t.channels[c].latestSlice = s.channels[c].latestSlice)
      ∧ (t.router.active.channels[c].enabled = false → t.channels[c].latestSlice = none)
      ∧ (t.channels[c].cond.state = .off → t.channels[c].slice = none)
      ∧ (t.channels[c].cond.state ≠ .off → t.channels[c].slice = some
          { n := 0, energy := 0, peak := 0, clipCount := 0, rawMin := none, rawMax := none, saturated := false
            holdOver := decide (s.time.link = .holdOver), discarded := t.time.held
            takenIn := t.channels[c].cond.state })

/-- At a slice boundary inside a second, and at a second boundary with no map pending, each channel takes the state of the
first row of R48 that applies. Row 4: at lock level 0 a waiting set of a weighting it uses sends a channel in any state but OFF
to SETTLING, with both paths, the ring and the settle, silent and restore counts cleared, the suspect flag and the balance kept
and a start held refused (R22, R25, R85; its quiet run, latest and forming second too: R44, R142). A channel untouched by that,
whatever others meet: a held restore sends it from LIVE or SETTLING to SETTLING with its filters cleared; the eighth data slice
of SETTLING makes it LIVE; with its silent count at its integration, LIVE, it becomes ABSENT, its hold value the sample last sent
in its slot, and a start held is refused; the eighth PRESENT slice of ABSENT makes it LIVE again; the end held of an ENDING
check takes it from CHECKING to SETTLING; a start held and no waiting set takes it from LIVE to CHECKING (R50 to R55, R161). Row
11: at the first boundary after a RESTART each channel the active map enables opens in SETTLING with its filters cleared, and
any other stays OFF (R46, R60). A channel gone ABSENT raises SIGNAL ABSENT, one returned SIGNAL RESTORED with the Lt of the
restoring slice, each with the running second of the slice that closes (R59, R154). A timer that expires at a second boundary
counts in the balance (R141). The model's choices: that timer counts in the mode of the closing second (log 32), the second in
formation of row 11 is an empty one (log 48), and an entry to SETTLING from SETTLING sets the position entered at anew
(log 31). -/
def Obligations.ChannelsSettleFallSilentReturn : Prop :=
  ∀ (second : Bool) (s : State) (c : Chan),
    (if second then s.control.secondTaken = false ∧ s.router.pendingMap = none else s.time.sliceIndex < 7) →
    s.channelLaw → s.checkLaw → ∃ t, exec (if second then .secondBoundary else .sliceBoundary) s = .next t ∧
      let e := s.router.active.channels[c]
      let ch := s.channels[c]
      let cond := ch.cond
      let next := t.channels[c]
      let now := next.cond
      let here := some (t.time.runningSecond, t.time.sliceIndex)
      let changes := s.control.lock = 0 ∧ ∃ i : Fin 6, s.coefs[i].waiting.isSome = true
        ∧ ((i.val < 3 ∧ e.levelWeighting = .a) ∨ (3 ≤ i.val ∧ (e.levelWeighting = .c ∨ e.peakWeighting = .c)))
      let settles := now.state = .settling ∧ now.settleCount = 0 ∧ now.enteredAt = here
        ∧ next.levelPath = PathState.zero ∧ next.peakPath = PathState.zero
        ∧ next.slice = some (Slice.opening .settling (decide (s.time.link = .holdOver)) t.time.held)
      let expires := second = true ∧ s.control.mode = .run ∧ e.enabled = true ∧ e.autoCheck = true
        ∧ e.checkInterval * 60 ≤ ch.account.timer + 1
      (changes → cond.state ≠ .off → settles ∧ now.silentCount = 0 ∧ now.restoreCount = 0 ∧ now.restoreHeld = false
        ∧ next.ring = [] ∧ next.latestSecond = none ∧ next.forming = some SecondForming.empty
        ∧ now.suspect = cond.suspect ∧ next.account.quiet = 0 ∧ (cond.request = .startHeld → now.request = .none)
        ∧ next.account.balance = (if expires ∧ ch.account.balance < 6 then ch.account.balance + 1 else ch.account.balance))
      ∧ (s.control.restarted = true → (e.enabled = true → settles ∧ next.forming = some SecondForming.empty)
        ∧ (e.enabled = false → now.state = .off ∧ next.slice = none))
      ∧ ∀ sl, ch.slice = some sl → ¬changes → s.control.restarted = false →
        let data := 4500 ≤ sl.n ∧ sl.holdOver = false
        let span := sl.rawMax.getD 0 - sl.rawMin.getD 0
        ((cond.state = .live ∨ cond.state = .settling) → cond.restoreHeld = true →
          settles ∧ now.restoreHeld = false ∧ (second = false → next.ring = ch.ring))
        ∧ (cond.state = .settling → cond.restoreHeld = false → cond.settleCount = 7 → data →
          now.state = .live ∧ now.silentCount = 0 ∧ now.enteredAt = here)
        ∧ (cond.state = .settling → cond.restoreHeld = false → cond.settleCount < 7 →
          now.state = .settling ∧ now.enteredAt = cond.enteredAt
            ∧ (data → now.settleCount = cond.settleCount + 1) ∧ (¬data → now.settleCount = cond.settleCount))
        ∧ (cond.state = .live → cond.restoreHeld = false → 0 < sl.n → span < e.absentThreshold →
          cond.silentCount < 40 → e.absentIntegration.slices ≤ cond.silentCount + 1 →
          now.state = .absent ∧ now.restoreCount = 0 ∧ now.request = .none ∧ now.enteredAt = here
            ∧ t.raised (Event.plain s.time.runningSecond .signalAbsent (.channel c))
            ∧ next.holdValue = s.trunk.lastSent[e.sourceSlot])
        ∧ (cond.state = .absent → cond.restoreCount = 7 → data → (e.absentThreshold : Int) ≤ span →
          now.state = .live ∧ now.silentCount = 0 ∧ now.enteredAt = here ∧ next.levelPath = ch.levelPath
            ∧ ∃ x l, next.latestSlice = some x ∧ x.levels = some l
              ∧ t.raised { Event.plain s.time.runningSecond .signalRestored (.channel c) with level := some l.lt })
        ∧ (cond.state = .checking → s.check.stage = .ending → settles)
        ∧ (cond.state = .live → cond.restoreHeld = false → cond.request = .startHeld → 0 < sl.n →
          (e.absentThreshold : Int) ≤ span → (∀ i : Fin 6, s.coefs[i].waiting = none) →
          s.check.stage = .starting ∧ now.state = .checking ∧ now.enteredAt = here)

/-- At a slice boundary inside a second, and at a second boundary with no map pending, the check in progress takes the closing
slice of its channel by its stage: eight PRE slices in the PRE sum, then DRIVE ON and ESTABLISH, two slices, then MEASURE, eight
slices in the MEASURE sum, then DRIVE OFF, the judgment and the ends. A PRE or MEASURE slice without data ends it INCOMPLETE,
reason "data", and a coefficient change of a weighting that a channel of the check uses, reason "commit"; in ENDING it becomes
IDLE. In STARTING it enters PRE where every start is taken, and is ENDING, INCOMPLETE, reason "state", where one is refused, by
row 8 too; a coefficient change ends it there with reason "commit" and it is IDLE. Each result reaches the
record, the balance or the retry delay, the suspect field, a manual sweep, and as CHECK FAULT the Event Queue; at a second
boundary the interval timer's expiry and the retry delay's decrement may come before it or after it (R25, R57, R132 to R135,
R137 to R141). A map activation at a second boundary that disturbs a channel of the check, or gives its slot another sharer,
ends it INCOMPLETE, reason "commit", with DRIVE OFF, and each of its channels takes its own row; any other activation leaves it
running (R11, R12, R139). Where causes meet, the commit comes before the judgment and before a start refused by rows 5 to 9: the
model's choice (log 24). At a second boundary the record and CHECK FAULT carry the opening second, and the timer's expiry is
taken in the mode of the closing one: the model's readings (log 12, 32). The arbiter may start another check at the same
boundary (R143). -/
def Obligations.CheckRunsItsPhases : Prop :=
  (∀ (second : Bool) (s : State) (c : Chan) (sl : Slice),
    (if second then s.control.secondTaken = false ∧ s.router.pendingMap = none else s.time.sliceIndex < 7) →
    s.channelLaw → s.checkLaw → s.control.restarted = false → s.check.channel = some c → s.channels[c].slice = some sl →
    ∃ t, exec (if second then .secondBoundary else .sliceBoundary) s = .next t ∧
      let k := s.check
      let e := s.router.active.channels[c]
      let checking := s.channels[c].cond.state = .checking
      let quiet := ∀ i : Fin 6, s.coefs[i].waiting = none
      let data := 4500 ≤ sl.n ∧ sl.holdOver = false
      let changes (d : Chan) : Prop := s.control.lock = 0 ∧ s.channels[d].cond.state ≠ .off
        ∧ ∃ i : Fin 6, s.coefs[i].waiting.isSome = true ∧ ((i.val < 3 ∧ s.router.active.channels[d].levelWeighting = .a)
          ∨ (3 ≤ i.val ∧ (s.router.active.channels[d].levelWeighting = .c ∨ s.router.active.channels[d].peakWeighting = .c)))
      let i := levelIntensity e.sensitivity ((sl.energy : Rat) / ((sl.n * 2 ^ 62 : Nat) : Rat))
      let overloaded : Bool := decide (e.overloadCount ≤ sl.clipCount) || sl.saturated
      let incomplete (why : CheckReason) : CheckRecord :=
        { code := .incomplete, reason := some why, response := none, deviation := none, lpre := none, lchk := none
          second := t.time.runningSecond, kind := k.kind }
      let cells (on off : List Cell) : Prop := s.trunk.hub = [] → t.trunk.hub = on ++ off
      let driveOff : List Cell := match k.drive with
        | some slot => [requestCell 4 true 71 0 [BitVec.ofNat 8 slot.val]]
        | none => []
      let counted (r : CheckRecord) : Prop := r.code = .pass ∨ r.code = .low ∨ r.code = .high ∨ r.code = .noResponse
      let account := s.channels[c].account
      let now := t.channels[c].account
      let down (b : Int) : Int := if -3 < b then b - 1 else b
      let up (b : Int) : Int := if b < 6 then b + 1 else b
      let expires := second = true ∧ s.control.mode = .run ∧ e.enabled = true ∧ e.autoCheck = true
        ∧ e.checkInterval * 60 ≤ account.timer + 1
      let decided (r : CheckRecord) : Prop :=
        now.record = some r
        ∧ (counted r → now.retry = (if second then account.retry - 1 else account.retry)
          ∧ (¬expires → now.balance = down account.balance)
          ∧ (expires → now.balance = up (down account.balance) ∨ now.balance = down (up account.balance)))
        ∧ (¬counted r → (now.retry = 60 ∨ (second = true ∧ now.retry = 59))
          ∧ (¬expires → now.balance = account.balance) ∧ (expires → now.balance = up account.balance))
        ∧ (second = false → now.timer = account.timer ∧ (changes c → now.quiet = 0) ∧ (¬changes c → now.quiet = account.quiet))
        ∧ t.channels[c].cond.suspect = (match r.code with
            | .noResponse => .noResponse
            | .low => .low
            | .high => .high
            | .pass => .none
            | _ => s.channels[c].cond.suspect)
        ∧ (k.kind = .manual → t.check.sweep.getLsbD c.val = false)
        ∧ ∀ x, .event x ∈ faultEvents c e.referenceResponse r → t.raised x
      let ended (r : CheckRecord) : Prop := t.check.drive = none ∧ (t.check.stage = .idle ∨ t.check.stage = .starting)
        ∧ cells [] driveOff
        ∧ (∀ d : Chan, k.involved d = true → s.channels[d].cond.state = .checking → t.channels[d].cond.state = .settling)
        ∧ (k.kind = .manual ∨ k.sweep.getLsbD c.val = false → decided r)
      (k.stage = .pre → quiet → checking → data →
        let summed := { k with
          phaseSlices := k.phaseSlices + 1, preSum := addIntensity k.preSum i, preOverload := k.preOverload || overloaded }
        (k.phaseSlices < 7 → t.check = summed ∧ t.trunk.hub = s.trunk.hub)
        ∧ (7 ≤ k.phaseSlices →
            t.check = { summed with stage := .establish, phaseSlices := 0, drive := some e.sourceSlot }
            ∧ cells [requestCell 4 true 70 0 [BitVec.ofNat 8 e.sourceSlot.val]] []))
      ∧ (k.stage = .establish → quiet → checking → t.trunk.hub = s.trunk.hub
        ∧ (k.phaseSlices = 0 → t.check = { k with phaseSlices := 1 })
        ∧ (1 ≤ k.phaseSlices → t.check = { k with stage := .measure, phaseSlices := 0 }))
      ∧ (k.stage = .measure → quiet → checking → data →
        let summed := { k with
          phaseSlices := k.phaseSlices + 1, measureSum := addIntensity k.measureSum i
          measureOverload := k.measureOverload || overloaded }
        (k.phaseSlices < 7 → t.check = summed ∧ t.trunk.hub = s.trunk.hub)
        ∧ (7 ≤ k.phaseSlices → ended (summed.judge e t.time.runningSecond)))
      ∧ (k.stage = .pre ∨ k.stage = .measure → quiet → checking → ¬data → ended (incomplete .data))
      ∧ (k.stage = .starting ∨ ((k.stage = .pre ∨ k.stage = .establish ∨ k.stage = .measure) ∧ checking ∧ data) →
        (∃ d : Chan, k.involved d = true ∧ changes d) → ended (incomplete .commit))
      ∧ (k.stage = .ending → quiet → t.check.drive = none ∧ (t.check.stage = .idle ∨ t.check.stage = .starting)
        ∧ t.trunk.hub = s.trunk.hub
        ∧ ∀ d : Chan, s.channels[d].cond.state = .checking → t.channels[d].cond.state = .settling)
      ∧ (k.stage = .starting → quiet →
        ((∀ d : Chan, k.involved d = true → s.channels[d].cond.state = .live ∧ s.channels[d].cond.request = .startHeld
            ∧ s.channels[d].cond.restoreHeld = false ∧ ∃ x, s.channels[d].slice = some x ∧ 0 < x.n
            ∧ (s.router.active.channels[d].absentThreshold : Int) ≤ x.rawMax.getD 0 - x.rawMin.getD 0) →
          t.check = { k with stage := .pre, phaseSlices := 0 }
            ∧ ∀ d : Chan, k.involved d = true → t.channels[d].cond.state = .checking)
        ∧ ((∃ d : Chan, k.involved d = true
            ∧ (s.channels[d].cond.state ≠ .live ∨ s.channels[d].cond.restoreHeld = true
              ∨ ∃ x, s.channels[d].slice = some x ∧ 0 < x.n ∧ s.channels[d].cond.silentCount < 40
                ∧ x.rawMax.getD 0 - x.rawMin.getD 0 < s.router.active.channels[d].absentThreshold
                ∧ s.router.active.channels[d].absentIntegration.slices ≤ s.channels[d].cond.silentCount + 1)) →
          t.check.stage = .ending ∧ t.check.channel = some c ∧ decided (incomplete .state)
            ∧ ∀ d : Chan, t.channels[d].cond.state = .checking → t.channels[d].cond.request = .endHeld)))
  ∧ ∀ (s : State) (c : Chan) (sl : Slice) (m : ChannelMap) (bank : Bank), s.control.secondTaken = false → s.channelLaw →
    s.checkLaw → s.control.restarted = false → (∀ i : Fin 6, s.coefs[i].waiting = none) →
    s.router.pendingMap = some (m, bank) → s.control.lock = 0 → s.check.channel = some c → s.channels[c].slice = some sl →
    ∃ t, exec .secondBoundary s = .next t ∧ t.router.active = m ∧
      let k := s.check
      let old (d : Chan) : ChannelEntry := s.router.active.channels[d]
      let new (d : Chan) : ChannelEntry := m.channels[d]
      let differs (d : Chan) : Prop := (old d).sourceSlot ≠ (new d).sourceSlot
        ∨ (old d).levelWeighting ≠ (new d).levelWeighting ∨ (old d).peakWeighting ≠ (new d).peakWeighting
        ∨ (old d).sensitivity ≠ (new d).sensitivity
      let disturbs := ∃ d : Chan, k.involved d = true ∧ ((old d).enabled ≠ (new d).enabled
        ∨ ((old d).enabled = true ∧ (new d).enabled = true ∧ differs d))
      let shares := ∃ d : Chan, k.involved d = false ∧ (new d).enabled = true ∧ (new d).sourceSlot = (old c).sourceSlot
        ∧ ((old d).enabled = false ∨ (old d).sourceSlot ≠ (old c).sourceSlot)
      let data := s.channels[c].cond.state = .checking ∧ (k.stage = .establish ∨ (4500 ≤ sl.n ∧ sl.holdOver = false))
      let driven := k.stage = .pre ∨ k.stage = .establish ∨ k.stage = .measure
      (disturbs ∨ shares → k.stage = .starting ∨ (driven ∧ data) →
        t.check.drive = none ∧ (t.check.stage = .idle ∨ t.check.stage = .starting)
        ∧ (s.trunk.hub = [] → t.trunk.hub = (match k.drive with
            | some slot => [requestCell 4 true 71 0 [BitVec.ofNat 8 slot.val]]
            | none => []))
        ∧ (k.kind = .manual ∨ k.sweep.getLsbD c.val = false →
          t.channels[c].account.record = some { code := .incomplete, reason := some .commit, response := none
                                                deviation := none, lpre := none, lchk := none
                                                second := t.time.runningSecond, kind := k.kind }
          ∧ (t.channels[c].account.retry = 60 ∨ t.channels[c].account.retry = 59)
          ∧ (k.kind = .manual → t.check.sweep.getLsbD c.val = false))
        ∧ ∀ d : Chan, k.involved d = true →
          ((new d).enabled = false → t.channels[d].cond.state = .off)
          ∧ ((new d).enabled = true → differs d ∨ s.channels[d].cond.state = .checking →
              t.channels[d].cond.state = .settling)
          ∧ t.channels[d].cond.state ≠ .checking)
      ∧ (¬disturbs → ¬shares → driven → data → (k.stage = .measure → k.phaseSlices < 7) →
        t.check.channel = some c ∧ t.check.companions = k.companions ∧ t.check.kind = k.kind
        ∧ (t.check.stage = .pre ∨ t.check.stage = .establish ∨ t.check.stage = .measure)
        ∧ t.channels[c].account.record = s.channels[c].account.record
        ∧ ∀ d : Chan, k.involved d = true → s.channels[d].cond.state = .checking → s.channels[d].cond.request ≠ .endHeld →
            t.channels[d].cond.state = .checking)

/-- SECOND_BOUNDARY returns both indices to 0 and raises the running second; the civil position moves as R64 gives, takes a
pending time (R69), steps by a trim in CONFIG (R71), jumps forward (R72) or, held back, stands where it was (R73) in RUN, and
the positions handed are the one opened, those skipped before it, or the one a held second waits at (R99); the pending map is
activated at lock level 0, at level 1 where no channel's locked fields differ, and discarded otherwise, with MAP CHANGED in
the Event Queue, or counted as lost, in each case (R9, R10); exclusions whose end is reached go (R120). A pending time raises
CLOCK SET with the position set (R69, R154), and starts RUN where the auto-run mark is armed in CONFIG, at the position and on
the schedule and map then in force (R183, R185). The events carry the running second of the opening second, the model's reading
(log 12). A slice boundary at slice index 7 takes the second boundary with it, and the second boundary already so taken only
clears its mark (the model's choice: log 3). -/
def Obligations.SecondBoundaryTurnsTheSecond : Prop :=
  ∀ (s : State),
    (s.control.secondTaken = true →
      exec .secondBoundary s = .next { s with control := { s.control with secondTaken := false } })
    ∧ (s.control.secondTaken = false → s.timeLaw → ∃ t, exec .secondBoundary s = .next t
      ∧ (7 ≤ s.time.sliceIndex → exec .sliceBoundary s = .next { t with control := { t.control with secondTaken := true } })
      ∧ t.time.frameIndex = 0 ∧ t.time.sliceIndex = 0 ∧ t.time.runningSecond = s.time.runningSecond + 1
      ∧ t.time.link = s.time.link ∧ t.time.pendingTime = none
      ∧ (let handed := (s.time.secondBoundary s.control.mode).handed
        let number (p : Pos) : Int := (p.day : Int) * 86400 + p.second
        let plain : Int := number s.time.here + 1
        (∀ p, s.time.pendingTime = some p →
          t.time.here = p ∧ t.time.clockSet = true ∧ t.time.trim = 0 ∧ t.time.held = false ∧ handed = [.opened p]
          ∧ t.raised { Event.plain t.time.runningSecond .clockSet .none with detail := some (number p) })
        ∧ (s.time.pendingTime = none →
          t.time.here.legal ∧ t.time.clockSet = s.time.clockSet
          ∧ (s.time.trim = 0 ∨ s.control.mode ≠ .run →
              number t.time.here = (plain + s.time.trim) % 604800 ∧ t.time.held = false ∧ t.time.trim = 0
              ∧ handed = [.opened t.time.here])
          ∧ (0 < s.time.trim → s.control.mode = .run →
              number t.time.here = (plain + s.time.trim) % 604800 ∧ t.time.held = false ∧ t.time.trim = 0
              ∧ ∃ skipped : List Pos, handed = skipped.map Handed.skipped ++ [.opened t.time.here]
                ∧ skipped.map number = (List.range s.time.trim.toNat).map fun i => (plain + (i : Int)) % 604800)
          ∧ (s.time.trim < 0 → s.control.mode = .run →
              t.time.here = s.time.here ∧ t.time.held = true ∧ t.time.trim = s.time.trim + 1
              ∧ ∃ p, handed = [.waited p] ∧ number p = plain % 604800)))
      ∧ (let starts := s.control.autoRun = true ∧ s.control.mode = .config ∧ s.time.pendingTime.isSome = true
        (¬starts → t.control = { s.control with restarted := false })
        ∧ (starts → t.control = { s.control with restarted := false, mode := .run, autoRun := false }
          ∧ ∀ g : Grp,
            let entered := ({ s with time := t.time, router := t.router, schedules := t.schedules }.enterRun).groups[g]
            t.groups[g].openWindow = entered.openWindow ∧ t.groups[g].dueWindows = [] ∧ t.groups[g].alertOn = false
            ∧ t.groups[g].alertLevel = entered.alertLevel ∧ t.groups[g].alertPeriod = entered.alertPeriod))
      ∧ t.router.pendingMap = none ∧ t.router.bankA = s.router.bankA ∧ t.router.bankB = s.router.bankB
      ∧ (s.router.pendingMap = none → t.router.active = s.router.active)
      ∧ (∀ m k, s.router.pendingMap = some (m, k) →
          let differs (c : Chan) : Prop :=
            ∃ l, s.control.locked = some l ∧ m.channels[c].lockedFields ≠ l[c]
          let raised (discarded : Bool) (subject : Subject) : Prop :=
            t.raised { Event.plain t.time.runningSecond .mapChanged subject with
              value := some (.bank k), discarded := discarded }
          (s.control.lock = 0 → t.router.active = m ∧ raised false .none)
          ∧ (s.control.lock = 1 → (∀ c : Chan, ¬differs c) → t.router.active = m ∧ raised false .none)
          ∧ (s.control.lock = 1 → ∀ c : Chan, differs c → (∀ d : Chan, d < c → ¬differs d) →
              t.router.active = s.router.active ∧ raised true (.channel c))
          ∧ (2 ≤ s.control.lock → t.router.active = s.router.active ∧ raised true .none))
      ∧ t.exclusions = s.exclusions.filter fun x =>
          match x.stop with | some e => decide (s.time.runningSecond + 1 < e) | none => true)

/-- At a second boundary with no coefficients waiting, an activation reaches the channels as R11 to R13 give: one disabled
is OFF and holds no slice, second, record or ring; one enabled, or changed in slot, weighting or sensitivity, settles with its
filters cleared and its ring empty, its balance at 0 and its timer restarted where it is enabled with auto check; any other
enters the second it closes, under the map in force during it, in its ring: VALID with the level of the exact mean of 4 to 8
qualifying slices, NO DATA otherwise (R39, R40, R84). A channel that settles so enters SETTLING anew, and a second carries the
discarded mark where all the records it is formed from do: the model's readings (log 31, 42). A check account that no activation
and no check result touches counts the boundary: the interval timer of a channel checked in RUN expires at its interval and owes
a check, CHECK OVERDUE at the rise to 6; the retry delay goes down; the quiet run goes up to 60 with each second quieter than
the quiet level and is 0 after any other (R140 to R142; the mode is that of the closing second, the event's second the opening
one: log 32, 12). -/
def Obligations.SecondBoundaryTurnsChannels : Prop :=
  ∀ (s : State), s.control.secondTaken = false → s.channelLaw → s.control.restarted = false →
    (∀ i : Fin 6, s.coefs[i].waiting = none) → ∃ t, exec .secondBoundary s = .next t ∧ ∀ c : Chan,
      let old := s.router.active.channels[c]
      let new := t.router.active.channels[c]
      let ch := s.channels[c]
      let now := t.channels[c]
      let differs := old.sourceSlot ≠ new.sourceSlot ∨ old.levelWeighting ≠ new.levelWeighting
        ∨ old.peakWeighting ≠ new.peakWeighting ∨ old.sensitivity ≠ new.sensitivity
      let empty : SecondForming := { qualifying := 0, sum := [], overload := false, records := 0, discardedSlices := 0 }
      let settles : Prop := now.cond.state = .settling ∧ now.cond.settleCount = 0
        ∧ now.cond.enteredAt = some (s.time.runningSecond + 1, 0)
        ∧ now.levelPath = PathState.zero ∧ now.peakPath = PathState.zero
        ∧ now.ring = [] ∧ now.latestSecond = none ∧ now.forming = some empty ∧ now.account.quiet = 0
        ∧ now.slice = some { n := 0, energy := 0, peak := 0, clipCount := 0, rawMin := none, rawMax := none
                             saturated := false, holdOver := decide (s.time.link = .holdOver)
                             discarded := t.time.held, takenIn := .settling }
      (old.enabled = false → new.enabled = false → now.cond.state = .off ∧ now.slice = none ∧ now.ring = [])
      ∧ (old.enabled = true → new.enabled = false →
          now.cond.state = .off ∧ now.slice = none ∧ now.forming = none ∧ now.latestSlice = none
            ∧ now.latestSecond = none ∧ now.ring = [] ∧ now.cond.request = .none)
      ∧ (old.enabled = false → new.enabled = true → settles
          ∧ (new.autoCheck = true → 1 ≤ new.checkInterval → now.account.balance = 0 ∧ now.account.timer ≤ 1))
      ∧ (old.enabled = true → new.enabled = true → differs → settles
          ∧ now.cond.silentCount = 0 ∧ now.cond.restoreCount = 0)
      ∧ (old.enabled = true → new.enabled = true → ¬differs → ∀ sl f, ch.slice = some sl → ch.forming = some f →
          let i := levelIntensity old.sensitivity ((sl.energy : Rat) / ((sl.n * 2 ^ 62 : Nat) : Rat))
          let qualifies : Bool :=
            decide (ch.cond.state = .live ∧ 4500 ≤ sl.n ∧ sl.holdOver = false ∧ sl.discarded = false)
          let overloaded : Bool := decide (old.overloadCount ≤ sl.clipCount) || sl.saturated
          let count := if qualifies then f.qualifying + 1 else f.qualifying
          let sum := if qualifies then addIntensity f.sum i else f.sum
          let level := if 4 ≤ count then some (levelOf (meanIntensity sum count)) else none
          let all : Bool := decide (f.discardedSlices + sl.discarded.toNat = f.records + 1)
          let overload : Bool := decide (4 ≤ count) && (f.overload || (qualifies && overloaded))
          now.forming = some empty
          ∧ now.latestSecond = some { second := s.time.runningSecond, qualifying := count, level := level.map (·.1)
                                      under := (level.map (·.2)).getD false, overload := overload, discarded := all }
          ∧ now.ring = ch.ring.drop (ch.ring.length - 899)
              ++ [{ second := s.time.runningSecond, level := if all then none else level.map (·.1)
                    overload := overload }])
      ∧ (old.enabled = new.enabled → old.autoCheck = new.autoCheck → old.checkInterval = new.checkInterval →
          old.quietLevel = new.quietLevel → s.check.channel ≠ some c → s.check.sweep.getLsbD c.val = false →
          let a := ch.account
          let runs := s.control.mode = .run ∧ new.enabled = true ∧ new.autoCheck = true
          let expires := runs ∧ new.checkInterval * 60 ≤ a.timer + 1
          now.account.record = a.record ∧ now.account.retry = a.retry - 1
          ∧ (¬runs → now.account.timer = a.timer)
          ∧ (runs → ¬expires → now.account.timer = a.timer + 1)
          ∧ (expires → now.account.timer = 0)
          ∧ now.account.balance = (if expires ∧ a.balance < 6 then a.balance + 1 else a.balance)
          ∧ (expires → a.balance = 5 → t.raised (Event.plain (s.time.runningSecond + 1) .checkOverdue (.channel c)))
          ∧ (new.enabled = false → now.account.quiet = a.quiet)
          ∧ (new.enabled = true → ¬differs → ∃ x, now.latestSecond = some x ∧ now.account.quiet = (match x.level with
              | some l => if l < old.quietLevel then min 60 (a.quiet + 1) else 0
              | none => 0)))

/-- At a second boundary each enabled group closes its second in formation, the last group slice taken in, into a record that
enters the ring of 900: position that of the second, or held and discarded, excluded where the Exclusion List covers it (R79
to R82); a group with none in formation, as after a RESTART, enters none (R83; log 51). A group that an activation disables
has no window, no slice and no second, and its alert is OFF (R14, R83); one that it enables starts an empty second. A change of
membership marks the second that opens, and every window that stays open or opens, "membership changed" (R11, R13, R102). The
record's close falls somewhere among the reaches of the handed positions, but no position is reached between it and a skipped
one that leaves a window waiting for its record, and each window they bring due closes there, into a result and WINDOW EXCEEDED, judged by the group entry and a background ring of before or after the boundary's changes, by the
new entry where the activation truncates it (R9, R14, R87, R89, R99, R106, R109, R110). What the two leave of the rolling level,
the alert, its level and period, and the alert state that the arbiter reads (R143) is the group's, and their ALERT ON and OFF, LMAX, PEAK and SCHEDULE CHANGED are in the Event
Queue or counted as lost (R97, R111, R112, R127 to R129). The closing slice's tests come before the work of the second, and the
activation before the reaches; WINDOW EXCEEDED carries the opening second, and the close may fall between two handed positions:
the model's readings (log 29, 28, 12, 52). -/
def Obligations.SecondBoundaryTurnsGroups : Prop :=
  ∀ (s : State), s.control.secondTaken = false → ∃ t, exec .secondBoundary s = .next t
   ∧ (let reaches := reachAll s.control.lock (s.time.runningSecond + 1) (s.time.secondBoundary s.control.mode).handed s.schedules
     let brought (g : Grp) : Nat := (Group.reachList
       { group := g, run := decide (s.control.mode = .run), wasEnabled := s.router.active.groups[g].enabled
         enabled := t.router.active.groups[g].enabled, second := s.time.runningSecond + 1 }
       true reaches.2.1 (s.groupAfterSlice s.closedSlices g).1).1.dueWindows.length
     s.results.next < 65536 → t.results.next = (s.results.next + ((List.finRange 8).map brought).sum) % 65536)
   ∧ ∀ g : Grp,
    let old := s.router.active.groups[g]
    let new := t.router.active.groups[g]
    let gr := s.groups[g]
    let now := t.groups[g]
    let slice := s.groupSlice s.closedSlices g
    let hold := holdAfter old gr.holdCount (impulsive old slice.2)
    let excluded : Bool := s.exclusions.any fun x => x.mask.getLsbD g.val && decide (x.start ≤ s.time.runningSecond)
      && (match x.stop with | some e => decide (s.time.runningSecond < e) | none => true)
    let member (e : ChannelEntry) : Prop := e.role = .member ∧ e.group = some g
    let changed : Prop := ∃ c : Chan,
      let x := s.router.active.channels[c]
      let y := t.router.active.channels[c]
      (member x ∨ member y) ∧ (x.enabled ≠ y.enabled
        ∨ (x.enabled = true ∧ y.enabled = true ∧ (x.role ≠ y.role ∨ x.group ≠ y.group)))
    let opened (f : GroupForming) : Prop := f.data = 0 ∧ f.sum = [] ∧ f.maxLevel = none ∧ f.maxPeak = none
      ∧ f.overload = 0 ∧ f.onsets = 0 ∧ f.suspect = false ∧ f.holdOver = false ∧ (f.membership = true ↔ changed)
    (old.enabled = false → now.ring = gr.ring)
    ∧ (old.enabled = true → gr.forming = none → now.ring = gr.ring)
    ∧ (old.enabled = true → ∀ f, gr.forming = some f → ∃ r : GroupSecond,
        now.ring = gr.ring.drop (gr.ring.length - 899) ++ [r]
        ∧ r = { second := s.time.runningSecond, position := if s.time.held then none else some s.time.here
                sum := (f.take slice.1 hold.2).sum, data := (f.take slice.1 hold.2).data
                onsets := (f.take slice.1 hold.2).onsets, maxLevel := (f.take slice.1 hold.2).maxLevel
                maxPeak := (f.take slice.1 hold.2).maxPeak, overload := (f.take slice.1 hold.2).overload
                excluded := excluded, discarded := s.time.held
                suspect := (f.take slice.1 hold.2).suspect, holdOver := (f.take slice.1 hold.2).holdOver })
    ∧ (old.enabled = true → new.enabled = true → now.latest = some slice.1 ∧ now.holdCount = hold.1)
    ∧ (old.enabled = true → new.enabled = false → now.openWindow = none ∧ now.forming = none ∧ now.latest = none
        ∧ now.rolling = none ∧ now.alertOn = false ∧ now.alertLevel = none)
    ∧ (new.enabled = true → ∃ f, now.forming = some f ∧ opened f)
    ∧ (new.enabled = true → changed → s.control.autoRun = false → ∀ w, now.openWindow = some w → w.flags.membership = true)
    ∧ now.awaited = membersOf t.router.active (fun c => decide (t.channels[c].cond.state ≠ .off)) g
    ∧ (let taken := s.groupAfterSlice s.closedSlices g
      let reaches := reachAll s.control.lock (s.time.runningSecond + 1) (s.time.secondBoundary s.control.mode).handed s.schedules
      let context : ReachContext :=
        { group := g, run := decide (s.control.mode = .run), wasEnabled := old.enabled, enabled := new.enabled
          second := s.time.runningSecond + 1 }
      let close (x : Group) : Group × List Emission := if old.enabled then
          x.closeSecond g old s.time.runningSecond s.time.position excluded else (x, [])
      let waiting (x : Group) (p : Pos) (w : Window) : Prop := w ∈ x.dueWindows ∧ w.day = p.day ∧ w.start ≤ p.second
        ∧ p.second < w.stop ∧ (w.stop = p.second + 1 ∨ w.flags.truncated = true)
      let opening (x : Group) : Option Window := x.openWindow.map fun w =>
        { w with flags := { w.flags with membership := w.flags.membership || decide changed } }
      let starts := s.control.autoRun = true ∧ s.control.mode = .config ∧ s.time.pendingTime.isSome = true
      t.schedules = reaches.1 ∧ now.dueWindows = []
      ∧ (∀ e ∈ reaches.2.2, t.raised e)
      ∧ (∀ e, .event e ∈ taken.2.flatten → t.raised e)
      ∧ ∃ (turned : Group) (raised : List Emission) (before after : List Reach), reaches.2.1 = before ++ after
        ∧ (let reached := Group.reachList context true before taken.1
          let closed := close reached.1
          let rest := Group.reachList context before.isEmpty after closed.1
          turned = rest.1 ∧ raised = reached.2 ++ closed.2 ++ rest.2)
        ∧ (s.time.held = false → s.time.here.second < 86400 → ∀ sofar p next, before = sofar ++ p :: next → next ≠ [] →
            (∃ q, p.handed = .skipped q) →
            ∀ w, ¬waiting (Group.reachList context true (sofar ++ [p]) taken.1).1 s.time.here w)
        ∧ (∀ e, .event e ∈ raised → t.raised e)
        ∧ now.rolling = (if old.enabled = true ∧ new.enabled = false then none else turned.rolling)
        ∧ now.alertAtClose = (if old.enabled = true ∧ new.enabled = false then false else turned.alertAtClose)
        ∧ (¬starts → now.openWindow = opening turned ∧ now.alertOn = turned.alertOn
            ∧ now.alertLevel = turned.alertLevel ∧ now.alertPeriod = turned.alertPeriod)
        ∧ (s.timeLaw → (∀ h : Grp, s.groups[h].dueWindows = []) → ∀ w ∈ turned.dueWindows,
          ∃ (e : GroupEntry) (ring : List RingEntry),
            (e = new ∨ (e = old ∧ ¬(old.enabled = true ∧ new.enabled = false ∧ w.flags.truncated = true)))
            ∧ (∀ c, e.background = some c → ring = s.channels[c].ring ∨ ring = t.channels[c].ring
                ∨ (e = old ∧ ∃ x : RingEntry, x.second = s.time.runningSecond
                    ∧ ring = s.channels[c].ring.drop (s.channels[c].ring.length - 899) ++ [x]))
            ∧ (let x := w.judge g e.correction (backgroundLevel e fun _ => ring) s.control.lock;
              ∃ r ∈ t.results.ring, r = { x with sequence := r.sequence }
                ∧ (x.outcome = .exceeded → t.raised
                  { Event.plain (s.time.runningSecond + 1) .windowExceeded (.group g) with
                    level := x.rated, limit := x.limit, period := some w.period, detail := some (r.sequence : Int) }))))

/-- At a second boundary a pending schedule is activated, or discarded at lock level 2, with SCHEDULE CHANGED, at the first
handed position its mode allows: any in immediate mode, a reached midnight or start or end of an active entry in boundary mode
(R97). At each handed position a group's open window comes due at its end, or truncated at an immediate activation or at the
group's disabling; in RUN, inside an active entry, one opens at an aligned start, or late by an activation; and a skipped
position is counted in the window that contains it (R14, R99 to R101, R104, R106; the group's disabling falls at the first
handed position: log 28; a window opened by its cause where a held second waits at an aligned start is not late: log 54). A
record of a position goes to the open window that contains it, or to the due one that still waits for it, its last position
being that one or a truncation having made it due (R102, R103, R106); a held one sets "trim" on the window kept through the
held second, open or due, and on none opened after it (R73, R103, R104). -/
def Obligations.ReachesActivateAndOpen : Prop :=
  (∀ (lock second : Nat) (handed : List Handed) (s : Schedules),
    let r := reachAll lock second handed s
    let same (schedule : Schedule) (h : Handed) : Reach := { handed := h, schedule := schedule, activated := none }
    let allows (m : CommitMode) (h : Handed) : Prop := m = .immediate ∨ ∃ p : Pos, (h = .skipped p ∨ h = .opened p)
      ∧ (p.second = 0 ∨ ∃ i : Per, s.active[i].enabled = true ∧ s.active[i].days.getLsbD p.day = true
          ∧ (p.second = s.active[i].startMinute * 60 ∨ p.second = s.active[i].endMinute * 60))
    ((∀ p m, s.pendingSchedule = some (p, m) → ∀ h ∈ handed, ¬allows m h) → r = (s, handed.map (same s.active), []))
    ∧ ∀ p m before h rest, s.pendingSchedule = some (p, m) → handed = before ++ h :: rest → allows m h →
        (∀ x ∈ before, ¬allows m x) →
        let active := if 2 ≤ lock then s.active else p
        r = ({ s with active := active, pendingSchedule := none },
          before.map (same s.active)
            ++ { handed := h, schedule := active, activated := if 2 ≤ lock then none else some m }
              :: rest.map (same active),
          [{ second := second, kind := .scheduleChanged, subject := .none, level := none, limit := none, period := none
             value := some (.commit m), discarded := decide (2 ≤ lock), manual := false, startUp := false
             detail := none }]))
  ∧ (∀ (gr : Group) (x : ReachContext) (r : Reach) (first : Bool),
    let t := (gr.reach x r first).1
    let p := r.handed.pos
    let skipped : Bool := match r.handed with | .skipped _ => true | _ => false
    let reached : Bool := match r.handed with | .waited _ => false | _ => true
    let ends (w : Window) : Prop := reached = true ∧ ((w.day = p.day ∧ w.stop = p.second)
      ∨ (w.stop = 86400 ∧ p.second = 0 ∧ p.day = (w.day + 1) % 7))
    let cut := r.activated = some .immediate ∨ (first = true ∧ x.wasEnabled = true ∧ x.enabled = false)
    let free := ∀ w, gr.openWindow = some w → ends w ∨ cut
    (∀ w, gr.openWindow = some w →
      (ends w → t.dueWindows = gr.dueWindows ++ [{ w with flags := { w.flags with trim := w.flags.trim || skipped } }])
      ∧ (¬ends w → cut → t.dueWindows = gr.dueWindows ++ [{ w with flags := { w.flags with truncated := true } }])
      ∧ (¬ends w → ¬cut → t = { gr with openWindow := some (if skipped && w.contains p then
          { w with expected := w.expected + 8, flags := { w.flags with trim := true } } else w) }))
    ∧ (gr.openWindow = none → t.dueWindows = gr.dueWindows)
    ∧ (free → x.run = false ∨ x.enabled = false ∨ (∀ i : Per, r.schedule[i].covers p = false) →
        t.openWindow = none
          ∧ (gr.openWindow.isSome = true → t.alertLevel = none ∧ t.alertPeriod = none ∧ t.alertOn = false))
    ∧ ∀ i : Per, free → x.run = true → x.enabled = true → r.schedule[i].covers p = true →
        (∀ j : Per, j < i → r.schedule[j].covers p = false) →
        let e := r.schedule[i]
        let start := e.startMinute * 60
        let aligned := match e.length.seconds with
          | none => p.second = start
          | some l => (p.second - start) % l = 0
        let cause := r.activated ≠ none ∨ (first = true ∧ x.wasEnabled = false)
        ((reached = true ∧ aligned) ∨ cause → ∃ w, t.openWindow = some w
          ∧ w.period = i ∧ w.day = p.day ∧ w.start = p.second ∧ w.firstSecond = x.second ∧ w.limit = e.limits[x.group]
          ∧ w.stop = (match e.length.seconds with
              | none => e.endMinute * 60
              | some l => min (start + (p.second - start) / l * l + l) (e.endMinute * 60))
          ∧ w.expected = (if skipped then 8 else 0) ∧ w.data = 0 ∧ w.excluded = 0 ∧ w.sum = [] ∧ w.onsets = 0
          ∧ w.overload = 0 ∧ w.maxLevel = none ∧ w.maxPeak = none ∧ w.lmaxRaised = false ∧ w.peakRaised = false
          ∧ w.flags.trim = skipped ∧ (w.flags.lateStart = true ↔ ¬aligned)
          ∧ (w.flags.short = true ↔ ∃ l, e.length.seconds = some l
              ∧ e.endMinute * 60 < start + (p.second - start) / l * l + l)
          ∧ w.flags.truncated = false
          ∧ t.alertLevel = w.limit.bind (·.alert) ∧ t.alertPeriod = some i
          ∧ t.alertOn = (gr.alertOn && t.alertLevel.isSome))
        ∧ (¬(reached = true ∧ aligned) → ¬cause → t.openWindow = none
          ∧ (gr.openWindow.isSome = true → t.alertLevel = none ∧ t.alertOn = false)))
  ∧ ∀ (gr : Group) (r : GroupSecond) (first : Bool),
    let t := gr.windowRecord r first
    let told (w : Window) : Window := if w.firstSecond ≤ r.second then { w with flags := { w.flags with trim := true } } else w
    let taken (w : Window) : Window :=
      if r.excluded then { w with
        expected := w.expected + 8, excluded := w.excluded + 8
        flags := { w.flags with membership := w.flags.membership || first } }
      else { w with
        expected := w.expected + 8, data := w.data + r.data, sum := addIntensity w.sum r.sum
        onsets := w.onsets + r.onsets, overload := w.overload + r.overload
        maxLevel := maxOption w.maxLevel r.maxLevel, maxPeak := maxOption w.maxPeak r.maxPeak
        flags := { w.flags with
          suspect := w.flags.suspect || r.suspect, holdOver := w.flags.holdOver || r.holdOver
          membership := w.flags.membership || first } }
    let inside (w : Window) (p : Pos) : Bool := decide (w.day = p.day ∧ w.start ≤ p.second ∧ p.second < w.stop)
    let waits (w : Window) (p : Pos) : Bool := inside w p && decide (w.stop = p.second + 1 ∨ w.flags.truncated = true)
    (r.position = none → t = { gr with openWindow := gr.openWindow.map told, dueWindows := gr.dueWindows.map told })
    ∧ ∀ p, r.position = some p → p.second < 86400 → t = { gr with
        openWindow := gr.openWindow.map fun w => if inside w p then taken w else w
        dueWindows := gr.dueWindows.map fun w => if waits w p then taken w else w }

/-- The expiry of a running interval timer raises the channel's balance by 1 up to 6 and returns the timer to 0; a rise from
5 to 6 raises CHECK OVERDUE; nothing else changes. A timer that does not run does not expire (R140, R141; log 4). -/
def Obligations.IntervalTimerExpiryOwesCheck : Prop :=
  ∀ (s : State) (c : Chan),
    let e := s.router.active.channels[c]
    let a := s.channels[c].account
    let runs := s.control.mode = .run ∧ e.enabled = true ∧ e.autoCheck = true
    let owed := { s with channels := s.channels.set c { s.channels[c] with
      account := { a with timer := 0, balance := if a.balance < 6 then a.balance + 1 else a.balance } } }
    let event : Event :=
      { second := s.time.runningSecond, kind := .checkOverdue, subject := .channel c, level := none, limit := none
        period := none, value := none, discarded := false, manual := false, startUp := false, detail := none }
    (runs → exec (.intervalTimerExpiry c) s = .next (if a.balance = 5 then owed.storeEvent 0 event else owed))
    ∧ (¬runs → exec (.intervalTimerExpiry c) s = .next s)

/-! ### Arithmetic and judgment -/

/-- The level of an intensity is the nearest step of 0.01 dB to its logarithm: where every comparison with a boundary
between steps is decided at 256 bits, an intensity at most `10^(-1/2000)` gives 0.00 flagged underrange, and any other the
level `l` with `10^((2l-1)/2000)` below it and, under 199.99 dB, `10^((2l+1)/2000)` not below it (R34, R35). The
enclosures of up to 256 bits and the level 0.00, underrange, of intensity 0 are the model's (log 5, 6). -/
def Obligations.LevelsRoundToNearestStep : Prop :=
  ∀ (a : Intensity), (∀ c ≤ 20000, (compareAt 256 a c).isSome = true) →
    let l := levelOf a
    let boundary (n : Int) : ℝ := (10 : ℝ) ^ ((n : ℝ) / 2000)
    l.1 ≤ 19999
    ∧ (l.2 = true ↔ intensityValue a ≤ boundary (-1))
    ∧ (l.2 = true → l.1 = 0)
    ∧ (l.2 = false → boundary (2 * (l.1 : Int) - 1) < intensityValue a
        ∧ (l.1 < 19999 → intensityValue a ≤ boundary (2 * (l.1 : Int) + 1)))

/-- A percentile of a ring with at least 450 valid entries is the level of the k-th highest of them, k being v * N / 100
rounded up: it is one of the valid levels, fewer than k of them lie above it, and at least k at or above it; below 450
valid entries it is unavailable; L10 is never below L50, nor L50 below L90 (R86). -/
def Obligations.PercentilesRankValidLevels : Prop :=
  ∀ (ring : List RingEntry),
    let levels := ring.filterMap (·.level)
    (∀ n ∈ [10, 50, 90],
      (levels.length < 450 → percentile ring n = none)
      ∧ (450 ≤ levels.length → ∃ l ∈ levels, percentile ring n = some l
        ∧ ∃ k, 100 * (k - 1) < levels.length * n ∧ levels.length * n ≤ 100 * k
          ∧ levels.countP (fun x => decide (l < x)) < k ∧ k ≤ levels.countP (fun x => decide (l ≤ x))))
    ∧ ∀ x y z, percentile ring 10 = some x → percentile ring 50 = some y → percentile ring 90 = some z →
        y ≤ x ∧ z ≤ y

/-- A closing window is judged by the tables of R107 to R109: the measured Leq of the exact mean, the site level by the
distance of the Leq to the L90 with the "underrange" and "no background" flags, the penalty by the onsets, the rated level
clamped at 199.99, and the outcome by the first row that applies. Its record carries what R110 lists, and is handed to the
Result Store; EXCEEDED alone hands on WINDOW EXCEEDED, after its result. -/
def Obligations.WindowJudgmentFollowsItsTables : Prop :=
  ∀ (w : Window) (g : Grp) (correction : Bool) (l90 : Option Level) (lock second : Nat),
    let r := w.judge g correction l90 lock
    let u := w.expected - w.excluded
    let dominated := correction = true ∧ ∃ m b, r.leq = some m ∧ l90 = some b ∧ m < b + 300
    let leq := levelOf (meanIntensity w.sum w.data)
    let between (m b : Level) := levelOf (subIntensity (levelIntensity m 1) (levelIntensity b 1))
    (r.leq = if w.data = 0 then none else some leq.1)
    ∧ r.l90 = (if correction then l90 else none)
    ∧ (correction = false ∨ l90 = none → r.site = r.leq)
    ∧ (r.leq = none → r.site = none)
    ∧ (∀ m b, correction = true → r.leq = some m → l90 = some b →
        (b + 1000 ≤ m → r.site = some m)
        ∧ (b + 300 ≤ m → m < b + 1000 → r.site = some (between m b).1)
        ∧ (m < b + 300 → r.site = some (m - 300)))
    ∧ (r.flags.noBackground = true ↔
        w.flags.noBackground = true ∨ (correction = true ∧ (l90 = none ∨ r.leq = none)))
    ∧ (r.flags.underrange = true ↔ (w.data ≠ 0 ∧ leq.2 = true)
        ∨ ∃ m b, correction = true ∧ r.leq = some m ∧ l90 = some b
          ∧ ((b + 300 ≤ m ∧ m < b + 1000 ∧ (between m b).2 = true) ∨ (m < b + 300 ∧ m < 300)))
    ∧ (∀ l, w.limit = some l → r.penalty = if l.threshold ≤ w.onsets then some l.penalty else none)
    ∧ (w.limit = none → r.penalty = none)
    ∧ (∀ x, r.site = some x → r.rated = some (min 19999 (x + r.penalty.getD 0)))
    ∧ (r.site = none → r.rated = none)
    ∧ (r.outcome = .excluded ↔ u = 0)
    ∧ (r.outcome = .unregulated ↔ u ≠ 0 ∧ w.limit = none)
    ∧ (r.outcome = .insufficient ↔ u ≠ 0 ∧ w.limit.isSome = true ∧ 4 * w.data < 3 * u)
    ∧ (r.outcome = .indeterminate ↔ u ≠ 0 ∧ w.limit.isSome = true ∧ 3 * u ≤ 4 * w.data ∧ dominated)
    ∧ (r.outcome = .exceeded ↔ u ≠ 0 ∧ 3 * u ≤ 4 * w.data ∧ ¬dominated
        ∧ ∃ l x, w.limit = some l ∧ r.rated = some x ∧ l.leq < x)
    ∧ r.group = g ∧ r.period = w.period ∧ r.day = w.day ∧ r.start = w.start ∧ r.expected = w.expected ∧ r.data = w.data
    ∧ r.excluded = w.excluded ∧ r.limit = w.limit.map (·.leq) ∧ r.maxLevel = w.maxLevel ∧ r.maxPeak = w.maxPeak
    ∧ r.onsets = w.onsets ∧ r.overload = w.overload ∧ r.lockLevel = lock
    ∧ r.flags = { w.flags with noBackground := r.flags.noBackground, underrange := r.flags.underrange }
    ∧ (r.outcome ≠ .exceeded → closeEmissions r second = [.result r])
    ∧ (r.outcome = .exceeded → closeEmissions r second = [.result r, .exceeded g
        { second := second, kind := .windowExceeded, subject := .group g, level := r.rated, limit := r.limit
          period := some w.period, value := none, discarded := false, manual := false, startUp := false
          detail := none }])

/-- A check is judged by the first row of the table of R136 that applies, from the levels of the two mean intensities and the
response formed from the two rounded levels; R and the deviation are carried for LOW, HIGH and PASS. NO RESPONSE, LOW and HIGH
raise CHECK FAULT; for a manual check the channel leaves the sweep, and a deviation enters the summary (R137, R147); the first
one since the clearing sets both extremes, the model's reading of R147 (log 45). -/
def Obligations.CheckResultsFollowTheirTables : Prop :=
  (∀ (k : CheckEngine) (e : ChannelEntry) (second : Nat),
    let r := k.judge e second
    let lpre := (levelOf (meanIntensity k.preSum 8)).1
    let lchk := (levelOf (meanIntensity k.measureSum 8)).1
    let response := (levelOf (subIntensity (levelIntensity lchk 1) (levelIntensity lpre 1))).1
    let deviation : Int := (response : Int) - e.referenceResponse
    let overload := k.preOverload = true ∨ k.measureOverload = true
    let ambient := e.referenceResponse ≤ lpre + 1000
    let silent := lchk < lpre + 1000
    let measured := ¬overload ∧ ¬ambient ∧ ¬silent
    r.lpre = some lpre ∧ r.lchk = some lchk ∧ r.reason = none ∧ r.second = second ∧ r.kind = k.kind
    ∧ (overload → r.code = .overload)
    ∧ (¬overload → ambient → r.code = .ambient)
    ∧ (¬overload → ¬ambient → silent → r.code = .noResponse)
    ∧ (measured → deviation < -(e.tolerance : Int) → r.code = .low)
    ∧ (measured → (e.tolerance : Int) < deviation → r.code = .high)
    ∧ (measured → -(e.tolerance : Int) ≤ deviation → deviation ≤ e.tolerance → r.code = .pass)
    ∧ (measured → r.response = some response ∧ r.deviation = some deviation)
    ∧ (¬measured → r.response = none ∧ r.deviation = none))
  ∧ (∀ (c : Chan) (reference : Level) (r : CheckRecord),
    let fault (level : Option Level) : List Emission :=
      [.event { second := r.second, kind := .checkFault, subject := .channel c, level := level, limit := some reference
                period := none, value := some (.check r.code), discarded := false, manual := decide (r.kind = .manual)
                startUp := false, detail := none }]
    (r.code = .low ∨ r.code = .high → faultEvents c reference r = fault r.response)
    ∧ (r.code = .noResponse → faultEvents c reference r = fault r.lchk)
    ∧ (r.code ≠ .low → r.code ≠ .high → r.code ≠ .noResponse → faultEvents c reference r = []))
  ∧ ∀ (k : CheckEngine) (c : Chan) (r : CheckRecord),
    let t := k.sweepResult c r
    (r.kind ≠ .manual → t = k)
    ∧ (r.kind = .manual → t = { k with sweep := t.sweep, summary := t.summary }
      ∧ (∀ d : Chan, t.sweep.getLsbD d.val = (k.sweep.getLsbD d.val && decide (d ≠ c)))
      ∧ (r.deviation = none → t.summary = k.summary)
      ∧ ∀ d, r.deviation = some d → t.summary = { k.summary with
          count := k.summary.count + 1
          minimum := if k.summary.count = 0 then d else min k.summary.minimum d
          maximum := if k.summary.count = 0 then d else max k.summary.maximum d })

/-- The arbiter acts in IDLE and LOCKED alone, and takes the first candidate of the first class that has one: forced; manual,
the sweep's channels before it that are not ready judged INCOMPLETE, reason "state", on the way; due, the highest balance and
then the lowest channel; early. It starts that channel's check: the engine is cleared into STARTING with the enabled sharers
of its slot as companions, and each of them holds a check start; none of the others is touched (R133, R137, R143). At a slice
boundary inside a second and at a second boundary, with the stage IDLE, it acts last, in the mode, on the map, the states and
the accounts of the opening slice, a group deferring its members while the last second close left its alert ON or its hold
count, before or after the boundary, is above 0 (R117, R143; the arbiter's place: log 41). -/
def Obligations.ArbiterTakesFirstCandidate : Prop :=
  (∀ (v : ArbiterView) (k : CheckEngine),
    let x := v.select k
    let shares (c d : Chan) : Prop := d ≠ c ∧ v.map.channels[d].enabled = true
      ∧ v.map.channels[d].sourceSlot = v.map.channels[c].sourceSlot
    let ready (c : Chan) : Prop := v.live[c] = true ∧ ∀ d : Chan, shares c d → v.live[d] = true
    let automatic (c : Chan) : Prop :=
      v.run = true ∧ v.map.channels[c].autoCheck = true ∧ v.accounts[c].retry = 0 ∧ ready c
    let balance (c : Chan) : Int := v.accounts[c].balance
    let forced (c : Chan) : Prop := automatic c ∧ balance c = 6
    let waits (c : Chan) : Prop := k.sweep.getLsbD c.val = true
    let deferred (c : Chan) : Prop := v.map.channels[c].role = .member
      ∧ ∃ g, v.map.channels[c].group = some g ∧ v.deferring[g] = true
    let due (c : Chan) : Prop := automatic c ∧ 1 ≤ balance c ∧ balance c ≤ 5 ∧ ¬deferred c
    let early (c : Chan) : Prop := automatic c ∧ -3 < balance c ∧ balance c ≤ 0 ∧ v.accounts[c].quiet = 60
    let first (p : Chan → Prop) (c : Chan) : Prop := p c ∧ ∀ d : Chan, d < c → ¬p d
    (k.stage ≠ .idle ∨ v.locked = false → x = { judged := [], chosen := none })
    ∧ (k.stage = .idle → v.locked = true →
      (∀ c, first forced c → x = { judged := [], chosen := some (c, .forced) })
      ∧ ((∀ c, ¬forced c) →
        (∀ c, first (fun d => waits d ∧ ready d) c → x.chosen = some (c, .manual) ∧ ∀ d, d ∈ x.judged ↔ waits d ∧ d < c)
        ∧ ((∀ c, waits c → ¬ready c) → (∀ d, d ∈ x.judged ↔ waits d)
          ∧ (∀ c, due c → (∀ d, due d → balance d < balance c ∨ (balance d = balance c ∧ c ≤ d)) →
              x.chosen = some (c, .due))
          ∧ ((∀ c, ¬due c) → (∀ c, first early c → x.chosen = some (c, .early))
            ∧ ((∀ c, ¬early c) → x.chosen = none))))))
  ∧ (∀ (s : State) (o : Order) (second : Bool) (hold : Vector Nat 8),
    let x := (s.arbiterView o hold).select s.check
    let t := s.arbitrate o second hold
    let m := s.router.active
    t = { s with check := t.check, channels := t.channels }
    ∧ (x.chosen = none → t.check = { s.check with sweep := t.check.sweep })
    ∧ (∀ d : Chan, t.check.sweep.getLsbD d.val = (s.check.sweep.getLsbD d.val && decide (d ∉ x.judged)))
    ∧ t.check.summary = s.check.summary
    ∧ (∀ c kind, x.chosen = some (c, kind) →
        t.check = { s.check with
          stage := .starting, channel := some c, companions := t.check.companions, kind := kind, phaseSlices := 0
          preSum := [], measureSum := [], preOverload := false, measureOverload := false, drive := none, decided := none
          sweep := t.check.sweep }
        ∧ (∀ d : Chan, t.check.companions.getLsbD d.val =
            decide (d ≠ c ∧ m.channels[d].enabled = true ∧ m.channels[d].sourceSlot = m.channels[c].sourceSlot))
        ∧ ∀ d : Chan, t.channels[d].cond = { s.channels[d].cond with
            request := if d = c ∨ t.check.companions.getLsbD d.val = true then .startHeld
              else s.channels[d].cond.request })
    ∧ (x.chosen = none → ∀ d : Chan, t.channels[d].cond = s.channels[d].cond)
    ∧ ∀ d : Chan, t.channels[d] = { s.channels[d] with cond := t.channels[d].cond, account := t.channels[d].account }
      ∧ (d ∉ x.judged → t.channels[d].account = s.channels[d].account)
      ∧ (d ∈ x.judged → ∃ retry, t.channels[d].account = { s.channels[d].account with
          retry := retry
          record := some { code := .incomplete, reason := some .state, response := none, deviation := none, lpre := none
                           lchk := none, second := s.time.runningSecond, kind := .manual } }
        ∧ (retry = 60 ∨ (second = true ∧ retry = 59))))
  ∧ ∀ (second : Bool) (s : State), (if second then s.control.secondTaken = false else s.time.sliceIndex < 7) →
    s.check.stage = .idle →
    ∃ t, exec (if second then .secondBoundary else .sliceBoundary) s = .next t ∧ ∃ v : ArbiterView,
      (v.run = true ↔ t.control.mode = .run) ∧ (v.locked = true ↔ s.time.link = .locked) ∧ v.map = t.router.active
      ∧ (∀ c : Chan, v.live[c] = true ↔ t.channels[c].cond.state = .live)
      ∧ (second = false → (∀ i : Fin 6, s.coefs[i].waiting = none) → ∀ c : Chan, v.accounts[c] = s.channels[c].account)
      ∧ (∀ g : Grp,
        let enabled := t.router.active.groups[g].enabled = true
        let alert := t.groups[g].alertAtClose = true
        (second = false → t.groups[g].alertAtClose = s.groups[g].alertAtClose)
        ∧ (v.deferring[g] = true → enabled ∧ (alert ∨ 0 < s.groups[g].holdCount ∨ 0 < t.groups[g].holdCount))
        ∧ (enabled → alert ∨ (0 < s.groups[g].holdCount ∧ 0 < t.groups[g].holdCount) → v.deferring[g] = true))
      ∧ (let x := v.select s.check
        (∀ d : Chan, t.check.sweep.getLsbD d.val = (s.check.sweep.getLsbD d.val && decide (d ∉ x.judged)))
        ∧ (x.chosen = none → t.check = { s.check with sweep := t.check.sweep })
        ∧ (∀ c kind, x.chosen = some (c, kind) →
          t.check.stage = .starting ∧ t.check.channel = some c ∧ t.check.kind = kind ∧ t.check.drive = none
          ∧ ∀ d : Chan,
            (t.check.companions.getLsbD d.val = true ↔ d ≠ c ∧ t.router.active.channels[d].enabled = true
              ∧ t.router.active.channels[d].sourceSlot = t.router.active.channels[c].sourceSlot)
            ∧ (d = c ∨ t.check.companions.getLsbD d.val = true → t.channels[d].cond.request = .startHeld))
        ∧ ∀ d : Chan, (d ∉ x.judged → t.channels[d].account = v.accounts[d])
          ∧ (d ∈ x.judged → ∃ retry, t.channels[d].account = { v.accounts[d] with
              retry := retry
              record := some { code := .incomplete, reason := some .state, response := none, deviation := none, lpre := none
                               lchk := none, second := t.time.runningSecond, kind := .manual } }
            ∧ (retry = 60 ∨ (second = true ∧ retry = 59))))

/-- Excluding a second retroactively leaves a window with the same expected, data and excluded slices, the same exact sum,
onsets and overload slices as if the second had been excluded when it was taken; only "max includes excluded time" and the
marks and maxima it had already left tell the two apart (R103, R105). -/
def Obligations.RetroactiveEqualsProspective : Prop :=
  ∀ (w : Window) (before after : List GroupSecond) (r : GroupSecond),
    canonicalIntensity w.sum → (∀ x ∈ before ++ r :: after, canonicalIntensity x.sum) → r.excluded = false →
    let late := ((before ++ r :: after).foldl Window.takeRecord w).subtract r
    let early := (before ++ { r with excluded := true } :: after).foldl Window.takeRecord w
    late.expected = early.expected ∧ late.data = early.data ∧ late.excluded = early.excluded ∧ late.sum = early.sum
      ∧ late.onsets = early.onsets ∧ late.overload = early.overload ∧ late.flags.maxExcluded = true

/-- A section steps as R19 gives: the accumulator is exact, its quotient by 2^28 is rounded to the nearest integer with ties
toward +∞, an output outside the signal range is set to its nearer end and counts as a saturation, and the states shift;
on a path of weighting A or C the three sections step once each, in cascade order, and their last output is the path's. -/
def Obligations.SectionStepRoundsAndSaturates : Prop :=
  (∀ (coefs : Vector CoefSection 6) (st : PathState) (s : Int),
    let path (k0 k1 k2 : CoefSet) : PathState × Int × Bool :=
      let r0 := sectionStep k0 st.sec0 s
      let r1 := sectionStep k1 st.sec1 r0.2.1
      let r2 := sectionStep k2 st.sec2 r1.2.1
      ({ sec0 := r0.1, sec1 := r1.1, sec2 := r2.1 }, r2.2.1, r0.2.2 || r1.2.2 || r2.2.2)
    levelPathStep coefs .a st s = path coefs[0].inForce coefs[1].inForce coefs[2].inForce
    ∧ levelPathStep coefs .c st s = path coefs[3].inForce coefs[4].inForce coefs[5].inForce
    ∧ peakPathStep coefs .c st s = path coefs[3].inForce coefs[4].inForce coefs[5].inForce)
  ∧ ∀ (k : CoefSet) (st : SectionState) (s : Int),
    let acc := k.b0 * s + k.b1 * st.s1 + k.b2 * st.s2 - k.a1 * st.y1 - k.a2 * st.y2
    let r := sectionStep k st s
    let above := 268435456 * (2 * 2147483647 + 1) ≤ 2 * acc
    let below := 2 * acc < 268435456 * (2 * (-2147483648) - 1)
    r.1 = { s1 := s, s2 := st.s1, y1 := r.2.1, y2 := st.y1 }
    ∧ (r.2.2 = true ↔ above ∨ below)
    ∧ (above → r.2.1 = 2147483647) ∧ (below → r.2.1 = -2147483648)
    ∧ (¬above → ¬below → 268435456 * (2 * r.2.1 - 1) ≤ 2 * acc ∧ 2 * acc < 268435456 * (2 * r.2.1 + 1))

/-- A group slice is formed as R78 gives from the records R77 admits; taken, it moves the hold count and counts an onset by
the table of R115 and enters the group second in formation as R80 gives, where one stands (none from a RESTART to the end of
its second: R83, log 51); it raises LMAX and PEAK, once each in a window, where the tests of R111 and R112 hold. -/
def Obligations.GroupSlicesFollowTheirTables : Prop :=
  (∀ (r : SliceRecord) (s : Suspect) (a : Admitted), admission r s = some a ↔ r.takenIn = .live
      ∧ ∃ l, r.levels = some l ∧ a = { levels := l, overload := r.overload, suspect := decide (s ≠ .none) })
  ∧ (∀ (second index : Nat) (holdOver discarded : Bool) (ad : List Admitted),
    let x := formGroupSlice second index holdOver discarded ad
    let mean := meanIntensity (ad.foldl (fun acc a => addIntensity acc a.levels.intensity) []) ad.length
    x.second = second ∧ x.index = index ∧ x.count = ad.length ∧ x.holdOver = holdOver ∧ x.discarded = discarded
    ∧ (ad = [] → x.intensity = none ∧ x.level = none ∧ x.under = false ∧ x.maxPeak = none)
    ∧ (ad ≠ [] → x.intensity = some mean ∧ x.level = some (levelOf mean).1 ∧ x.under = (levelOf mean).2
        ∧ ∃ a ∈ ad, x.maxPeak = some a.levels.lpk ∧ ∀ b ∈ ad, b.levels.lpk ≤ a.levels.lpk)
    ∧ (x.overload = true ↔ ∃ a ∈ ad, a.overload = true) ∧ (x.suspect = true ↔ ∃ a ∈ ad, a.suspect = true))
  ∧ (∀ (gr : Group) (e : GroupEntry) (x : GroupSlice) (ad : List Admitted),
    let impulse := ∃ a ∈ ad, (e.crestThreshold : Int) ≤ (a.levels.lpk : Int) - a.levels.lt ∧ e.impulseFloor ≤ a.levels.lt
    let t := gr.takeSlice e x ad
    (impulse → t.holdCount = e.impulseHold) ∧ (¬impulse → t.holdCount = gr.holdCount - 1)
    ∧ t.latest = some x ∧ t.ring = gr.ring ∧ t.openWindow = gr.openWindow ∧ t.alertOn = gr.alertOn
    ∧ (gr.forming = none → t.forming = none)
    ∧ ∀ f, gr.forming = some f → ∃ n, t.forming = some n
      ∧ (impulse → gr.holdCount = 0 → n.onsets = f.onsets + 1)
      ∧ (¬impulse ∨ gr.holdCount ≠ 0 → n.onsets = f.onsets)
      ∧ (x.intensity = none → n.data = f.data ∧ n.sum = f.sum)
      ∧ (∀ i, x.intensity = some i → n.data = f.data + 1 ∧ n.sum = addIntensity f.sum i)
      ∧ (x.level = none → n.maxLevel = f.maxLevel)
      ∧ (∀ l, x.level = some l → n.maxLevel = some (match f.maxLevel with | some m => max m l | none => l))
      ∧ (x.maxPeak = none → n.maxPeak = f.maxPeak)
      ∧ (∀ l, x.maxPeak = some l → n.maxPeak = some (match f.maxPeak with | some m => max m l | none => l))
      ∧ n.overload = (if x.overload then f.overload + 1 else f.overload)
      ∧ n.suspect = (f.suspect || x.suspect) ∧ n.holdOver = (f.holdOver || x.holdOver) ∧ n.membership = f.membership)
  ∧ ∀ (gr : Group) (g : Grp) (run excluded : Bool) (x : GroupSlice),
    let t := gr.immediate g run excluded x
    (gr.openWindow = none → t.1 = gr ∧ t.2.flatten = [])
    ∧ ∀ w, gr.openWindow = some w →
      let live := run = true ∧ x.discarded = false
      let lmax := live ∧ excluded = false ∧ w.lmaxRaised = false
        ∧ ∃ l limit v, w.limit = some l ∧ l.lmax = some limit ∧ x.level = some v ∧ limit < v
      let peak := live ∧ w.peakRaised = false
        ∧ ∃ l limit v, w.limit = some l ∧ l.peak = some limit ∧ x.maxPeak = some v ∧ limit < v
      let event (kind : EventKind) (level limit : Option Level) : Emission :=
        .event { second := x.second, kind := kind, subject := .group g, level := level, limit := limit
                 period := some w.period, value := none, discarded := false, manual := false, startUp := false
                 detail := none }
      let first := event .lmax x.level (w.limit.bind (·.lmax))
      let second := event .peak x.maxPeak (w.limit.bind (·.peak))
      (lmax → peak → t.2.flatten = [first, second]) ∧ (lmax → ¬peak → t.2.flatten = [first])
      ∧ (¬lmax → peak → t.2.flatten = [second]) ∧ (¬lmax → ¬peak → t.2.flatten = [])
      ∧ ∃ n, t.1 = { gr with openWindow := some n }
        ∧ n = { w with lmaxRaised := n.lmaxRaised, peakRaised := n.peakRaised }
        ∧ (n.lmaxRaised = true ↔ w.lmaxRaised = true ∨ lmax) ∧ (n.peakRaised = true ↔ w.peakRaised = true ∨ peak)

/-- A rolling level is that of the exact mean over the records of the alert window that are neither excluded nor discarded,
absent where they hold data of less than half the window (R127); with none the alert stands, and otherwise it moves by the
table of R128, with ALERT ON or ALERT OFF exactly at a change; what the close leaves is what the arbiter reads until the next
one (R143). A close with no second in formation forms no rolling level and leaves the alert as it stands, the model's choice
(log 51). A limit record handed over gives the alert its level and period, and an ON alert that is left without a level turns
OFF with its event (R126, R129). -/
def Obligations.AlertFollowsItsTables : Prop :=
  (∀ (ring : List GroupSecond) (window second : Nat),
    let used := ring.filter fun r =>
      decide (second < r.second + window ∧ r.second ≤ second ∧ r.excluded = false ∧ r.discarded = false)
    let d := (used.map (·.data)).sum
    (d < 4 * window → rollingLevel ring window second = none)
    ∧ (4 * window ≤ d → rollingLevel ring window second =
        some (levelOf (meanIntensity (used.foldl (fun acc r => addIntensity acc r.sum) []) d)).1))
  ∧ (∀ (gr : Group) (g : Grp) (e : GroupEntry) (second : Nat),
    let t := gr.rollingAlert g e second
    (gr.alertLevel = none → t = (gr, []))
    ∧ ∀ alert, gr.alertLevel = some alert →
      (rollingLevel gr.ring e.alertWindow second = none → t = ({ gr with rolling := none }, []))
      ∧ ∀ roll, rollingLevel gr.ring e.alertWindow second = some roll →
        let event (kind : EventKind) : List Emission :=
          [.event { second := second, kind := kind, subject := .group g, level := some roll, limit := some alert
                    period := gr.alertPeriod, value := none, discarded := false, manual := false, startUp := false
                    detail := none }]
        t.1.rolling = some roll
        ∧ (gr.alertOn = false → alert ≤ roll → t.1.alertOn = true ∧ t.2 = event .alertOn)
        ∧ (gr.alertOn = false → roll < alert → t.1.alertOn = false ∧ t.2 = [])
        ∧ (gr.alertOn = true → roll + 100 < alert → gr.holdCount = 0 → t.1.alertOn = false ∧ t.2 = event .alertOff)
        ∧ (gr.alertOn = true → (alert ≤ roll + 100 ∨ 0 < gr.holdCount) → t.1.alertOn = true ∧ t.2 = []))
  ∧ (∀ (gr : Group) (g : Grp) (e : GroupEntry) (second : Nat) (position : Option Pos) (excluded : Bool),
    let t := gr.closeSecond g e second position excluded
    t.1.alertAtClose = t.1.alertOn
    ∧ (gr.forming = none → t = ({ gr with alertAtClose := gr.alertOn }, []))
    ∧ ∀ f, gr.forming = some f →
      let turned := { gr with ring := enterRing (f.close second position excluded) gr.ring }.rollingAlert g e second
      t.1.alertOn = turned.1.alertOn ∧ t.1.rolling = turned.1.rolling ∧ t.2 = turned.2)
  ∧ ∀ (gr : Group) (g : Grp) (limit : Option LimitRecord) (period : Option Per) (second : Nat),
    let t := gr.handLimit g limit period second
    let level := limit.bind (·.alert)
    t.1 = { gr with alertLevel := level, alertPeriod := period, alertOn := gr.alertOn && level.isSome }
    ∧ (gr.alertOn = false ∨ level.isSome = true → t.2 = [])
    ∧ (gr.alertOn = true → level = none → t.2 = [.event
        { second := second, kind := .alertOff, subject := .group g, level := none, limit := gr.alertLevel
          period := gr.alertPeriod, value := none, discarded := false, manual := false, startUp := false
          detail := none }])

/-! ### The laws that every step keeps -/

/-- Every step keeps the queues of the Trunk Interface within their places (R162, R163, R166); and every step keeps the Event
Queue and the Result Store within theirs, with consecutive sequence numbers (R150, R155). -/
def Obligations.QueuesAndStoresKeepTheirBounds : Prop :=
  (∀ s t : State, s.queueLaw → step s = .next t → t.queueLaw)
  ∧ (∀ s t : State, s.eventLaw → s.resultLaw → step s = .next t → t.eventLaw ∧ t.resultLaw)

/-- Every step keeps each check balance between -3 and +6 (R140). -/
def Obligations.BalancesStayInRange : Prop :=
  ∀ s t : State, s.balanceLaw → step s = .next t → t.balanceLaw

/-- Every step keeps the laws of the check: one check, one drive, and no channel CHECKING or about to be outside it (R131 to
R134, R138). -/
def Obligations.ChecksStayExclusive : Prop :=
  ∀ s t : State, s.channelLaw → s.checkLaw → step s = .next t → t.checkLaw

/-- Every step keeps the active and pending maps and schedules valid, and under a lock the locked fields of the active map
at the locked values (R8, R10, R96, R97, R187). -/
def Obligations.TablesInForceStayValid : Prop :=
  ∀ s t : State, s.mapLaw → s.scheduleLaw → step s = .next t → t.mapLaw ∧ t.scheduleLaw

/-- Every step keeps each channel OFF exactly while disabled or freshly restarted, holding nothing then, and otherwise with
a slice in progress taken in its state (R29, R44, R49, R85). -/
def Obligations.ChannelsHoldTheirState : Prop :=
  ∀ s t : State, s.channelLaw → step s = .next t → t.channelLaw

/-- Every step keeps the rings of channels and groups within 900 entries, in order of running second, no two of one second
(R82, R84). -/
def Obligations.RingsStayInOrder : Prop :=
  ∀ s t : State, s.ringLaw → step s = .next t → t.ringLaw

/-- Every step keeps windows to RUN and to enabled groups, with the alert's level and period those of the open window, and no
alert ON without a level (R106, R113, R126). -/
def Obligations.WindowsBelongToRun : Prop :=
  ∀ s t : State, s.windowLaw → step s = .next t → t.windowLaw

/-- Every step keeps the Exclusion List within 16 entries, in order of start, each with its own id (R119). -/
def Obligations.ExclusionListStaysInOrder : Prop :=
  ∀ s t : State, s.exclusionLaw → step s = .next t → t.exclusionLaw

/-- Every step keeps the time record in its ranges, RUN with the clock set, and lock level 2 in RUN (R23, R61, R65, R66, R69,
R183, R187). -/
def Obligations.TimeAndModeStayInRange : Prop :=
  ∀ s t : State, s.timeLaw → s.modeLaw → step s = .next t → t.timeLaw ∧ t.modeLaw
end

