-- ==== Sys2Proof/Laws/Intensity.lean ====
section
/-! SUPPORT. Laws of exact intensities: the fixed-point root that every comparison starts from, and the one form in which
an intensity is held (log 5). -/

namespace Sys2Proof.Machine

/-- `root256` is at most `10^(1/2000)` at 256 bits. -/
theorem root256_pow_le : root256 ^ 2000 ≤ 10 * 2 ^ (2000 * 256) := by decide +kernel

/-- The next whole number lies above `10^(1/2000)` at 256 bits. -/
theorem lt_succ_root256_pow : 10 * 2 ^ (2000 * 256) < (root256 + 1) ^ 2000 := by decide +kernel

/-- Terms come out of `addTerm` from those put in. -/
theorem mem_addTerm {t : Nat × Rat} {r : Nat} {q : Rat} {a : Intensity} (h : t ∈ addTerm r q a) :
    t.1 = r ∨ t ∈ a := by
  induction a with
  | nil => unfold addTerm at h; split at h <;> simp_all
  | cons u rest ih =>
    unfold addTerm at h
    split at h
    · split at h
      · exact .inr h
      · rcases List.mem_cons.1 h with rfl | h
        · exact .inl rfl
        · exact .inr h
    · split at h
      · split at h
        · exact .inr (List.mem_cons_of_mem _ h)
        · rcases List.mem_cons.1 h with rfl | h
          · left; omega
          · exact .inr (List.mem_cons_of_mem _ h)
      · rcases List.mem_cons.1 h with rfl | h
        · exact .inr (by simp)
        · rcases ih h with h | h
          · exact .inl h
          · exact .inr (List.mem_cons_of_mem _ h)

/-- No term of `addTerm` has coefficient 0, if none of the list has. -/
theorem addTerm_ne_zero {r : Nat} {q : Rat} {a : Intensity} (ha : ∀ t ∈ a, t.2 ≠ 0) :
    ∀ t ∈ addTerm r q a, t.2 ≠ 0 := by
  induction a with
  | nil => unfold addTerm; split <;> simp_all
  | cons u rest ih =>
    have hr : ∀ t ∈ rest, t.2 ≠ 0 := fun t ht => ha t (List.mem_cons_of_mem _ ht)
    unfold addTerm
    intro t h
    split at h
    · split at h
      · exact ha t h
      · rcases List.mem_cons.1 h with rfl | h
        · assumption
        · exact ha t h
    · split at h
      · split at h
        · exact hr t h
        · rcases List.mem_cons.1 h with rfl | h
          · assumption
          · exact hr t h
      · rcases List.mem_cons.1 h with rfl | h
        · exact ha _ (by simp)
        · exact ih hr t h

/-- The residues of `addTerm` rise, if those of the list do. -/
theorem addTerm_rising {r : Nat} {q : Rat} {a : Intensity} (ha : (a.map (·.1)).Pairwise (· < ·)) :
    ((addTerm r q a).map (·.1)).Pairwise (· < ·) := by
  induction a with
  | nil => unfold addTerm; split <;> simp
  | cons u rest ih =>
    simp only [List.map_cons, List.pairwise_cons, List.mem_map] at ha
    obtain ⟨hu, hrest⟩ := ha
    unfold addTerm
    split
    · rename_i hlt
      split
      · simp only [List.map_cons, List.pairwise_cons, List.mem_map]; exact ⟨hu, hrest⟩
      · simp only [List.map_cons, List.pairwise_cons, List.mem_cons, List.mem_map]
        refine ⟨?_, hu, hrest⟩
        rintro x (rfl | ⟨t, ht, rfl⟩)
        · exact hlt
        · exact hlt.trans (hu _ ⟨t, ht, rfl⟩)
    · rename_i hlt
      split
      · split
        · exact hrest
        · simp only [List.map_cons, List.pairwise_cons, List.mem_map]; exact ⟨hu, hrest⟩
      · rename_i hne
        simp only [List.map_cons, List.pairwise_cons, List.mem_map]
        refine ⟨?_, ih hrest⟩
        rintro x ⟨t, ht, rfl⟩
        rcases mem_addTerm ht with h | h
        · omega
        · exact hu _ ⟨t, h, rfl⟩

/-- Adding a term keeps the canonical form. -/
theorem addTerm_canonical {r : Nat} {q : Rat} {a : Intensity} (hr : r < 1000) (ha : canonicalIntensity a) :
    canonicalIntensity (addTerm r q a) :=
  ⟨addTerm_rising ha.1, fun t ht =>
    ⟨(mem_addTerm ht).elim (fun h => h ▸ hr) fun h => (ha.2 t h).1,
      addTerm_ne_zero (fun t ht => (ha.2 t ht).2) t ht⟩⟩

/-- The sum of two intensities in canonical form has it. -/
theorem addIntensity_canonical {a b : Intensity} (ha : canonicalIntensity a) (hb : canonicalIntensity b) :
    canonicalIntensity (addIntensity a b) := by
  have h : ∀ l : Intensity, (∀ t ∈ l, t.1 < 1000) → ∀ b, canonicalIntensity b →
      canonicalIntensity (l.foldl (fun acc t => addTerm t.1 t.2 acc) b) := by
    intro l
    induction l with
    | nil => exact fun _ _ h => h
    | cons t rest ih =>
      exact fun hl b hb => ih (fun u hu => hl u (List.mem_cons_of_mem _ hu)) _ (addTerm_canonical (hl t (by simp)) hb)
  exact h a (fun t ht => (ha.2 t ht).1) b hb

/-- The intensity of a level is held in canonical form. -/
theorem levelIntensity_canonical (l : Level) (q : Rat) : canonicalIntensity (levelIntensity l q) := by
  unfold levelIntensity
  split
  · exact ⟨List.Pairwise.nil, fun t ht => absurd ht List.not_mem_nil⟩
  · rename_i h
    refine ⟨by simp, ?_⟩
    intro t ht
    obtain rfl := List.mem_singleton.1 ht
    exact ⟨Nat.mod_lt _ (by norm_num), mul_ne_zero (by positivity) h⟩

end Sys2Proof.Machine
end

