-- ==== Sys2Proof/Laws/State.lean ====
section
/-! SUPPORT. What each named update of the state leaves in each field: one lemma a field, each true by `rfl`. -/

namespace Sys2Proof.Machine

variable (s : State)

/-! ### State.answer -/

@[simp] theorem State.answer_time (w : Bool) (code tag : Byte) (k : ResultCode) (p : List Byte) :
    (s.answer w code tag k p).time = s.time := rfl
@[simp] theorem State.answer_router (w : Bool) (code tag : Byte) (k : ResultCode) (p : List Byte) :
    (s.answer w code tag k p).router = s.router := rfl
@[simp] theorem State.answer_coefs (w : Bool) (code tag : Byte) (k : ResultCode) (p : List Byte) :
    (s.answer w code tag k p).coefs = s.coefs := rfl
@[simp] theorem State.answer_channels (w : Bool) (code tag : Byte) (k : ResultCode) (p : List Byte) :
    (s.answer w code tag k p).channels = s.channels := rfl
@[simp] theorem State.answer_groups (w : Bool) (code tag : Byte) (k : ResultCode) (p : List Byte) :
    (s.answer w code tag k p).groups = s.groups := rfl
@[simp] theorem State.answer_schedules (w : Bool) (code tag : Byte) (k : ResultCode) (p : List Byte) :
    (s.answer w code tag k p).schedules = s.schedules := rfl
@[simp] theorem State.answer_exclusions (w : Bool) (code tag : Byte) (k : ResultCode) (p : List Byte) :
    (s.answer w code tag k p).exclusions = s.exclusions := rfl
@[simp] theorem State.answer_check (w : Bool) (code tag : Byte) (k : ResultCode) (p : List Byte) :
    (s.answer w code tag k p).check = s.check := rfl
@[simp] theorem State.answer_results (w : Bool) (code tag : Byte) (k : ResultCode) (p : List Byte) :
    (s.answer w code tag k p).results = s.results := rfl
@[simp] theorem State.answer_events (w : Bool) (code tag : Byte) (k : ResultCode) (p : List Byte) :
    (s.answer w code tag k p).events = s.events := rfl
@[simp] theorem State.answer_control (w : Bool) (code tag : Byte) (k : ResultCode) (p : List Byte) :
    (s.answer w code tag k p).control = s.control := rfl
@[simp] theorem State.answer_choices (w : Bool) (code tag : Byte) (k : ResultCode) (p : List Byte) :
    (s.answer w code tag k p).choices = s.choices := rfl
@[simp] theorem State.answer_pending (w : Bool) (code tag : Byte) (k : ResultCode) (p : List Byte) :
    (s.answer w code tag k p).pending = s.pending := rfl

/-! ### State.cellFault -/

@[simp] theorem State.cellFault_time (f : CellFault) : (s.cellFault f).time = s.time := rfl
@[simp] theorem State.cellFault_router (f : CellFault) : (s.cellFault f).router = s.router := rfl
@[simp] theorem State.cellFault_coefs (f : CellFault) : (s.cellFault f).coefs = s.coefs := rfl
@[simp] theorem State.cellFault_channels (f : CellFault) : (s.cellFault f).channels = s.channels := rfl
@[simp] theorem State.cellFault_groups (f : CellFault) : (s.cellFault f).groups = s.groups := rfl
@[simp] theorem State.cellFault_schedules (f : CellFault) : (s.cellFault f).schedules = s.schedules := rfl
@[simp] theorem State.cellFault_exclusions (f : CellFault) : (s.cellFault f).exclusions = s.exclusions := rfl
@[simp] theorem State.cellFault_check (f : CellFault) : (s.cellFault f).check = s.check := rfl
@[simp] theorem State.cellFault_results (f : CellFault) : (s.cellFault f).results = s.results := rfl
@[simp] theorem State.cellFault_events (f : CellFault) : (s.cellFault f).events = s.events := rfl
@[simp] theorem State.cellFault_trunk (f : CellFault) :
    (s.cellFault f).trunk = { s.trunk with lastFault := some f } := rfl
@[simp] theorem State.cellFault_control (f : CellFault) : (s.cellFault f).control = s.control := rfl
@[simp] theorem State.cellFault_choices (f : CellFault) : (s.cellFault f).choices = s.choices := rfl
@[simp] theorem State.cellFault_pending (f : CellFault) : (s.cellFault f).pending = s.pending := rfl

/-! ### State.writeChannel -/

@[simp] theorem State.writeChannel_time (k : Bank) (c : Chan) (e : ChannelEntry) :
    (s.writeChannel k c e).time = s.time := rfl
@[simp] theorem State.writeChannel_router (k : Bank) (c : Chan) (e : ChannelEntry) :
    (s.writeChannel k c e).router = s.router.setBank k ((s.router.bank k).setChannel c e) := rfl
@[simp] theorem State.writeChannel_coefs (k : Bank) (c : Chan) (e : ChannelEntry) :
    (s.writeChannel k c e).coefs = s.coefs := rfl
@[simp] theorem State.writeChannel_channels (k : Bank) (c : Chan) (e : ChannelEntry) :
    (s.writeChannel k c e).channels = s.channels := rfl
@[simp] theorem State.writeChannel_groups (k : Bank) (c : Chan) (e : ChannelEntry) :
    (s.writeChannel k c e).groups = s.groups := rfl
@[simp] theorem State.writeChannel_schedules (k : Bank) (c : Chan) (e : ChannelEntry) :
    (s.writeChannel k c e).schedules = s.schedules := rfl
@[simp] theorem State.writeChannel_exclusions (k : Bank) (c : Chan) (e : ChannelEntry) :
    (s.writeChannel k c e).exclusions = s.exclusions := rfl
@[simp] theorem State.writeChannel_check (k : Bank) (c : Chan) (e : ChannelEntry) :
    (s.writeChannel k c e).check = s.check := rfl
@[simp] theorem State.writeChannel_results (k : Bank) (c : Chan) (e : ChannelEntry) :
    (s.writeChannel k c e).results = s.results := rfl
@[simp] theorem State.writeChannel_events (k : Bank) (c : Chan) (e : ChannelEntry) :
    (s.writeChannel k c e).events = s.events := rfl
@[simp] theorem State.writeChannel_trunk (k : Bank) (c : Chan) (e : ChannelEntry) :
    (s.writeChannel k c e).trunk = s.trunk := rfl
@[simp] theorem State.writeChannel_control (k : Bank) (c : Chan) (e : ChannelEntry) :
    (s.writeChannel k c e).control = s.control := rfl
@[simp] theorem State.writeChannel_choices (k : Bank) (c : Chan) (e : ChannelEntry) :
    (s.writeChannel k c e).choices = s.choices := rfl
@[simp] theorem State.writeChannel_pending (k : Bank) (c : Chan) (e : ChannelEntry) :
    (s.writeChannel k c e).pending = s.pending := rfl

/-! ### State.writeGroup -/

@[simp] theorem State.writeGroup_time (k : Bank) (g : Grp) (e : GroupEntry) :
    (s.writeGroup k g e).time = s.time := rfl
@[simp] theorem State.writeGroup_router (k : Bank) (g : Grp) (e : GroupEntry) :
    (s.writeGroup k g e).router = s.router.setBank k ((s.router.bank k).setGroup g e) := rfl
@[simp] theorem State.writeGroup_coefs (k : Bank) (g : Grp) (e : GroupEntry) :
    (s.writeGroup k g e).coefs = s.coefs := rfl
@[simp] theorem State.writeGroup_channels (k : Bank) (g : Grp) (e : GroupEntry) :
    (s.writeGroup k g e).channels = s.channels := rfl
@[simp] theorem State.writeGroup_groups (k : Bank) (g : Grp) (e : GroupEntry) :
    (s.writeGroup k g e).groups = s.groups := rfl
@[simp] theorem State.writeGroup_schedules (k : Bank) (g : Grp) (e : GroupEntry) :
    (s.writeGroup k g e).schedules = s.schedules := rfl
@[simp] theorem State.writeGroup_exclusions (k : Bank) (g : Grp) (e : GroupEntry) :
    (s.writeGroup k g e).exclusions = s.exclusions := rfl
@[simp] theorem State.writeGroup_check (k : Bank) (g : Grp) (e : GroupEntry) :
    (s.writeGroup k g e).check = s.check := rfl
@[simp] theorem State.writeGroup_results (k : Bank) (g : Grp) (e : GroupEntry) :
    (s.writeGroup k g e).results = s.results := rfl
@[simp] theorem State.writeGroup_events (k : Bank) (g : Grp) (e : GroupEntry) :
    (s.writeGroup k g e).events = s.events := rfl
@[simp] theorem State.writeGroup_trunk (k : Bank) (g : Grp) (e : GroupEntry) :
    (s.writeGroup k g e).trunk = s.trunk := rfl
@[simp] theorem State.writeGroup_control (k : Bank) (g : Grp) (e : GroupEntry) :
    (s.writeGroup k g e).control = s.control := rfl
@[simp] theorem State.writeGroup_choices (k : Bank) (g : Grp) (e : GroupEntry) :
    (s.writeGroup k g e).choices = s.choices := rfl
@[simp] theorem State.writeGroup_pending (k : Bank) (g : Grp) (e : GroupEntry) :
    (s.writeGroup k g e).pending = s.pending := rfl

/-! ### State.commitMap -/

@[simp] theorem State.commitMap_time (k : Bank) : (s.commitMap k).time = s.time := rfl
@[simp] theorem State.commitMap_router (k : Bank) :
    (s.commitMap k).router = { s.router with pendingMap := some (s.router.bank k, k) } := rfl
@[simp] theorem State.commitMap_coefs (k : Bank) : (s.commitMap k).coefs = s.coefs := rfl
@[simp] theorem State.commitMap_channels (k : Bank) : (s.commitMap k).channels = s.channels := rfl
@[simp] theorem State.commitMap_groups (k : Bank) : (s.commitMap k).groups = s.groups := rfl
@[simp] theorem State.commitMap_schedules (k : Bank) : (s.commitMap k).schedules = s.schedules := rfl
@[simp] theorem State.commitMap_exclusions (k : Bank) : (s.commitMap k).exclusions = s.exclusions := rfl
@[simp] theorem State.commitMap_check (k : Bank) : (s.commitMap k).check = s.check := rfl
@[simp] theorem State.commitMap_results (k : Bank) : (s.commitMap k).results = s.results := rfl
@[simp] theorem State.commitMap_events (k : Bank) : (s.commitMap k).events = s.events := rfl
@[simp] theorem State.commitMap_trunk (k : Bank) : (s.commitMap k).trunk = s.trunk := rfl
@[simp] theorem State.commitMap_control (k : Bank) : (s.commitMap k).control = s.control := rfl
@[simp] theorem State.commitMap_choices (k : Bank) : (s.commitMap k).choices = s.choices := rfl
@[simp] theorem State.commitMap_pending (k : Bank) : (s.commitMap k).pending = s.pending := rfl

/-! ### State.writeCoefs -/

@[simp] theorem State.writeCoefs_time (i : Fin 6) (k : CoefSet) : (s.writeCoefs i k).time = s.time := rfl
@[simp] theorem State.writeCoefs_router (i : Fin 6) (k : CoefSet) : (s.writeCoefs i k).router = s.router := rfl
@[simp] theorem State.writeCoefs_coefs (i : Fin 6) (k : CoefSet) :
    (s.writeCoefs i k).coefs = s.coefs.set i { s.coefs[i] with waiting := some k } := rfl
@[simp] theorem State.writeCoefs_channels (i : Fin 6) (k : CoefSet) : (s.writeCoefs i k).channels = s.channels := rfl
@[simp] theorem State.writeCoefs_groups (i : Fin 6) (k : CoefSet) : (s.writeCoefs i k).groups = s.groups := rfl
@[simp] theorem State.writeCoefs_schedules (i : Fin 6) (k : CoefSet) :
    (s.writeCoefs i k).schedules = s.schedules := rfl
@[simp] theorem State.writeCoefs_exclusions (i : Fin 6) (k : CoefSet) :
    (s.writeCoefs i k).exclusions = s.exclusions := rfl
@[simp] theorem State.writeCoefs_check (i : Fin 6) (k : CoefSet) : (s.writeCoefs i k).check = s.check := rfl
@[simp] theorem State.writeCoefs_results (i : Fin 6) (k : CoefSet) : (s.writeCoefs i k).results = s.results := rfl
@[simp] theorem State.writeCoefs_events (i : Fin 6) (k : CoefSet) : (s.writeCoefs i k).events = s.events := rfl
@[simp] theorem State.writeCoefs_trunk (i : Fin 6) (k : CoefSet) : (s.writeCoefs i k).trunk = s.trunk := rfl
@[simp] theorem State.writeCoefs_control (i : Fin 6) (k : CoefSet) : (s.writeCoefs i k).control = s.control := rfl
@[simp] theorem State.writeCoefs_choices (i : Fin 6) (k : CoefSet) : (s.writeCoefs i k).choices = s.choices := rfl
@[simp] theorem State.writeCoefs_pending (i : Fin 6) (k : CoefSet) : (s.writeCoefs i k).pending = s.pending := rfl

/-! ### State.commitSchedule -/

@[simp] theorem State.commitSchedule_time (m : CommitMode) : (s.commitSchedule m).time = s.time := rfl
@[simp] theorem State.commitSchedule_router (m : CommitMode) : (s.commitSchedule m).router = s.router := rfl
@[simp] theorem State.commitSchedule_coefs (m : CommitMode) : (s.commitSchedule m).coefs = s.coefs := rfl
@[simp] theorem State.commitSchedule_channels (m : CommitMode) : (s.commitSchedule m).channels = s.channels := rfl
@[simp] theorem State.commitSchedule_groups (m : CommitMode) : (s.commitSchedule m).groups = s.groups := rfl
@[simp] theorem State.commitSchedule_schedules (m : CommitMode) :
    (s.commitSchedule m).schedules = { s.schedules with pendingSchedule := some (s.schedules.staged, m) } := rfl
@[simp] theorem State.commitSchedule_exclusions (m : CommitMode) :
    (s.commitSchedule m).exclusions = s.exclusions := rfl
@[simp] theorem State.commitSchedule_check (m : CommitMode) : (s.commitSchedule m).check = s.check := rfl
@[simp] theorem State.commitSchedule_results (m : CommitMode) : (s.commitSchedule m).results = s.results := rfl
@[simp] theorem State.commitSchedule_events (m : CommitMode) : (s.commitSchedule m).events = s.events := rfl
@[simp] theorem State.commitSchedule_trunk (m : CommitMode) : (s.commitSchedule m).trunk = s.trunk := rfl
@[simp] theorem State.commitSchedule_control (m : CommitMode) : (s.commitSchedule m).control = s.control := rfl
@[simp] theorem State.commitSchedule_choices (m : CommitMode) : (s.commitSchedule m).choices = s.choices := rfl
@[simp] theorem State.commitSchedule_pending (m : CommitMode) : (s.commitSchedule m).pending = s.pending := rfl

/-! ### State.addExclusion -/

@[simp] theorem State.addExclusion_time (x : Exclusion) : (s.addExclusion x).time = s.time := rfl
@[simp] theorem State.addExclusion_router (x : Exclusion) : (s.addExclusion x).router = s.router := rfl
@[simp] theorem State.addExclusion_coefs (x : Exclusion) : (s.addExclusion x).coefs = s.coefs := rfl
@[simp] theorem State.addExclusion_channels (x : Exclusion) : (s.addExclusion x).channels = s.channels := rfl
@[simp] theorem State.addExclusion_groups (x : Exclusion) :
    (s.addExclusion x).groups = Vector.ofFn fun g => s.groups[g].excludeMasked g x s.time.runningSecond := rfl
@[simp] theorem State.addExclusion_schedules (x : Exclusion) : (s.addExclusion x).schedules = s.schedules := rfl
@[simp] theorem State.addExclusion_exclusions (x : Exclusion) :
    (s.addExclusion x).exclusions = placeExclusion x s.exclusions := rfl
@[simp] theorem State.addExclusion_check (x : Exclusion) : (s.addExclusion x).check = s.check := rfl
@[simp] theorem State.addExclusion_results (x : Exclusion) : (s.addExclusion x).results = s.results := rfl
@[simp] theorem State.addExclusion_events (x : Exclusion) : (s.addExclusion x).events = s.events := rfl
@[simp] theorem State.addExclusion_trunk (x : Exclusion) : (s.addExclusion x).trunk = s.trunk := rfl
@[simp] theorem State.addExclusion_control (x : Exclusion) : (s.addExclusion x).control = s.control := rfl
@[simp] theorem State.addExclusion_choices (x : Exclusion) : (s.addExclusion x).choices = s.choices := rfl
@[simp] theorem State.addExclusion_pending (x : Exclusion) : (s.addExclusion x).pending = s.pending := rfl

/-! ### State.beginSweep -/

@[simp] theorem State.beginSweep_time (m : ChanSet) : (s.beginSweep m).time = s.time := rfl
@[simp] theorem State.beginSweep_router (m : ChanSet) : (s.beginSweep m).router = s.router := rfl
@[simp] theorem State.beginSweep_coefs (m : ChanSet) : (s.beginSweep m).coefs = s.coefs := rfl
@[simp] theorem State.beginSweep_channels (m : ChanSet) : (s.beginSweep m).channels = s.channels := rfl
@[simp] theorem State.beginSweep_groups (m : ChanSet) : (s.beginSweep m).groups = s.groups := rfl
@[simp] theorem State.beginSweep_schedules (m : ChanSet) : (s.beginSweep m).schedules = s.schedules := rfl
@[simp] theorem State.beginSweep_exclusions (m : ChanSet) : (s.beginSweep m).exclusions = s.exclusions := rfl
@[simp] theorem State.beginSweep_results (m : ChanSet) : (s.beginSweep m).results = s.results := rfl
@[simp] theorem State.beginSweep_events (m : ChanSet) : (s.beginSweep m).events = s.events := rfl
@[simp] theorem State.beginSweep_trunk (m : ChanSet) : (s.beginSweep m).trunk = s.trunk := rfl
@[simp] theorem State.beginSweep_control (m : ChanSet) : (s.beginSweep m).control = s.control := rfl
@[simp] theorem State.beginSweep_choices (m : ChanSet) : (s.beginSweep m).choices = s.choices := rfl
@[simp] theorem State.beginSweep_pending (m : ChanSet) : (s.beginSweep m).pending = s.pending := rfl

/-! ### State.dropEvent -/

@[simp] theorem State.dropEvent_time : s.dropEvent.time = s.time := rfl
@[simp] theorem State.dropEvent_router : s.dropEvent.router = s.router := rfl
@[simp] theorem State.dropEvent_coefs : s.dropEvent.coefs = s.coefs := rfl
@[simp] theorem State.dropEvent_channels : s.dropEvent.channels = s.channels := rfl
@[simp] theorem State.dropEvent_groups : s.dropEvent.groups = s.groups := rfl
@[simp] theorem State.dropEvent_schedules : s.dropEvent.schedules = s.schedules := rfl
@[simp] theorem State.dropEvent_exclusions : s.dropEvent.exclusions = s.exclusions := rfl
@[simp] theorem State.dropEvent_check : s.dropEvent.check = s.check := rfl
@[simp] theorem State.dropEvent_results : s.dropEvent.results = s.results := rfl
@[simp] theorem State.dropEvent_events : s.dropEvent.events = { s.events with queue := s.events.queue.tail } := rfl
@[simp] theorem State.dropEvent_trunk : s.dropEvent.trunk = s.trunk := rfl
@[simp] theorem State.dropEvent_control : s.dropEvent.control = s.control := rfl
@[simp] theorem State.dropEvent_choices : s.dropEvent.choices = s.choices := rfl
@[simp] theorem State.dropEvent_pending : s.dropEvent.pending = s.pending := rfl

/-! ### State.raiseLock -/

@[simp] theorem State.raiseLock_time (l : Nat) : (s.raiseLock l).time = s.time := rfl
@[simp] theorem State.raiseLock_router (l : Nat) : (s.raiseLock l).router = s.router := rfl
@[simp] theorem State.raiseLock_coefs (l : Nat) : (s.raiseLock l).coefs = s.coefs := rfl
@[simp] theorem State.raiseLock_channels (l : Nat) : (s.raiseLock l).channels = s.channels := rfl
@[simp] theorem State.raiseLock_groups (l : Nat) : (s.raiseLock l).groups = s.groups := rfl
@[simp] theorem State.raiseLock_schedules (l : Nat) : (s.raiseLock l).schedules = s.schedules := rfl
@[simp] theorem State.raiseLock_exclusions (l : Nat) : (s.raiseLock l).exclusions = s.exclusions := rfl
@[simp] theorem State.raiseLock_check (l : Nat) : (s.raiseLock l).check = s.check := rfl
@[simp] theorem State.raiseLock_results (l : Nat) : (s.raiseLock l).results = s.results := rfl
@[simp] theorem State.raiseLock_events (l : Nat) : (s.raiseLock l).events = s.events := rfl
@[simp] theorem State.raiseLock_trunk (l : Nat) : (s.raiseLock l).trunk = s.trunk := rfl
@[simp] theorem State.raiseLock_choices (l : Nat) : (s.raiseLock l).choices = s.choices := rfl
@[simp] theorem State.raiseLock_pending (l : Nat) : (s.raiseLock l).pending = s.pending := rfl

/-! ### State.enterRun -/

@[simp] theorem State.enterRun_time : s.enterRun.time = { s.time with pendingTime := none } := rfl
@[simp] theorem State.enterRun_router : s.enterRun.router = s.router := rfl
@[simp] theorem State.enterRun_coefs : s.enterRun.coefs = s.coefs := rfl
@[simp] theorem State.enterRun_channels : s.enterRun.channels = s.channels := rfl
@[simp] theorem State.enterRun_schedules : s.enterRun.schedules = s.schedules := rfl
@[simp] theorem State.enterRun_exclusions : s.enterRun.exclusions = s.exclusions := rfl
@[simp] theorem State.enterRun_check : s.enterRun.check = s.check := rfl
@[simp] theorem State.enterRun_results : s.enterRun.results = s.results := rfl
@[simp] theorem State.enterRun_events : s.enterRun.events = s.events := rfl
@[simp] theorem State.enterRun_trunk : s.enterRun.trunk = s.trunk := rfl
@[simp] theorem State.enterRun_control : s.enterRun.control = { s.control with mode := .run, autoRun := false } := rfl
@[simp] theorem State.enterRun_choices : s.enterRun.choices = s.choices := rfl
@[simp] theorem State.enterRun_pending : s.enterRun.pending = s.pending := rfl

/-! ### State.leaveRun -/

@[simp] theorem State.leaveRun_time : s.leaveRun.time = s.time := rfl
@[simp] theorem State.leaveRun_router : s.leaveRun.router = s.router := rfl
@[simp] theorem State.leaveRun_coefs : s.leaveRun.coefs = s.coefs := rfl
@[simp] theorem State.leaveRun_channels : s.leaveRun.channels = s.channels := rfl
@[simp] theorem State.leaveRun_groups :
    s.leaveRun.groups = Vector.ofFn fun g => (s.groups[g].leaveRun g s.time.runningSecond).1 := rfl
@[simp] theorem State.leaveRun_schedules : s.leaveRun.schedules = s.schedules := rfl
@[simp] theorem State.leaveRun_exclusions : s.leaveRun.exclusions = s.exclusions := rfl
@[simp] theorem State.leaveRun_check : s.leaveRun.check = s.check := rfl
@[simp] theorem State.leaveRun_results : s.leaveRun.results = s.results := rfl
@[simp] theorem State.leaveRun_events : s.leaveRun.events = s.events := rfl
@[simp] theorem State.leaveRun_trunk : s.leaveRun.trunk = s.trunk := rfl
@[simp] theorem State.leaveRun_control : s.leaveRun.control = { s.control with mode := .config } := rfl
@[simp] theorem State.leaveRun_choices : s.leaveRun.choices = s.choices := rfl
@[simp] theorem State.leaveRun_pending : s.leaveRun.pending = s.pending := rfl

/-! ### State.restart -/

@[simp] theorem State.restart_time : s.restart.time = s.time := rfl
@[simp] theorem State.restart_router : s.restart.router = { s.router with pendingMap := none } := rfl
@[simp] theorem State.restart_coefs : s.restart.coefs = s.coefs.map CoefSection.discard := rfl
@[simp] theorem State.restart_channels : s.restart.channels = s.channels.map Channel.restart := rfl
@[simp] theorem State.restart_groups : s.restart.groups = Vector.replicate 8 Group.reset := rfl
@[simp] theorem State.restart_schedules : s.restart.schedules = { s.schedules with pendingSchedule := none } := rfl
@[simp] theorem State.restart_exclusions : s.restart.exclusions = [] := rfl
@[simp] theorem State.restart_check : s.restart.check = s.check.restart := rfl
@[simp] theorem State.restart_results : s.restart.results = ResultStore.reset := rfl
@[simp] theorem State.restart_events : s.restart.events = EventQueue.reset := rfl
@[simp] theorem State.restart_trunk : s.restart.trunk = s.trunk.restart s.check.driveOff := rfl
@[simp] theorem State.restart_control :
    s.restart.control = { s.control with mode := .config, autoRun := false, restarted := true } := rfl
@[simp] theorem State.restart_choices : s.restart.choices = s.choices := rfl
@[simp] theorem State.restart_pending : s.restart.pending = s.pending := rfl

/-! ### State.powerOn -/

@[simp] theorem State.powerOn_time (n : Fin 4) : (s.powerOn n).time = TimeBase.reset := rfl
@[simp] theorem State.powerOn_router (n : Fin 4) : (s.powerOn n).router = Router.reset := rfl
@[simp] theorem State.powerOn_coefs (n : Fin 4) : (s.powerOn n).coefs = Vector.replicate 6 CoefSection.reset := rfl
@[simp] theorem State.powerOn_channels (n : Fin 4) : (s.powerOn n).channels = Vector.replicate 16 Channel.reset := rfl
@[simp] theorem State.powerOn_groups (n : Fin 4) : (s.powerOn n).groups = Vector.replicate 8 Group.reset := rfl
@[simp] theorem State.powerOn_schedules (n : Fin 4) : (s.powerOn n).schedules = Schedules.reset := rfl
@[simp] theorem State.powerOn_exclusions (n : Fin 4) : (s.powerOn n).exclusions = [] := rfl
@[simp] theorem State.powerOn_check (n : Fin 4) : (s.powerOn n).check = CheckEngine.reset := rfl
@[simp] theorem State.powerOn_results (n : Fin 4) : (s.powerOn n).results = ResultStore.reset := rfl
@[simp] theorem State.powerOn_events (n : Fin 4) : (s.powerOn n).events = EventQueue.reset := rfl
@[simp] theorem State.powerOn_trunk (n : Fin 4) : (s.powerOn n).trunk = Trunk.reset := rfl
@[simp] theorem State.powerOn_control (n : Fin 4) : (s.powerOn n).control = Control.powerOn n := rfl
@[simp] theorem State.powerOn_choices (n : Fin 4) : (s.powerOn n).choices = s.choices := rfl
@[simp] theorem State.powerOn_pending (n : Fin 4) : (s.powerOn n).pending = s.pending := rfl

/-! ### State.discardImage -/

@[simp] theorem State.discardImage_time (o : BootOutcome) : (s.discardImage o).time = s.time := rfl
@[simp] theorem State.discardImage_router (o : BootOutcome) :
    (s.discardImage o).router = { s.router with bankA := ChannelMap.default } := rfl
@[simp] theorem State.discardImage_coefs (o : BootOutcome) :
    (s.discardImage o).coefs = Vector.replicate 6 CoefSection.reset := rfl
@[simp] theorem State.discardImage_channels (o : BootOutcome) : (s.discardImage o).channels = s.channels := rfl
@[simp] theorem State.discardImage_groups (o : BootOutcome) : (s.discardImage o).groups = s.groups := rfl
@[simp] theorem State.discardImage_schedules (o : BootOutcome) :
    (s.discardImage o).schedules = { s.schedules with staged := Schedule.default } := rfl
@[simp] theorem State.discardImage_exclusions (o : BootOutcome) : (s.discardImage o).exclusions = s.exclusions := rfl
@[simp] theorem State.discardImage_check (o : BootOutcome) : (s.discardImage o).check = s.check := rfl
@[simp] theorem State.discardImage_results (o : BootOutcome) : (s.discardImage o).results = s.results := rfl
@[simp] theorem State.discardImage_events (o : BootOutcome) : (s.discardImage o).events = s.events := rfl
@[simp] theorem State.discardImage_trunk (o : BootOutcome) : (s.discardImage o).trunk = s.trunk := rfl
@[simp] theorem State.discardImage_control (o : BootOutcome) :
    (s.discardImage o).control = { s.control with bootOutcome := o, autoRun := false, mode := .config } := rfl
@[simp] theorem State.discardImage_choices (o : BootOutcome) : (s.discardImage o).choices = s.choices := rfl
@[simp] theorem State.discardImage_pending (o : BootOutcome) : (s.discardImage o).pending = s.pending := rfl

/-! ### State.acceptImage -/

@[simp] theorem State.acceptImage_time (t : BootTables) (a : Bool) : (s.acceptImage t a).time = s.time := rfl
@[simp] theorem State.acceptImage_router (t : BootTables) (a : Bool) :
    (s.acceptImage t a).router = { s.router with bankA := t.bankA, pendingMap := some (t.bankA, .a) } := rfl
@[simp] theorem State.acceptImage_coefs (t : BootTables) (a : Bool) :
    (s.acceptImage t a).coefs = t.coefs.map CoefSection.place := rfl
@[simp] theorem State.acceptImage_channels (t : BootTables) (a : Bool) :
    (s.acceptImage t a).channels = s.channels := rfl
@[simp] theorem State.acceptImage_groups (t : BootTables) (a : Bool) : (s.acceptImage t a).groups = s.groups := rfl
@[simp] theorem State.acceptImage_schedules (t : BootTables) (a : Bool) :
    (s.acceptImage t a).schedules = { t.schedules with pendingSchedule := some (t.schedules.staged, .immediate) } := rfl
@[simp] theorem State.acceptImage_exclusions (t : BootTables) (a : Bool) :
    (s.acceptImage t a).exclusions = s.exclusions := rfl
@[simp] theorem State.acceptImage_check (t : BootTables) (a : Bool) : (s.acceptImage t a).check = s.check := rfl
@[simp] theorem State.acceptImage_results (t : BootTables) (a : Bool) : (s.acceptImage t a).results = s.results := rfl
@[simp] theorem State.acceptImage_events (t : BootTables) (a : Bool) : (s.acceptImage t a).events = s.events := rfl
@[simp] theorem State.acceptImage_trunk (t : BootTables) (a : Bool) : (s.acceptImage t a).trunk = s.trunk := rfl
@[simp] theorem State.acceptImage_control (t : BootTables) (a : Bool) :
    (s.acceptImage t a).control = { s.control with bootOutcome := .accepted, bootDefault := false, autoRun := a, mode := .config } := rfl
@[simp] theorem State.acceptImage_choices (t : BootTables) (a : Bool) : (s.acceptImage t a).choices = s.choices := rfl
@[simp] theorem State.acceptImage_pending (t : BootTables) (a : Bool) : (s.acceptImage t a).pending = s.pending := rfl

/-! ### State.routeSamples -/

@[simp] theorem State.routeSamples_time (xs : List Sample) : (s.routeSamples xs).time = s.time := rfl
@[simp] theorem State.routeSamples_router (xs : List Sample) : (s.routeSamples xs).router = s.router := rfl
@[simp] theorem State.routeSamples_coefs (xs : List Sample) : (s.routeSamples xs).coefs = s.coefs := rfl
@[simp] theorem State.routeSamples_groups (xs : List Sample) : (s.routeSamples xs).groups = s.groups := rfl
@[simp] theorem State.routeSamples_schedules (xs : List Sample) : (s.routeSamples xs).schedules = s.schedules := rfl
@[simp] theorem State.routeSamples_exclusions (xs : List Sample) :
    (s.routeSamples xs).exclusions = s.exclusions := rfl
@[simp] theorem State.routeSamples_check (xs : List Sample) : (s.routeSamples xs).check = s.check := rfl
@[simp] theorem State.routeSamples_results (xs : List Sample) : (s.routeSamples xs).results = s.results := rfl
@[simp] theorem State.routeSamples_events (xs : List Sample) : (s.routeSamples xs).events = s.events := rfl
@[simp] theorem State.routeSamples_trunk (xs : List Sample) : (s.routeSamples xs).trunk = s.trunk := rfl
@[simp] theorem State.routeSamples_control (xs : List Sample) : (s.routeSamples xs).control = s.control := rfl
@[simp] theorem State.routeSamples_choices (xs : List Sample) : (s.routeSamples xs).choices = s.choices := rfl
@[simp] theorem State.routeSamples_pending (xs : List Sample) : (s.routeSamples xs).pending = s.pending := rfl

/-! ### State.carryGood -/

@[simp] theorem State.carryGood_time (f : Frame) :
    (s.carryGood f).time = s.time := by simp only [State.carryGood, State.routeSamples]
@[simp] theorem State.carryGood_router (f : Frame) :
    (s.carryGood f).router = s.router := by simp only [State.carryGood, State.routeSamples]
@[simp] theorem State.carryGood_coefs (f : Frame) :
    (s.carryGood f).coefs = s.coefs := by simp only [State.carryGood, State.routeSamples]
@[simp] theorem State.carryGood_channels (f : Frame) :
    (s.carryGood f).channels = (s.routeSamples f.samples).channels := by simp only [State.carryGood, State.routeSamples]
@[simp] theorem State.carryGood_groups (f : Frame) :
    (s.carryGood f).groups = s.groups := by simp only [State.carryGood, State.routeSamples]
@[simp] theorem State.carryGood_schedules (f : Frame) :
    (s.carryGood f).schedules = s.schedules := by simp only [State.carryGood, State.routeSamples]
@[simp] theorem State.carryGood_exclusions (f : Frame) :
    (s.carryGood f).exclusions = s.exclusions := by simp only [State.carryGood, State.routeSamples]
@[simp] theorem State.carryGood_check (f : Frame) :
    (s.carryGood f).check = s.check := by simp only [State.carryGood, State.routeSamples]
@[simp] theorem State.carryGood_results (f : Frame) :
    (s.carryGood f).results = s.results := by simp only [State.carryGood, State.routeSamples]
@[simp] theorem State.carryGood_events (f : Frame) :
    (s.carryGood f).events = s.events := by simp only [State.carryGood, State.routeSamples]
@[simp] theorem State.carryGood_control (f : Frame) :
    (s.carryGood f).control = s.control := by simp only [State.carryGood, State.routeSamples]
@[simp] theorem State.carryGood_choices (f : Frame) :
    (s.carryGood f).choices = s.choices := by simp only [State.carryGood, State.routeSamples]
@[simp] theorem State.carryGood_pending (f : Frame) :
    (s.carryGood f).pending = s.pending := by simp only [State.carryGood, State.routeSamples]

/-! ### State.carryBad -/

@[simp] theorem State.carryBad_time (f : Frame) : (s.carryBad f).time = s.time := rfl
@[simp] theorem State.carryBad_router (f : Frame) : (s.carryBad f).router = s.router := rfl
@[simp] theorem State.carryBad_coefs (f : Frame) : (s.carryBad f).coefs = s.coefs := rfl
@[simp] theorem State.carryBad_channels (f : Frame) : (s.carryBad f).channels = s.channels := rfl
@[simp] theorem State.carryBad_groups (f : Frame) : (s.carryBad f).groups = s.groups := rfl
@[simp] theorem State.carryBad_schedules (f : Frame) : (s.carryBad f).schedules = s.schedules := rfl
@[simp] theorem State.carryBad_exclusions (f : Frame) : (s.carryBad f).exclusions = s.exclusions := rfl
@[simp] theorem State.carryBad_check (f : Frame) : (s.carryBad f).check = s.check := rfl
@[simp] theorem State.carryBad_results (f : Frame) : (s.carryBad f).results = s.results := rfl
@[simp] theorem State.carryBad_events (f : Frame) : (s.carryBad f).events = s.events := rfl
@[simp] theorem State.carryBad_trunk (f : Frame) : (s.carryBad f).trunk = { s.trunk with frameOut := some f } := rfl
@[simp] theorem State.carryBad_control (f : Frame) : (s.carryBad f).control = s.control := rfl
@[simp] theorem State.carryBad_choices (f : Frame) : (s.carryBad f).choices = s.choices := rfl
@[simp] theorem State.carryBad_pending (f : Frame) : (s.carryBad f).pending = s.pending := rfl

/-! ### State.carryNone -/

@[simp] theorem State.carryNone_time : s.carryNone.time = s.time := rfl
@[simp] theorem State.carryNone_router : s.carryNone.router = s.router := rfl
@[simp] theorem State.carryNone_coefs : s.carryNone.coefs = s.coefs := rfl
@[simp] theorem State.carryNone_channels : s.carryNone.channels = s.channels := rfl
@[simp] theorem State.carryNone_groups : s.carryNone.groups = s.groups := rfl
@[simp] theorem State.carryNone_schedules : s.carryNone.schedules = s.schedules := rfl
@[simp] theorem State.carryNone_exclusions : s.carryNone.exclusions = s.exclusions := rfl
@[simp] theorem State.carryNone_check : s.carryNone.check = s.check := rfl
@[simp] theorem State.carryNone_results : s.carryNone.results = s.results := rfl
@[simp] theorem State.carryNone_events : s.carryNone.events = s.events := rfl
@[simp] theorem State.carryNone_control : s.carryNone.control = s.control := rfl
@[simp] theorem State.carryNone_choices : s.carryNone.choices = s.choices := rfl
@[simp] theorem State.carryNone_pending : s.carryNone.pending = s.pending := rfl

/-! ### State.withParser -/

@[simp] theorem State.withParser_time (p : Parser) : (s.withParser p).time = s.time := rfl
@[simp] theorem State.withParser_router (p : Parser) : (s.withParser p).router = s.router := rfl
@[simp] theorem State.withParser_coefs (p : Parser) : (s.withParser p).coefs = s.coefs := rfl
@[simp] theorem State.withParser_channels (p : Parser) : (s.withParser p).channels = s.channels := rfl
@[simp] theorem State.withParser_groups (p : Parser) : (s.withParser p).groups = s.groups := rfl
@[simp] theorem State.withParser_schedules (p : Parser) : (s.withParser p).schedules = s.schedules := rfl
@[simp] theorem State.withParser_exclusions (p : Parser) : (s.withParser p).exclusions = s.exclusions := rfl
@[simp] theorem State.withParser_check (p : Parser) : (s.withParser p).check = s.check := rfl
@[simp] theorem State.withParser_results (p : Parser) : (s.withParser p).results = s.results := rfl
@[simp] theorem State.withParser_events (p : Parser) : (s.withParser p).events = s.events := rfl
@[simp] theorem State.withParser_trunk (p : Parser) : (s.withParser p).trunk = { s.trunk with parser := p } := rfl
@[simp] theorem State.withParser_control (p : Parser) : (s.withParser p).control = s.control := rfl
@[simp] theorem State.withParser_choices (p : Parser) : (s.withParser p).choices = s.choices := rfl
@[simp] theorem State.withParser_pending (p : Parser) : (s.withParser p).pending = s.pending := rfl

/-! ### The operations of a second boundary -/

@[simp] theorem TimeBase.hold_here (t : TimeBase) : t.hold.here = t.here := rfl
@[simp] theorem TimeBase.hold_held (t : TimeBase) : t.hold.held = true := rfl
@[simp] theorem TimeBase.hold_trim (t : TimeBase) : t.hold.trim = t.trim + 1 := rfl
@[simp] theorem TimeBase.hold_present (t : TimeBase) : t.hold.present = t.here.next := rfl
@[simp] theorem TimeBase.moveTo_here (t : TimeBase) (p : Pos) : (t.moveTo p).here = p := rfl
@[simp] theorem TimeBase.moveTo_present (t : TimeBase) (p : Pos) : (t.moveTo p).present = p := rfl
@[simp] theorem TimeBase.moveTo_held (t : TimeBase) (p : Pos) : (t.moveTo p).held = false := rfl
@[simp] theorem TimeBase.openSecond_here (t : TimeBase) : t.openSecond.here = t.here := rfl
@[simp] theorem TimeBase.openSecond_runningSecond (t : TimeBase) : t.openSecond.runningSecond = t.runningSecond + 1 := rfl
@[simp] theorem Channel.restart_levelPath (ch : Channel) : ch.restart.levelPath = PathState.zero := rfl
@[simp] theorem Channel.restart_peakPath (ch : Channel) : ch.restart.peakPath = PathState.zero := rfl
@[simp] theorem Channel.restart_cond (ch : Channel) : ch.restart.cond = Condition.reset := rfl
@[simp] theorem Channel.restart_holdValue (ch : Channel) : ch.restart.holdValue = ch.holdValue := rfl
@[simp] theorem Channel.restart_slice (ch : Channel) : ch.restart.slice = none := rfl
@[simp] theorem Window.markMembership_limit (w : Window) (b : Bool) : (w.markMembership b).limit = w.limit := rfl
@[simp] theorem Window.markMembership_period (w : Window) (b : Bool) : (w.markMembership b).period = w.period := rfl
@[simp] theorem Window.markMembership_flag (w : Window) (b : Bool) :
    (w.markMembership b).flags.membership = (w.flags.membership || b) := rfl

@[simp] theorem Window.told_trim (w : Window) (r : GroupSecond) :
    (w.told r).flags.trim = (w.flags.trim || decide (w.firstSecond ≤ r.second)) := rfl
@[simp] theorem Window.told_truncated (w : Window) (r : GroupSecond) : (w.told r).flags.truncated = w.flags.truncated := rfl
@[simp] theorem Window.told_limit (w : Window) (r : GroupSecond) : (w.told r).limit = w.limit := rfl
@[simp] theorem Window.told_expected (w : Window) (r : GroupSecond) : (w.told r).expected = w.expected := rfl

/-- A held record tells the windows, and moves nothing else. -/
theorem Group.windowRecord_held (gr : Group) (r : GroupSecond) (first : Bool) (h : r.position = none) :
    gr.windowRecord r first = { gr with
      openWindow := gr.openWindow.map (·.told r), dueWindows := gr.dueWindows.map (·.told r) } := by
  simp [Group.windowRecord, h]

/-- A group second record reaches the windows alone. -/
theorem Group.windowRecord_frame (gr : Group) (r : GroupSecond) (first : Bool) :
    gr.windowRecord r first = { gr with
      openWindow := (gr.windowRecord r first).openWindow, dueWindows := (gr.windowRecord r first).dueWindows } := by
  unfold Group.windowRecord
  split <;> rfl

@[simp] theorem Group.windowRecord_ring (gr : Group) (r : GroupSecond) (first : Bool) :
    (gr.windowRecord r first).ring = gr.ring := by rw [Group.windowRecord_frame]
@[simp] theorem Group.windowRecord_forming (gr : Group) (r : GroupSecond) (first : Bool) :
    (gr.windowRecord r first).forming = gr.forming := by rw [Group.windowRecord_frame]
@[simp] theorem Group.windowRecord_alertLevel (gr : Group) (r : GroupSecond) (first : Bool) :
    (gr.windowRecord r first).alertLevel = gr.alertLevel := by rw [Group.windowRecord_frame]
@[simp] theorem Group.windowRecord_alertOn (gr : Group) (r : GroupSecond) (first : Bool) :
    (gr.windowRecord r first).alertOn = gr.alertOn := by rw [Group.windowRecord_frame]
@[simp] theorem Group.windowRecord_alertAtClose (gr : Group) (r : GroupSecond) (first : Bool) :
    (gr.windowRecord r first).alertAtClose = gr.alertAtClose := by rw [Group.windowRecord_frame]

/-! ### The alert as the last second close left it: only a close and the group's disabling move it -/

@[simp] theorem Group.takeSlice_alertAtClose (gr : Group) (e : GroupEntry) (x : GroupSlice) (ad : List Admitted) :
    (gr.takeSlice e x ad).alertAtClose = gr.alertAtClose := rfl
@[simp] theorem Group.immediate_alertAtClose (gr : Group) (g : Grp) (run covered : Bool) (x : GroupSlice) :
    (gr.immediate g run covered x).1.alertAtClose = gr.alertAtClose := by
  unfold Group.immediate
  split <;> rfl
@[simp] theorem Group.handLimit_alertAtClose (gr : Group) (g : Grp) (l : Option LimitRecord) (p : Option Per) (n : Nat) :
    (gr.handLimit g l p n).1.alertAtClose = gr.alertAtClose := by
  simp only [Group.handLimit]
  split <;> rfl
@[simp] theorem Group.enterRun_alertAtClose (gr : Group) (g : Grp) (enabled : Bool) (active : Schedule) (p : Pos) (n : Nat) :
    (gr.enterRun g enabled active p n).alertAtClose = gr.alertAtClose := rfl
@[simp] theorem Group.openSecond_alertAtClose (gr : Group) (was now membership : Bool) :
    (gr.openSecond was now membership).alertAtClose = (gr.alertAtClose && !(was && !now)) := rfl

end Sys2Proof.Machine
end

