-- ==== Sys2Proof/Laws/Ops.lean ====
section
/-! SUPPORT. What the shared operations can do: which fields each leaves alone, and for each that has cases one lemma that
says all of them. -/

namespace Sys2Proof.Machine

variable (s : State)

/-! ### Bytes -/

@[simp] theorem beBytes_length (w n : Nat) : (beBytes w n).length = w := by
  induction w with
  | zero => rfl
  | succ w ih => simp [beBytes, ih]
@[simp] theorem levelBytes_length (l : Option Level) : (levelBytes l).length = 2 := beBytes_length ..
@[simp] theorem flagBytes_length (w : Nat) (flags : List Bool) : (flagBytes w flags).length = w := beBytes_length ..

/-- Past the bytes of a number nothing of it is left. -/
theorem beBytes_drop {w k : Nat} (n : Nat) (h : w ≤ k) : (beBytes w n).drop k = [] :=
  List.drop_of_length_le (by simpa using h)

/-! ### Notices -/

/-- Offering a notice either enters one cell and clears the discard flag, or changes nothing (R163, R167). -/
theorem State.notify_cases (n : Nat) (code : Byte) (p : List Byte) :
    (s.trunk.noticeRoom n = true ∧ s.notify n code p =
      { s with trunk := { s.trunk with
          out := s.trunk.out ++ [{ notice := true, bytes := outBytes s.control.node false code 0 .ok (statusHeader s none) p }]
          discard := false } })
    ∨ (s.trunk.noticeRoom n = false ∧ s.notify n code p = s) := by
  unfold State.notify
  split
  · exact .inl ⟨‹_›, rfl⟩
  · exact .inr ⟨Bool.eq_false_iff.mpr ‹_›, rfl⟩

@[simp] theorem State.notify_time (n : Nat) (code : Byte) (p : List Byte) :
    (s.notify n code p).time = s.time := by
  unfold State.notify; split <;> rfl
@[simp] theorem State.notify_router (n : Nat) (code : Byte) (p : List Byte) :
    (s.notify n code p).router = s.router := by
  unfold State.notify; split <;> rfl
@[simp] theorem State.notify_coefs (n : Nat) (code : Byte) (p : List Byte) :
    (s.notify n code p).coefs = s.coefs := by
  unfold State.notify; split <;> rfl
@[simp] theorem State.notify_channels (n : Nat) (code : Byte) (p : List Byte) :
    (s.notify n code p).channels = s.channels := by
  unfold State.notify; split <;> rfl
@[simp] theorem State.notify_groups (n : Nat) (code : Byte) (p : List Byte) :
    (s.notify n code p).groups = s.groups := by
  unfold State.notify; split <;> rfl
@[simp] theorem State.notify_schedules (n : Nat) (code : Byte) (p : List Byte) :
    (s.notify n code p).schedules = s.schedules := by
  unfold State.notify; split <;> rfl
@[simp] theorem State.notify_exclusions (n : Nat) (code : Byte) (p : List Byte) :
    (s.notify n code p).exclusions = s.exclusions := by
  unfold State.notify; split <;> rfl
@[simp] theorem State.notify_check (n : Nat) (code : Byte) (p : List Byte) :
    (s.notify n code p).check = s.check := by
  unfold State.notify; split <;> rfl
@[simp] theorem State.notify_results (n : Nat) (code : Byte) (p : List Byte) :
    (s.notify n code p).results = s.results := by
  unfold State.notify; split <;> rfl
@[simp] theorem State.notify_events (n : Nat) (code : Byte) (p : List Byte) :
    (s.notify n code p).events = s.events := by
  unfold State.notify; split <;> rfl
@[simp] theorem State.notify_control (n : Nat) (code : Byte) (p : List Byte) :
    (s.notify n code p).control = s.control := by
  unfold State.notify; split <;> rfl
@[simp] theorem State.notify_choices (n : Nat) (code : Byte) (p : List Byte) :
    (s.notify n code p).choices = s.choices := by
  unfold State.notify; split <;> rfl
@[simp] theorem State.notify_pending (n : Nat) (code : Byte) (p : List Byte) :
    (s.notify n code p).pending = s.pending := by
  unfold State.notify; split <;> rfl

/-! ### Results and events -/

/-- Storing a result enters it in the ring (R150). -/
@[simp] theorem State.storeResult_results (n : Nat) (r : WindowResult) :
    (s.storeResult n r).results = s.results.enter r := by simp [State.storeResult]

@[simp] theorem State.storeResult_time (n : Nat) (r : WindowResult) :
    (s.storeResult n r).time = s.time := by
  simp [State.storeResult]
@[simp] theorem State.storeResult_router (n : Nat) (r : WindowResult) :
    (s.storeResult n r).router = s.router := by
  simp [State.storeResult]
@[simp] theorem State.storeResult_coefs (n : Nat) (r : WindowResult) :
    (s.storeResult n r).coefs = s.coefs := by
  simp [State.storeResult]
@[simp] theorem State.storeResult_channels (n : Nat) (r : WindowResult) :
    (s.storeResult n r).channels = s.channels := by
  simp [State.storeResult]
@[simp] theorem State.storeResult_groups (n : Nat) (r : WindowResult) :
    (s.storeResult n r).groups = s.groups := by
  simp [State.storeResult]
@[simp] theorem State.storeResult_schedules (n : Nat) (r : WindowResult) :
    (s.storeResult n r).schedules = s.schedules := by
  simp [State.storeResult]
@[simp] theorem State.storeResult_exclusions (n : Nat) (r : WindowResult) :
    (s.storeResult n r).exclusions = s.exclusions := by
  simp [State.storeResult]
@[simp] theorem State.storeResult_check (n : Nat) (r : WindowResult) :
    (s.storeResult n r).check = s.check := by
  simp [State.storeResult]
@[simp] theorem State.storeResult_events (n : Nat) (r : WindowResult) :
    (s.storeResult n r).events = s.events := by
  simp [State.storeResult]
@[simp] theorem State.storeResult_control (n : Nat) (r : WindowResult) :
    (s.storeResult n r).control = s.control := by
  simp [State.storeResult]
@[simp] theorem State.storeResult_choices (n : Nat) (r : WindowResult) :
    (s.storeResult n r).choices = s.choices := by
  simp [State.storeResult]
@[simp] theorem State.storeResult_pending (n : Nat) (r : WindowResult) :
    (s.storeResult n r).pending = s.pending := by
  simp [State.storeResult]

/-- Storing an event enters it where there is room, and else raises the newest record's lost-after count (R155). -/
theorem State.storeEvent_events (n : Nat) (e : Event) :
    (s.storeEvent n e).events =
      if s.events.queue.length < 64 then
        { queue := s.events.queue ++ [{ sequence := s.events.next, event := e, lostAfter := 0 }]
          next := (s.events.next + 1) % 65536 }
      else { s.events with queue := raiseNewest s.events.queue } := by
  unfold State.storeEvent; split <;> simp

@[simp] theorem State.storeEvent_time (n : Nat) (e : Event) :
    (s.storeEvent n e).time = s.time := by
  unfold State.storeEvent; split <;> simp
@[simp] theorem State.storeEvent_router (n : Nat) (e : Event) :
    (s.storeEvent n e).router = s.router := by
  unfold State.storeEvent; split <;> simp
@[simp] theorem State.storeEvent_coefs (n : Nat) (e : Event) :
    (s.storeEvent n e).coefs = s.coefs := by
  unfold State.storeEvent; split <;> simp
@[simp] theorem State.storeEvent_channels (n : Nat) (e : Event) :
    (s.storeEvent n e).channels = s.channels := by
  unfold State.storeEvent; split <;> simp
@[simp] theorem State.storeEvent_groups (n : Nat) (e : Event) :
    (s.storeEvent n e).groups = s.groups := by
  unfold State.storeEvent; split <;> simp
@[simp] theorem State.storeEvent_schedules (n : Nat) (e : Event) :
    (s.storeEvent n e).schedules = s.schedules := by
  unfold State.storeEvent; split <;> simp
@[simp] theorem State.storeEvent_exclusions (n : Nat) (e : Event) :
    (s.storeEvent n e).exclusions = s.exclusions := by
  unfold State.storeEvent; split <;> simp
@[simp] theorem State.storeEvent_check (n : Nat) (e : Event) :
    (s.storeEvent n e).check = s.check := by
  unfold State.storeEvent; split <;> simp
@[simp] theorem State.storeEvent_results (n : Nat) (e : Event) :
    (s.storeEvent n e).results = s.results := by
  unfold State.storeEvent; split <;> simp
@[simp] theorem State.storeEvent_control (n : Nat) (e : Event) :
    (s.storeEvent n e).control = s.control := by
  unfold State.storeEvent; split <;> simp
@[simp] theorem State.storeEvent_choices (n : Nat) (e : Event) :
    (s.storeEvent n e).choices = s.choices := by
  unfold State.storeEvent; split <;> simp
@[simp] theorem State.storeEvent_pending (n : Nat) (e : Event) :
    (s.storeEvent n e).pending = s.pending := by
  unfold State.storeEvent; split <;> simp

@[simp] theorem State.emitOne_time (n : Nat) (e : Emission) : (State.emitOne n s e).time = s.time := by
  cases e <;> simp [State.emitOne]
@[simp] theorem State.emitOne_router (n : Nat) (e : Emission) : (State.emitOne n s e).router = s.router := by
  cases e <;> simp [State.emitOne]
@[simp] theorem State.emitOne_coefs (n : Nat) (e : Emission) : (State.emitOne n s e).coefs = s.coefs := by
  cases e <;> simp [State.emitOne]
@[simp] theorem State.emitOne_channels (n : Nat) (e : Emission) : (State.emitOne n s e).channels = s.channels := by
  cases e <;> simp [State.emitOne]
@[simp] theorem State.emitOne_groups (n : Nat) (e : Emission) : (State.emitOne n s e).groups = s.groups := by
  cases e <;> simp [State.emitOne]
@[simp] theorem State.emitOne_schedules (n : Nat) (e : Emission) : (State.emitOne n s e).schedules = s.schedules := by
  cases e <;> simp [State.emitOne]
@[simp] theorem State.emitOne_exclusions (n : Nat) (e : Emission) : (State.emitOne n s e).exclusions = s.exclusions := by
  cases e <;> simp [State.emitOne]
@[simp] theorem State.emitOne_check (n : Nat) (e : Emission) : (State.emitOne n s e).check = s.check := by
  cases e <;> simp [State.emitOne]
@[simp] theorem State.emitOne_control (n : Nat) (e : Emission) : (State.emitOne n s e).control = s.control := by
  cases e <;> simp [State.emitOne]
@[simp] theorem State.emitOne_choices (n : Nat) (e : Emission) : (State.emitOne n s e).choices = s.choices := by
  cases e <;> simp [State.emitOne]
@[simp] theorem State.emitOne_pending (n : Nat) (e : Emission) : (State.emitOne n s e).pending = s.pending := by
  cases e <;> simp [State.emitOne]

@[simp] theorem State.emitAll_time (n : Nat) (l : List Emission) :
    (s.emitAll n l).time = s.time := by
  unfold State.emitAll; induction l generalizing s with
  | nil => rfl
  | cons e l ih => simp [ih]
@[simp] theorem State.emitAll_router (n : Nat) (l : List Emission) :
    (s.emitAll n l).router = s.router := by
  unfold State.emitAll; induction l generalizing s with
  | nil => rfl
  | cons e l ih => simp [ih]
@[simp] theorem State.emitAll_coefs (n : Nat) (l : List Emission) :
    (s.emitAll n l).coefs = s.coefs := by
  unfold State.emitAll; induction l generalizing s with
  | nil => rfl
  | cons e l ih => simp [ih]
@[simp] theorem State.emitAll_channels (n : Nat) (l : List Emission) :
    (s.emitAll n l).channels = s.channels := by
  unfold State.emitAll; induction l generalizing s with
  | nil => rfl
  | cons e l ih => simp [ih]
@[simp] theorem State.emitAll_groups (n : Nat) (l : List Emission) :
    (s.emitAll n l).groups = s.groups := by
  unfold State.emitAll; induction l generalizing s with
  | nil => rfl
  | cons e l ih => simp [ih]
@[simp] theorem State.emitAll_schedules (n : Nat) (l : List Emission) :
    (s.emitAll n l).schedules = s.schedules := by
  unfold State.emitAll; induction l generalizing s with
  | nil => rfl
  | cons e l ih => simp [ih]
@[simp] theorem State.emitAll_exclusions (n : Nat) (l : List Emission) :
    (s.emitAll n l).exclusions = s.exclusions := by
  unfold State.emitAll; induction l generalizing s with
  | nil => rfl
  | cons e l ih => simp [ih]
@[simp] theorem State.emitAll_check (n : Nat) (l : List Emission) :
    (s.emitAll n l).check = s.check := by
  unfold State.emitAll; induction l generalizing s with
  | nil => rfl
  | cons e l ih => simp [ih]
@[simp] theorem State.emitAll_control (n : Nat) (l : List Emission) :
    (s.emitAll n l).control = s.control := by
  unfold State.emitAll; induction l generalizing s with
  | nil => rfl
  | cons e l ih => simp [ih]
@[simp] theorem State.emitAll_choices (n : Nat) (l : List Emission) :
    (s.emitAll n l).choices = s.choices := by
  unfold State.emitAll; induction l generalizing s with
  | nil => rfl
  | cons e l ih => simp [ih]
@[simp] theorem State.emitAll_pending (n : Nat) (l : List Emission) :
    (s.emitAll n l).pending = s.pending := by
  unfold State.emitAll; induction l generalizing s with
  | nil => rfl
  | cons e l ih => simp [ih]

/-- Handing over no record changes nothing. -/
@[simp] theorem State.emit_nil (n : Nat) : s.emit n [] = s := rfl

/-- Handing over one chain stores its records in order. -/
theorem State.emit_single (n : Nat) (l : List Emission) : s.emit n [l] = s.emitAll n l := by
  cases l <;> rfl

/-- Handing over records stores some list of them in order, and may draw a free order. -/
theorem State.emit_cases (n : Nat) (chains : Chains) :
    ∃ l k, s.emit n chains = { s.emitAll n l with choices := s.choices + k } := by
  unfold State.emit
  split
  · exact ⟨[], 0, rfl⟩
  · rename_i l _
    refine ⟨l, 0, ?_⟩
    have h := s.emitAll_choices n l
    generalize s.emitAll n l = t at h
    cases t
    simp_all
  · exact ⟨_, 1, rfl⟩

@[simp] theorem State.emit_time (n : Nat) (l : Chains) :
    (s.emit n l).time = s.time := by
  obtain ⟨_, _, h⟩ := s.emit_cases n l; simp [h]
@[simp] theorem State.emit_router (n : Nat) (l : Chains) :
    (s.emit n l).router = s.router := by
  obtain ⟨_, _, h⟩ := s.emit_cases n l; simp [h]
@[simp] theorem State.emit_coefs (n : Nat) (l : Chains) :
    (s.emit n l).coefs = s.coefs := by
  obtain ⟨_, _, h⟩ := s.emit_cases n l; simp [h]
@[simp] theorem State.emit_channels (n : Nat) (l : Chains) :
    (s.emit n l).channels = s.channels := by
  obtain ⟨_, _, h⟩ := s.emit_cases n l; simp [h]
@[simp] theorem State.emit_groups (n : Nat) (l : Chains) :
    (s.emit n l).groups = s.groups := by
  obtain ⟨_, _, h⟩ := s.emit_cases n l; simp [h]
@[simp] theorem State.emit_schedules (n : Nat) (l : Chains) :
    (s.emit n l).schedules = s.schedules := by
  obtain ⟨_, _, h⟩ := s.emit_cases n l; simp [h]
@[simp] theorem State.emit_exclusions (n : Nat) (l : Chains) :
    (s.emit n l).exclusions = s.exclusions := by
  obtain ⟨_, _, h⟩ := s.emit_cases n l; simp [h]
@[simp] theorem State.emit_check (n : Nat) (l : Chains) :
    (s.emit n l).check = s.check := by
  obtain ⟨_, _, h⟩ := s.emit_cases n l; simp [h]
@[simp] theorem State.emit_control (n : Nat) (l : Chains) :
    (s.emit n l).control = s.control := by
  obtain ⟨_, _, h⟩ := s.emit_cases n l; simp [h]
@[simp] theorem State.emit_pending (n : Nat) (l : Chains) :
    (s.emit n l).pending = s.pending := by
  obtain ⟨_, _, h⟩ := s.emit_cases n l; simp [h]

/-! ### A taken request -/

/-- A request sent to this node with a place for its answer: its rule acts, its records are handed over with that place
kept, and its answer is formed last (R163, R180). -/
theorem State.serve_addressed (code : Byte) (w b : Bool) (r : Request) (rule : State → Reply) (hb : r.broadcast = false)
    (ho : s.trunk.out.length < 8) :
    s.serve code w b r rule =
      ((rule s).state.emit 1 (rule s).chains).answer w code r.tag (rule s).code (rule s).payload := by
  simp [State.serve, Trunk.answerRoom, hb, ho]

/-- A request sent to this node without a place for its answer is faulted OVERRUN, with no other effect (R163, R165). -/
theorem State.serve_overrun (code : Byte) (w b : Bool) (r : Request) (rule : State → Reply) (hb : r.broadcast = false)
    (ho : 8 ≤ s.trunk.out.length) : s.serve code w b r rule = s.cellFault .overrun := by
  have h : ¬ s.trunk.out.length < 8 := by omega
  simp [State.serve, Trunk.answerRoom, hb, h]

/-- A broadcast request that is ignored (R180). -/
theorem State.serve_ignored (code : Byte) (w : Bool) (r : Request) (rule : State → Reply) (hb : r.broadcast = true) :
    s.serve code w false r rule = s := by
  simp [State.serve, hb]

/-- A broadcast request that is acted on, and not answered (R180). -/
theorem State.serve_broadcast (code : Byte) (w : Bool) (r : Request) (rule : State → Reply) (hb : r.broadcast = true) :
    s.serve code w true r rule = (rule s).state.emit 0 (rule s).chains := by
  simp [State.serve, hb]

/-! ### The end of a check, and the arbiter -/

@[simp] theorem State.endCheck_time (r : CheckReason) :
    (s.endCheck r).time = s.time := by
  unfold State.endCheck; dsimp only; split <;> rfl
@[simp] theorem State.endCheck_router (r : CheckReason) :
    (s.endCheck r).router = s.router := by
  unfold State.endCheck; dsimp only; split <;> rfl
@[simp] theorem State.endCheck_coefs (r : CheckReason) :
    (s.endCheck r).coefs = s.coefs := by
  unfold State.endCheck; dsimp only; split <;> rfl
@[simp] theorem State.endCheck_groups (r : CheckReason) :
    (s.endCheck r).groups = s.groups := by
  unfold State.endCheck; dsimp only; split <;> rfl
@[simp] theorem State.endCheck_schedules (r : CheckReason) :
    (s.endCheck r).schedules = s.schedules := by
  unfold State.endCheck; dsimp only; split <;> rfl
@[simp] theorem State.endCheck_exclusions (r : CheckReason) :
    (s.endCheck r).exclusions = s.exclusions := by
  unfold State.endCheck; dsimp only; split <;> rfl
@[simp] theorem State.endCheck_results (r : CheckReason) :
    (s.endCheck r).results = s.results := by
  unfold State.endCheck; dsimp only; split <;> rfl
@[simp] theorem State.endCheck_events (r : CheckReason) :
    (s.endCheck r).events = s.events := by
  unfold State.endCheck; dsimp only; split <;> rfl
@[simp] theorem State.endCheck_control (r : CheckReason) :
    (s.endCheck r).control = s.control := by
  unfold State.endCheck; dsimp only; split <;> rfl
@[simp] theorem State.endCheck_choices (r : CheckReason) :
    (s.endCheck r).choices = s.choices := by
  unfold State.endCheck; dsimp only; split <;> rfl
@[simp] theorem State.endCheck_pending (r : CheckReason) :
    (s.endCheck r).pending = s.pending := by
  unfold State.endCheck; dsimp only; split <;> rfl

@[simp] theorem State.arbitrate_time (o : Order) (b : Bool) (h : Vector Nat 8) :
    (s.arbitrate o b h).time = s.time := rfl
@[simp] theorem State.arbitrate_router (o : Order) (b : Bool) (h : Vector Nat 8) :
    (s.arbitrate o b h).router = s.router := rfl
@[simp] theorem State.arbitrate_coefs (o : Order) (b : Bool) (h : Vector Nat 8) :
    (s.arbitrate o b h).coefs = s.coefs := rfl
@[simp] theorem State.arbitrate_groups (o : Order) (b : Bool) (h : Vector Nat 8) :
    (s.arbitrate o b h).groups = s.groups := rfl
@[simp] theorem State.arbitrate_schedules (o : Order) (b : Bool) (h : Vector Nat 8) :
    (s.arbitrate o b h).schedules = s.schedules := rfl
@[simp] theorem State.arbitrate_exclusions (o : Order) (b : Bool) (h : Vector Nat 8) :
    (s.arbitrate o b h).exclusions = s.exclusions := rfl
@[simp] theorem State.arbitrate_results (o : Order) (b : Bool) (h : Vector Nat 8) :
    (s.arbitrate o b h).results = s.results := rfl
@[simp] theorem State.arbitrate_events (o : Order) (b : Bool) (h : Vector Nat 8) :
    (s.arbitrate o b h).events = s.events := rfl
@[simp] theorem State.arbitrate_trunk (o : Order) (b : Bool) (h : Vector Nat 8) :
    (s.arbitrate o b h).trunk = s.trunk := rfl
@[simp] theorem State.arbitrate_control (o : Order) (b : Bool) (h : Vector Nat 8) :
    (s.arbitrate o b h).control = s.control := rfl
@[simp] theorem State.arbitrate_choices (o : Order) (b : Bool) (h : Vector Nat 8) :
    (s.arbitrate o b h).choices = s.choices := rfl
@[simp] theorem State.arbitrate_pending (o : Order) (b : Bool) (h : Vector Nat 8) :
    (s.arbitrate o b h).pending = s.pending := rfl

/-! ### Free orders -/

/-- A two-way order gives one of its two outcomes. -/
theorem either_cases {α : Type} [DecidableEq α] (yes : Bool) (a b : α) : either yes a b = a ∨ either yes a b = b := by
  unfold either; split
  · exact .inl rfl
  · cases yes <;> simp

/-- Taking a head takes one record out of the chains and leaves none of them empty. -/
theorem takeChain_spec {α : Type} : ∀ (k : Nat) (chains : List (List α)), k < chains.length → (∀ c ∈ chains, c ≠ []) →
    ∃ x rest, takeChain k chains = (some x, rest) ∧ (x :: rest.flatten).Perm chains.flatten ∧ ∀ c ∈ rest, c ≠ []
  | _, [], h, _ => absurd h (Nat.not_lt_zero _)
  | _, [] :: _, _, hn => absurd rfl (hn [] (by simp))
  | 0, (x :: xs) :: rest, _, hn => by
    have hr : ∀ c ∈ rest, c ≠ [] := fun c hc => hn c (by simp [hc])
    cases xs with
    | nil => exact ⟨x, rest, rfl, by simp, hr⟩
    | cons y ys => exact ⟨x, (y :: ys) :: rest, rfl, by simp, by simpa using hr⟩
  | k + 1, (y :: ys) :: rest, h, hn => by
    obtain ⟨x, l, he, hp, hl⟩ := takeChain_spec k rest (by simpa using h) fun c hc => hn c (by simp [hc])
    refine ⟨x, (y :: ys) :: l, by simp [takeChain, he], ?_, by simpa using hl⟩
    simpa using (List.perm_middle (a := x) (l₁ := y :: ys) (l₂ := l.flatten)).symm.trans (hp.append_left (y :: ys))

/-- Interleaving hands over every record of the chains once. -/
theorem interleave_perm {α : Type} : ∀ (fuel : Nat) (keys : List Nat) (chains : List (List α)),
    chains.flatten.length ≤ fuel → (∀ c ∈ chains, c ≠ []) → (interleave fuel keys chains).Perm chains.flatten
  | 0, _, chains, h, hn => by
    cases chains with
    | nil => simp [interleave]
    | cons c l => exact absurd (by simp at h; exact h.1) (hn c (by simp))
  | _ + 1, _, [], _, _ => by simp [interleave]
  | _ + 1, _, [c], _, _ => by simp [interleave]
  | fuel + 1, keys, c :: d :: l, h, hn => by
    obtain ⟨x, rest, he, hp, hr⟩ := takeChain_spec (keys.headD 0 % (c :: d :: l).length) (c :: d :: l)
      (Nat.mod_lt _ (by simp)) hn
    have hl := hp.length_eq
    simp only [interleave, he, Option.toList_some, List.singleton_append]
    exact ((interleave_perm fuel keys.tail rest (by simp only [List.length_cons] at hl; omega) hr).cons x).trans hp

/-- The records of a step are handed over each once, whatever order is drawn (R150, R155). -/
theorem handOver_perm (o : Order) (chains : Chains) : (handOver o chains).Perm chains.flatten := by
  have hf : ∀ l : Chains, (l.filter fun c => !c.isEmpty).flatten = l.flatten := by
    intro l; induction l with
    | nil => rfl
    | cons c l ih => cases c <;> simp [ih]
  rw [← hf chains]
  exact interleave_perm _ _ _ (by simp [List.length_flatten]) (by simp)

/-! ### Events handed over -/

/-- A lost event changes no event held (R155). -/
theorem raiseNewest_events (l : List EventRecord) : (raiseNewest l).map (·.event) = l.map (·.event) := by
  fun_induction raiseNewest l <;> simp_all

/-- A record handed over loses no event held, and an event handed over while there is room is held (R155). -/
theorem State.emitOne_events (s : State) (n : Nat) (e : Emission) :
    ∃ l, (State.emitOne n s e).events.queue.map (·.event) = s.events.queue.map (·.event) ++ l
      ∧ (s.events.queue.length < 64 → ∀ x, e = .event x → x ∈ l) := by
  have hs : ∀ x : Event, ∃ l, (s.storeEvent n x).events.queue.map (·.event) = s.events.queue.map (·.event) ++ l
      ∧ (s.events.queue.length < 64 → x ∈ l) := fun x => by
    rw [State.storeEvent_events]; split
    · exact ⟨[x], by simp, by simp⟩
    · exact ⟨[], by simp [raiseNewest_events], by simp_all⟩
  cases e with
  | event x => obtain ⟨l, h, hm⟩ := hs x; exact ⟨l, h, fun hq y hy => by cases hy; exact hm hq⟩
  | result r => exact ⟨[], by simp [State.emitOne], by simp⟩
  | exceeded g x => obtain ⟨l, h, _⟩ := hs { x with detail := s.results.newestOf g }; exact ⟨l, h, by simp⟩

/-- Every event handed over is held in the Event Queue afterwards, or the queue is full (R155). -/
theorem State.emitAll_raised (s : State) (n : Nat) (l : List Emission) (e : Event) (he : .event e ∈ l) :
    64 ≤ (s.emitAll n l).events.queue.length ∨ ∃ x ∈ (s.emitAll n l).events.queue, x.event = e := by
  have grow : ∀ (l : List Emission) (s : State), ∃ k,
      (s.emitAll n l).events.queue.map (·.event) = s.events.queue.map (·.event) ++ k := by
    intro l; induction l with
    | nil => exact fun s => ⟨[], by simp [State.emitAll]⟩
    | cons a l ih =>
      intro s
      obtain ⟨k, hk, _⟩ := State.emitOne_events s n a
      obtain ⟨j, hj⟩ := ih (State.emitOne n s a)
      exact ⟨k ++ j, by rw [← List.append_assoc, ← hk, ← hj]; rfl⟩
  induction l generalizing s with
  | nil => cases he
  | cons a l ih =>
    rcases List.mem_cons.mp he with rfl | h
    · obtain ⟨k, hk, hm⟩ := State.emitOne_events s n (.event e)
      obtain ⟨j, hj⟩ := grow l (State.emitOne n s (.event e))
      have hq : (s.emitAll n (.event e :: l)).events.queue.map (·.event) = s.events.queue.map (·.event) ++ (k ++ j) := by
        rw [← List.append_assoc, ← hk, ← hj]; rfl
      by_cases hl : s.events.queue.length < 64
      · refine .inr (List.mem_map.mp ?_)
        rw [hq]; simp [hm hl e rfl]
      · refine .inl ?_
        have := congrArg List.length hq
        simp at this; omega
    · exact ih (State.emitOne n s a) h

/-! ### The boundary -/

/-- What the close of a window consults at a second boundary: the entry of before or of after the activation, never the former
where the activation truncates the window; and rings of before the boundary, or as it leaves them with that entry in force
(R9, R14, R87, R89). -/
theorem State.backgroundAtBoundary_cases (s : State) (o : Order) (op : Opening) (rings : BoundaryRings) (g : Grp) (w : Window) :
    ∃ (e : GroupEntry) (ring : Chan → List RingEntry),
      ((e = op.router.active.groups[g] ∧ ((ring = fun c => s.channels[c].ring) ∨ ring = fun c => rings.after[c]))
        ∨ (e = s.router.active.groups[g]
          ∧ ¬(s.router.active.groups[g].enabled = true ∧ op.router.active.groups[g].enabled = false ∧ w.flags.truncated = true)
          ∧ ((ring = fun c => s.channels[c].ring) ∨ ring = fun c => rings.unactivated[c])))
      ∧ s.backgroundAtBoundary o op rings g w = (e.correction, backgroundLevel e ring) := by
  have ask : ∀ (e : GroupEntry) (l : Vector (List RingEntry) 16), ∃ ring : Chan → List RingEntry,
      ((ring = fun c => s.channels[c].ring) ∨ ring = fun c => l[c])
      ∧ either (o.yes (.requestBeforeEntry g)) (backgroundLevel e fun c => s.channels[c].ring)
          (backgroundLevel e fun c => l[c]) = backgroundLevel e ring := fun e l => by
    rcases either_cases (o.yes (.requestBeforeEntry g)) (backgroundLevel e fun c => s.channels[c].ring)
      (backgroundLevel e fun c => l[c]) with h | h
    · exact ⟨_, .inl rfl, h⟩
    · exact ⟨_, .inr rfl, h⟩
  obtain ⟨r, hr, hn⟩ := ask op.router.active.groups[g] rings.after
  obtain ⟨q, hq, ho⟩ := ask s.router.active.groups[g] rings.unactivated
  simp only [State.backgroundAtBoundary, hn, ho]
  split
  · exact ⟨_, r, .inl ⟨rfl, hr⟩, rfl⟩
  · rename_i hc
    rcases either_cases (o.yes (.closeBeforeActivation g))
      (s.router.active.groups[g].correction, backgroundLevel s.router.active.groups[g] q)
      (op.router.active.groups[g].correction, backgroundLevel op.router.active.groups[g] r) with h | h
    · exact ⟨_, q, .inr ⟨rfl, by simpa using hc, hq⟩, h⟩
    · exact ⟨_, r, .inl ⟨rfl, hr⟩, h⟩
@[simp] theorem State.boundary_pending (b : Bool) :
    (s.boundary b).pending = s.pending := by
  unfold State.boundary; dsimp only; split <;> simp [State.turnOver]

/-- A boundary draws one resolution of the free orders. -/
@[simp] theorem State.boundary_choices (b : Bool) : (s.boundary b).choices = s.choices + 1 := rfl

/-! ### The close of a group's second among the handed positions -/

/-- A due window waits for the record of a position that is its last, or inside it where it was truncated. -/
theorem Window.waitsFor_iff (w : Window) (p : Pos) (hp : p.second < 86400) : w.waitsFor p = true ↔
    (w.day = p.day ∧ w.start ≤ p.second ∧ p.second < w.stop)
      ∧ (w.stop = p.second + 1 ∨ w.flags.truncated = true) := by
  simp only [Window.waitsFor, Window.contains, Window.endsAt, Pos.next, Bool.and_eq_true, Bool.or_eq_true, beq_iff_eq,
    decide_eq_true_eq, and_assoc]
  refine and_congr_right fun hd => and_congr_right fun _ => and_congr_right fun _ => or_congr_left ?_
  split <;> simp only [hd, eq_self, true_and, and_true] <;> omega

/-- The close falls between two parts of the handed positions, and no position is reached between a skipped one that leaves
a window waiting for the ending second's record and the close. -/
theorem Group.turnSecond_cases (x : ReachContext) (close : Group → Group × List Emission) (p : Option Pos)
    (yes : Nat → Bool) : ∀ (reaches : List Reach) (k : Nat) (first : Bool) (gr : Group), ∃ before after,
      reaches = before ++ after
      ∧ Group.turnSecond x close p yes k first reaches gr =
        (let a := Group.reachList x first before gr
         let t := Group.closeThenReach x close (first && before.isEmpty) after a.1
         (t.1, a.2 ++ t.2))
      ∧ ∀ b r c, before = b ++ r :: c → c ≠ [] → r.handed.isSkipped = true →
          p.any (fun q => (Group.reachList x first (b ++ [r]) gr).1.dueWindows.any (·.waitsFor q)) = false
  | [], k, first, gr => ⟨[], [], rfl, by simp [Group.turnSecond, Group.reachList], by simp⟩
  | r :: rest, k, first, gr => by
    simp only [Group.turnSecond]
    generalize hc : Group.closeThenReach x close first (r :: rest) gr = now
    rcases either_cases (yes k) now _ with h | h <;> rw [h]
    · exact ⟨[], r :: rest, rfl, by simp [Group.reachList, hc], by simp⟩
    · split
      · refine ⟨[r], rest, rfl, by simp [Group.reachList], ?_⟩
        rintro (_ | ⟨b, bs⟩) r' c he hn
        · simp_all
        · simp at he
      · rename_i hw
        obtain ⟨before, after, he, ht, hb⟩ := Group.turnSecond_cases x close p yes rest (k + 1) false (gr.reach x r first).1
        refine ⟨r :: before, after, by simp [he], by simp [ht, Group.reachList], ?_⟩
        rintro (_ | ⟨b, bs⟩) r' c hl hn hs
        · simp only [List.nil_append, List.cons.injEq] at hl
          obtain ⟨rfl, -⟩ := hl
          simpa [hs, Group.reachList] using hw
        · simp only [List.cons_append, List.cons.injEq] at hl
          obtain ⟨rfl, hl⟩ := hl
          simpa [Group.reachList] using hb bs r' c hl hn hs

end Sys2Proof.Machine
end

