-- ==== Sys2Proof/WellFormed.lean ====
section
/-! DEFINITION. Well-formed commands: the operands that the rows of spec/opcode_table.json can carry. `exec` gives a
meaning to every command; these checks say which of them are instances of their row. -/

namespace Sys2Proof

/-- The memory holds at most 8,192 bytes (R188). -/
def MemoryRead.wf (m : MemoryRead) : Bool := decide (m.bytes.length ≤ 8192)

/-- A frame has a slot count of 0 to 64 and one sample for each slot (R159, R171). -/
def Frame.wf (f : Frame) : Bool := decide (f.count.toNat ≤ 64) && decide (f.samples.length = f.count.toNat)

/-- A whole control cell: four header bytes, a payload of the n bytes byte 3 gives, at most 48, and the check byte
(R172). -/
def wholeCell : Cell → Bool
  | a :: b :: c :: n :: rest => decide (n.toNat ≤ 48) && decide ((a :: b :: c :: n :: rest).length = n.toNat + 5)
  | _ => false

/-- A control cell of which some bytes are in and its last byte is not (R165). -/
def unfinishedCell : List Byte → Bool
  | [] => false
  | a :: b :: c :: n :: rest => decide (n.toNat ≤ 48) && decide ((a :: b :: c :: n :: rest).length < n.toNat + 5)
  | _ => true

/-- The bytes in when byte 3 says more than 48 payload bytes (R165). -/
def overlongCell : List Byte → Bool
  | [_, _, _, n] => decide (48 < n.toNat)
  | _ => false

/-- A request's payload has at most 48 bytes (R172). -/
def Request.wf (r : Request) : Bool := decide (r.payload.length ≤ 48)

/-- A request of a row that writes: its write flag is set (R175). -/
def Request.writes (r : Request) : Bool := r.wf && r.write

/-- A request of a row that reads: its write flag is clear (R175). -/
def Request.reads (r : Request) : Bool := r.wf && !r.write

/-- Whether a GROUP LIMIT request names the action remove in byte 3 (R95, R175). -/
def Request.removes (r : Request) : Bool := decide (r.payload[3]? = some 1)

/-- Whether a command is an instance of its row. -/
def Instr.wf : Instr → Bool
  | .powerOn _ => true
  | .bootLoadEnd m => m.wf
  | .sampleFrame f => f.wf
  | .framePeriod => true
  | .linkLoss => true
  | .linkRestoration => true
  | .sliceBoundary => true
  | .secondBoundary => true
  | .intervalTimerExpiry _ => true
  | .controlCell bytes => wholeCell bytes
  | .cellTimeout arrived _ => unfinishedCell arrived
  | .passThroughCell cell => !cell.isEmpty
  | .forwardCellWindow => true
  | .returnLaneSend => true
  | .unknownCommand code r => r.wf && (Machine.commandOf code).isNone
  | .identify r => r.wf
  | .status r => r.wf
  | .setMode r => r.wf
  | .setTime r => r.wf
  | .trimTime r => r.wf
  | .restart r => r.wf
  | .lock r => r.wf
  | .mapChannelWrite r => r.writes
  | .mapChannelRead r => r.reads
  | .mapGroupWrite r => r.writes
  | .mapGroupRead r => r.reads
  | .mapCommit r => r.wf
  | .coefSectionWrite r => r.writes
  | .coefSectionRead r => r.reads
  | .periodEntryWrite r => r.writes
  | .periodEntryRead r => r.reads
  | .groupLimitWrite r => r.writes && !r.removes
  | .groupLimitRemove r => r.writes && r.removes
  | .groupLimitRead r => r.reads
  | .scheduleCommit r => r.wf
  | .excludeAdd r => r.wf
  | .excludeEnd r => r.wf
  | .excludeClear r => r.wf
  | .excludeRead r => r.wf
  | .checkStart r => r.wf
  | .checkAbort r => r.wf
  | .checkRead r => r.wf
  | .checkSummary r => r.wf
  | .levelRead r => r.wf
  | .statsRead r => r.wf
  | .resultRead r => r.wf
  | .eventTake r => r.wf
  | .cellLengthFault arrived => overlongCell arrived

/-- The request a command carries, if its row is a command taken from a control cell (R175). -/
def Instr.request : Instr → Option Request
  | .powerOn _ => none
  | .bootLoadEnd _ => none
  | .sampleFrame _ => none
  | .framePeriod => none
  | .linkLoss => none
  | .linkRestoration => none
  | .sliceBoundary => none
  | .secondBoundary => none
  | .intervalTimerExpiry _ => none
  | .controlCell _ => none
  | .cellTimeout _ _ => none
  | .passThroughCell _ => none
  | .forwardCellWindow => none
  | .returnLaneSend => none
  | .unknownCommand _ r => some r
  | .identify r => some r
  | .status r => some r
  | .setMode r => some r
  | .setTime r => some r
  | .trimTime r => some r
  | .restart r => some r
  | .lock r => some r
  | .mapChannelWrite r => some r
  | .mapChannelRead r => some r
  | .mapGroupWrite r => some r
  | .mapGroupRead r => some r
  | .mapCommit r => some r
  | .coefSectionWrite r => some r
  | .coefSectionRead r => some r
  | .periodEntryWrite r => some r
  | .periodEntryRead r => some r
  | .groupLimitWrite r => some r
  | .groupLimitRemove r => some r
  | .groupLimitRead r => some r
  | .scheduleCommit r => some r
  | .excludeAdd r => some r
  | .excludeEnd r => some r
  | .excludeClear r => some r
  | .excludeRead r => some r
  | .checkStart r => some r
  | .checkAbort r => some r
  | .checkRead r => some r
  | .checkSummary r => some r
  | .levelRead r => some r
  | .statsRead r => some r
  | .resultRead r => some r
  | .eventTake r => some r
  | .cellLengthFault _ => none

end Sys2Proof
end

