-- ==== Sys2Proof/Laws/PerInstr.lean ====
section
/-! SUPPORT. Statements made for each command of the table by itself, one lemma a constructor: family `Table`, what a
well-formed command's request can be. -/

namespace Sys2Proof.Laws

/-- A well-formed command's request fits a control cell: at most 48 payload bytes (R172). -/
def Table.Statement (i : Instr) : Prop :=
  i.wf = true → ∀ r, i.request = some r → r.payload.length ≤ 48

/-- The payload bound of a request that is well formed. -/
theorem length_of_wf {r : Request} (h : r.wf = true) : r.payload.length ≤ 48 := by simpa [Request.wf] using h

/-- The payload bound of a well-formed request that writes. -/
theorem length_of_writes {r : Request} (h : r.writes = true) : r.payload.length ≤ 48 :=
  length_of_wf (Bool.and_eq_true_iff.1 h).1

/-- The payload bound of a well-formed request that reads. -/
theorem length_of_reads {r : Request} (h : r.reads = true) : r.payload.length ≤ 48 :=
  length_of_wf (Bool.and_eq_true_iff.1 h).1

theorem Table.powerOn (straps : Fin 4) : Table.Statement (.powerOn straps) :=
  fun _ _ hr => nomatch hr

theorem Table.bootLoadEnd (read : MemoryRead) : Table.Statement (.bootLoadEnd read) :=
  fun _ _ hr => nomatch hr

theorem Table.sampleFrame (frame : Frame) : Table.Statement (.sampleFrame frame) :=
  fun _ _ hr => nomatch hr

theorem Table.framePeriod : Table.Statement .framePeriod :=
  fun _ _ hr => nomatch hr

theorem Table.linkLoss : Table.Statement .linkLoss :=
  fun _ _ hr => nomatch hr

theorem Table.linkRestoration : Table.Statement .linkRestoration :=
  fun _ _ hr => nomatch hr

theorem Table.sliceBoundary : Table.Statement .sliceBoundary :=
  fun _ _ hr => nomatch hr

theorem Table.secondBoundary : Table.Statement .secondBoundary :=
  fun _ _ hr => nomatch hr

theorem Table.intervalTimerExpiry (channel : Chan) : Table.Statement (.intervalTimerExpiry channel) :=
  fun _ _ hr => nomatch hr

theorem Table.controlCell (bytes : Cell) : Table.Statement (.controlCell bytes) :=
  fun _ _ hr => nomatch hr

theorem Table.cellTimeout (arrived : List Byte) (startMark : Bool) : Table.Statement (.cellTimeout arrived startMark) :=
  fun _ _ hr => nomatch hr

theorem Table.passThroughCell (cell : Cell) : Table.Statement (.passThroughCell cell) :=
  fun _ _ hr => nomatch hr

theorem Table.forwardCellWindow : Table.Statement .forwardCellWindow :=
  fun _ _ hr => nomatch hr

theorem Table.returnLaneSend : Table.Statement .returnLaneSend :=
  fun _ _ hr => nomatch hr

theorem Table.unknownCommand (code : Byte) (request : Request) : Table.Statement (.unknownCommand code request) :=
  fun h r hr => by cases hr; exact length_of_wf (Bool.and_eq_true_iff.1 h).1

theorem Table.identify (request : Request) : Table.Statement (.identify request) :=
  fun h r hr => by cases hr; exact length_of_wf h

theorem Table.status (request : Request) : Table.Statement (.status request) :=
  fun h r hr => by cases hr; exact length_of_wf h

theorem Table.setMode (request : Request) : Table.Statement (.setMode request) :=
  fun h r hr => by cases hr; exact length_of_wf h

theorem Table.setTime (request : Request) : Table.Statement (.setTime request) :=
  fun h r hr => by cases hr; exact length_of_wf h

theorem Table.trimTime (request : Request) : Table.Statement (.trimTime request) :=
  fun h r hr => by cases hr; exact length_of_wf h

theorem Table.restart (request : Request) : Table.Statement (.restart request) :=
  fun h r hr => by cases hr; exact length_of_wf h

theorem Table.lock (request : Request) : Table.Statement (.lock request) :=
  fun h r hr => by cases hr; exact length_of_wf h

theorem Table.mapChannelWrite (request : Request) : Table.Statement (.mapChannelWrite request) :=
  fun h r hr => by cases hr; exact length_of_writes h

theorem Table.mapChannelRead (request : Request) : Table.Statement (.mapChannelRead request) :=
  fun h r hr => by cases hr; exact length_of_reads h

theorem Table.mapGroupWrite (request : Request) : Table.Statement (.mapGroupWrite request) :=
  fun h r hr => by cases hr; exact length_of_writes h

theorem Table.mapGroupRead (request : Request) : Table.Statement (.mapGroupRead request) :=
  fun h r hr => by cases hr; exact length_of_reads h

theorem Table.mapCommit (request : Request) : Table.Statement (.mapCommit request) :=
  fun h r hr => by cases hr; exact length_of_wf h

theorem Table.coefSectionWrite (request : Request) : Table.Statement (.coefSectionWrite request) :=
  fun h r hr => by cases hr; exact length_of_writes h

theorem Table.coefSectionRead (request : Request) : Table.Statement (.coefSectionRead request) :=
  fun h r hr => by cases hr; exact length_of_reads h

theorem Table.periodEntryWrite (request : Request) : Table.Statement (.periodEntryWrite request) :=
  fun h r hr => by cases hr; exact length_of_writes h

theorem Table.periodEntryRead (request : Request) : Table.Statement (.periodEntryRead request) :=
  fun h r hr => by cases hr; exact length_of_reads h

theorem Table.groupLimitWrite (request : Request) : Table.Statement (.groupLimitWrite request) :=
  fun h r hr => by cases hr; exact length_of_writes (Bool.and_eq_true_iff.1 h).1

theorem Table.groupLimitRemove (request : Request) : Table.Statement (.groupLimitRemove request) :=
  fun h r hr => by cases hr; exact length_of_writes (Bool.and_eq_true_iff.1 h).1

theorem Table.groupLimitRead (request : Request) : Table.Statement (.groupLimitRead request) :=
  fun h r hr => by cases hr; exact length_of_reads h

theorem Table.scheduleCommit (request : Request) : Table.Statement (.scheduleCommit request) :=
  fun h r hr => by cases hr; exact length_of_wf h

theorem Table.excludeAdd (request : Request) : Table.Statement (.excludeAdd request) :=
  fun h r hr => by cases hr; exact length_of_wf h

theorem Table.excludeEnd (request : Request) : Table.Statement (.excludeEnd request) :=
  fun h r hr => by cases hr; exact length_of_wf h

theorem Table.excludeClear (request : Request) : Table.Statement (.excludeClear request) :=
  fun h r hr => by cases hr; exact length_of_wf h

theorem Table.excludeRead (request : Request) : Table.Statement (.excludeRead request) :=
  fun h r hr => by cases hr; exact length_of_wf h

theorem Table.checkStart (request : Request) : Table.Statement (.checkStart request) :=
  fun h r hr => by cases hr; exact length_of_wf h

theorem Table.checkAbort (request : Request) : Table.Statement (.checkAbort request) :=
  fun h r hr => by cases hr; exact length_of_wf h

theorem Table.checkRead (request : Request) : Table.Statement (.checkRead request) :=
  fun h r hr => by cases hr; exact length_of_wf h

theorem Table.checkSummary (request : Request) : Table.Statement (.checkSummary request) :=
  fun h r hr => by cases hr; exact length_of_wf h

theorem Table.levelRead (request : Request) : Table.Statement (.levelRead request) :=
  fun h r hr => by cases hr; exact length_of_wf h

theorem Table.statsRead (request : Request) : Table.Statement (.statsRead request) :=
  fun h r hr => by cases hr; exact length_of_wf h

theorem Table.resultRead (request : Request) : Table.Statement (.resultRead request) :=
  fun h r hr => by cases hr; exact length_of_wf h

theorem Table.eventTake (request : Request) : Table.Statement (.eventTake request) :=
  fun h r hr => by cases hr; exact length_of_wf h

theorem Table.cellLengthFault (arrived : List Byte) : Table.Statement (.cellLengthFault arrived) :=
  fun _ _ hr => nomatch hr

end Sys2Proof.Laws
end

