-- ==== Sys2Proof/Tests/Slice0.lean ====
section
/-! SUPPORT. The model's own tests: terms that WellFormed refuses, states that meet the hypotheses of the obligations, and
small steps whose expected results the chapters of spec/ give or that are worked by hand from their rules. -/

namespace Sys2Proof.Tests

open Sys2Proof Sys2Proof.Machine

set_option Elab.async false

/-! ### States and operands the tests start from -/

/-- A request to this node that writes nothing. -/
def ask (p : List Byte) : Request := { broadcast := false, write := false, tag := 7, payload := p }

/-- A request to this node with the write flag set. -/
def tell (p : List Byte) : Request := { broadcast := false, write := true, tag := 7, payload := p }

/-- A request to the broadcast address. -/
def shout (p : List Byte) : Request := { broadcast := true, write := true, tag := 7, payload := p }

/-- Acknowledgements of a whole transaction, or of none of it. -/
def acks (b : Bool) : PortAcks := { deviceWrite := b, addressHigh := b, addressLow := b, deviceRead := b }

/-- The part at reset with its mode, link and clock as given. -/
def inMode (m : Mode) (l : Link) (clock : Bool) : State :=
  { State.reset with
    control := { State.reset.control with mode := m }
    time := { State.reset.time with link := l, startUp := decide (l = .holdOver), clockSet := clock } }

/-- CONFIG, LOCKED, the clock not set. -/
def config : State := inMode .config .locked false

/-- RUN, LOCKED, the clock set. -/
def running : State := inMode .run .locked true

/-- The default map with channel 0 enabled, as a member of the enabled group 0, with auto check. -/
def oneChannel : ChannelMap :=
  (ChannelMap.default.setChannel 0
    { ChannelEntry.default 0 with
      enabled := true, role := .member, group := some 0, autoCheck := true, sensitivity := 13000
      levelWeighting := .z, peakWeighting := .z, absentThreshold := 100, fillMode := .hold }).setGroup 0
    { GroupEntry.default with enabled := true }

/-- A slice in progress with data: 4,500 samples, and raw extremes 50 apart or 1,000 apart. -/
def dataSlice (st : ChannelState) (present : Bool) : Slice :=
  { Slice.opening st false false with n := 4500, rawMin := some 0, rawMax := some (if present then 1000 else 50) }

/-- A channel in a state, its slice in progress given. -/
def channelIn (st : ChannelState) (sl : Slice) : Channel :=
  { Channel.reset with
    cond := { Condition.reset with state := st }, slice := some sl, forming := some SecondForming.empty }

/-- A part with channel 0 active under `oneChannel`. -/
def withChannel (s : State) (ch : Channel) : State :=
  { s with router := { s.router with active := oneChannel }, channels := s.channels.set 0 ch }

/-- One live channel in RUN. -/
def live : State := withChannel running (channelIn .live (dataSlice .live true))

/-- A cell of the outgoing queue. -/
def someCell : OutCell := { notice := false, bytes := [0, 1, 2] }

/-- A part with a full outgoing queue. -/
def full (s : State) : State := { s with trunk := { s.trunk with out := List.replicate 8 someCell } }

/-- A schedule whose entry 0 covers every day, with limits for group 0, and whose other entries are default. -/
def oneEntry (e : PeriodEntry) : Schedule := Schedule.default.set 0 e

/-- An entry of every day from minute 420 to 1,140, in windows of 60 minutes. -/
def dayEntry : PeriodEntry :=
  { PeriodEntry.default with
    enabled := true, days := 127, startMinute := 420, endMinute := 1140
    limits := PeriodEntry.default.limits.set 0
      (some { leq := 6500, alert := some 7000, lmax := none, peak := none, penalty := 500, threshold := 1 }) }

/-- Whether a command on a state leaves a state with a property. -/
def leaves (c : Instr) (s : State) (p : State → Bool) : Bool :=
  match exec c s with
  | .next t => p t
  | _ => false

/-- The payload of the last cell entered in the outgoing queue, with its result code in front. -/
def lastAnswer (s : State) : List Byte :=
  match s.trunk.out.getLast? with
  | some c => (c.bytes.drop 4).take 1 ++ (c.bytes.drop 9).dropLast
  | none => []

/-! ### Ill-formed terms -/

theorem test_wf_memory : (Instr.bootLoadEnd { header := acks true, body := acks true, bytes := List.replicate 8193 0 }).wf
    = false := by decide +kernel
theorem test_wf_frame_count :
    (Instr.sampleFrame { count := 65, status := 0, samples := List.replicate 65 0, check := 0 }).wf = false := by decide
theorem test_wf_frame_samples :
    (Instr.sampleFrame { count := 2, status := 0, samples := [0], check := 0 }).wf = false := by decide
theorem test_wf_cell_long : (Instr.controlCell (requestCell 0 false 1 0 (List.replicate 49 0))).wf = false := by decide +kernel
theorem test_wf_cell_short : (Instr.controlCell [0, 1, 2, 1, 5]).wf = false := by decide
theorem test_wf_unfinished : (Instr.cellTimeout (requestCell 0 false 1 0 []) false).wf = false := by decide +kernel
theorem test_wf_overlong : (Instr.cellLengthFault [0, 1, 2, 48]).wf = false := by decide
theorem test_wf_pass_through : (Instr.passThroughCell []).wf = false := by decide
theorem test_wf_unknown : (Instr.unknownCommand 61 (ask [])).wf = false := by decide
theorem test_wf_payload : (Instr.status (ask (List.replicate 49 0))).wf = false := by decide
theorem test_wf_write_flag : (Instr.mapChannelWrite (ask [])).wf = false := by decide
theorem test_wf_read_flag : (Instr.mapChannelRead (tell [])).wf = false := by decide
theorem test_wf_remove : (Instr.groupLimitRemove (tell [0, 0, 0, 0])).wf = false := by decide
theorem test_wf_no_remove : (Instr.groupLimitWrite (tell [0, 0, 0, 1])).wf = false := by decide
theorem test_wf_well_formed : (Instr.groupLimitRemove (tell [0, 0, 0, 1])).wf = true := by decide

/-! ### The hypotheses of the obligations can be met -/

/-- Whether a step answers a next state. -/
def steps (s : State) : Bool :=
  match step s with
  | .next _ => true
  | _ => false

/-- An image of a body, its header's count as given. -/
def image (count : Byte) (body : List Byte) : MemoryRead :=
  { header := acks true, body := acks true
    bytes := beBytes 2 body.length ++ [1, count] ++ beBytes 2 (crc16 body).toNat ++ body }

/-- Images the part meets at the end of a load: no acknowledgement, a body of 8,187 bytes, a body without
acknowledgement, a check that does not match, and an empty image that passes. -/
def silentMemory : MemoryRead := { header := acks false, body := acks true, bytes := [] }
def longMemory : MemoryRead := { header := acks true, body := acks true, bytes := [0x1F, 0xFB, 0, 0, 0, 0] }
def brokenMemory : MemoryRead := { header := acks true, body := acks false, bytes := [0x1F, 0xFA, 0, 0, 0, 0] }
def spoiltMemory : MemoryRead := { header := acks true, body := acks true, bytes := [0, 0, 0, 0, 0, 0] }
def emptyMemory : MemoryRead := image 0 []

/-- A record that writes staged entry `i` from a minute to minute 1,080. -/
def periodRecord (i : Byte) (minute : Nat) : List Byte := [20, 9, 0, i, 0, 127] ++ beBytes 2 minute ++ [4, 0x38, 60]

/-- A record that enables channel 3 of bank A as a member of no group, and one of A section 0. -/
def lostRecord : List Byte :=
  [10, 24, 0, 3] ++ channelEntryBytes { ChannelEntry.default 3 with enabled := true, role := .member }
def coefRecord : List Byte := [13, 22] ++ coefBytes 0 CoefSet.passThrough

/-- How the records of an image's body are taken from power-on: the refused index, or the count with what bank A and the
staged schedule fail and whether A section 0 waits. -/
def taken (m : MemoryRead) : Nat ⊕ (Nat × Option TableFault × Option TableFault × Bool) :=
  match takeRecords (imageLength m + 1) (imageBody m) 0
      { bankA := State.reset.router.bankA, schedules := State.reset.schedules, coefs := State.reset.coefs } with
  | .error i => .inl i
  | .ok (w, n) => .inr (n, tableFault w.bankA, firstOverlap w.schedules.staged, w.coefs[0].waiting.isSome)

/-- The tests of the header and of the transfers are passed. -/
abbrev readWhole (m : MemoryRead) : Prop :=
  acknowledged m.header = true ∧ imageLength m ≤ 8186 ∧ acknowledged m.body = true
    ∧ (crc16 (imageBody m)).toNat = imageCheck m

theorem witness_BootLoadFollowsItsSteps :
    config.control.mode ≠ .boot ∧ State.reset.control.mode = .boot
    ∧ acknowledged silentMemory.header = false
    ∧ (acknowledged longMemory.header = true ∧ imageLength longMemory = 8187)
    ∧ (acknowledged brokenMemory.header = true ∧ imageLength brokenMemory = 8186 ∧ acknowledged brokenMemory.body = false)
    ∧ (acknowledged spoiltMemory.body = true ∧ (crc16 (imageBody spoiltMemory)).toNat ≠ imageCheck spoiltMemory)
    ∧ (readWhole (image 2 (periodRecord 0 0 ++ periodRecord 4 1080))
        ∧ taken (image 2 (periodRecord 0 0 ++ periodRecord 4 1080)) = .inl 1)
    ∧ (readWhole (image 2 (periodRecord 0 0)) ∧ taken (image 2 (periodRecord 0 0)) = .inr (1, none, none, false)
        ∧ imageCount (image 2 (periodRecord 0 0)) = 2)
    ∧ (readWhole (image 1 lostRecord) ∧ taken (image 1 lostRecord) = .inr (1, some (.memberNoGroup 3), none, false))
    ∧ (readWhole (image 2 (periodRecord 4 0 ++ periodRecord 5 0))
        ∧ taken (image 2 (periodRecord 4 0 ++ periodRecord 5 0)) = .inr (2, none, some (.overlap 4 5), false))
    ∧ (readWhole (image 2 (coefRecord ++ periodRecord 0 0))
        ∧ taken (image 2 (coefRecord ++ periodRecord 0 0)) = .inr (2, none, none, true)
        ∧ imageAutoRun (image 2 (coefRecord ++ periodRecord 0 0)) = true)
    ∧ (readWhole emptyMemory ∧ taken emptyMemory = .inr (0, none, none, false)) := by
  and_intros <;> decide +kernel

/-- Five coefficients at the ends of their range. -/
def extremeCoefs : CoefSet := { b0 := -2147483648, b1 := 2147483647, b2 := 0, a1 := -1, a2 := 1 }

/-- A limit record with one level absent, at the ends of its ranges. -/
def someLimit : LimitRecord := { leq := 19999, alert := some 0, lmax := none, peak := some 19999, penalty := 1000, threshold := 255 }

/-- A record that removes the limit record of group 7 from staged entry 4 in 4 bytes, short of the write form. -/
def removal : List Byte := [21, 4, 0, 4, 7, 1]

theorem witness_BootRecordsAreTakenInTurn :
    (periodRecord 4 1079).length = 2 + (9 : Byte).toNat
    ∧ (let t : BootTables := { bankA := ChannelMap.default, schedules := Schedules.reset, coefs := State.reset.coefs }
      (t.record 20 ((periodRecord 4 1079).drop 2)).isSome = true ∧ t.record 20 ((periodRecord 4 1080).drop 2) = none)
    ∧ (12 : Byte).toNat ∉ [10, 11, 13, 20, 21] ∧ ([0, 4] : List Byte).length < (3 : Byte).toNat
    ∧ (ChannelEntry.default 15).legal ∧ GroupEntry.default.legal ∧ extremeCoefs.legal ∧ dayEntry.legal ∧ someLimit.legal
    ∧ (10 : Byte) ≠ 13 ∧ (1 : Byte) ≠ 0 ∧ (List.replicate 12 (255 : Byte)).length = 12
    ∧ ((21 : Byte) = 21 ∧ (removal.drop 2).length ≠ 16) ∧ ((10 : Byte) = 10 ∧ (List.replicate 25 (0 : Byte)).length ≠ 24) := by
  decide +kernel

/-- An event record. -/
def someEvent : EventRecord := { sequence := 0, event := Event.plain 0 .linkLost .none, lostAfter := 0 }

/-- A part whose lock level and event count stand at the ends of their ranges. -/
def crowded : State :=
  { running with
    control := { running.control with lock := 2 }
    events := { queue := List.replicate 64 someEvent, next := 64 } }

/-- A part with `n` notices waiting. -/
def noticed (n : Nat) : State :=
  { running with trunk := { running.trunk with out := List.replicate n { someCell with notice := true } } }

theorem witness_AnswersAndNoticesCarryHeader :
    crowded.control.lock ≤ 2 ∧ crowded.events.queue.length ≤ 64 ∧ (List.replicate 255 (0 : Byte)).length ≤ 255
    ∧ ((noticed 5).trunk.out.length + 1 < 8 ∧ (noticed 5).trunk.out.countP (·.notice) < 6)
    ∧ (noticed 6).trunk.out.countP (·.notice) = 6 ∧ (full running).trunk.out.length = 8 ∧ running.events.queue.length < 64 := by
  decide +kernel

theorem witness_RequestsAreAnsweredOnce :
    (shout []).broadcast = true ∧ (ask []).broadcast = false ∧ 8 ≤ (full config).trunk.out.length
      ∧ Addressed (ask []) config ∧ commandOf 70 = none ∧ commandOf 62 = none := by decide +kernel

theorem witness_ArgumentsThenModeAreTested :
    Addressed (ask [2]) State.reset ∧ State.reset.control.mode = .boot
    ∧ readable .setMode (ask [2]) 0 = true
    ∧ (readable .setMode (ask [3]) 0 = false ∧ (ask [3]).payload.length = 1)
    ∧ (readable .groupLimit (tell (List.replicate 5 0)) 0 = false ∧ (tell (List.replicate 5 0)).payload.length ∉ [16])
    ∧ (ask [0]).payload.length ∉ [0] ∧ Command.setMode ≠ .identify ∧ Command.setMode ≠ .status ∧ Command.setMode ≠ .setTime
    ∧ Command.setMode ≠ .resultRead ∧ Command.setMode ≠ .eventTake := by decide +kernel

theorem witness_IdentifyAndStatusAnswer :
    Addressed (ask []) State.reset ∧ (ask []).payload = [] ∧ leaves .framePeriod State.reset (fun _ => true) = true
    ∧ leaves (.powerOn 3) running (fun _ => true) = true
    ∧ (ask [0]).payload = [0] ∧ (ask [1]).payload = [1] ∧ (ask [2]).payload = [2] ∧ 3 ≤ (3 : Byte).toNat := by
  decide +kernel

theorem witness_SetModeFollowsItsTable :
    Addressed (ask [3]) config ∧ (ask [3]).payload ≠ [1] ∧ (ask [3]).payload ≠ [2] ∧ (ask [2]).payload = [2]
      ∧ (ask [1]).payload = [1] := by decide +kernel

/-- A part in CONFIG, at 07:30 of day 0, with `dayEntry` active and group 0 enabled. -/
def scheduled : State :=
  { withChannel (inMode .config .locked true) (channelIn .live (dataSlice .live true)) with
    schedules := { Schedules.reset with active := oneEntry dayEntry }
    time := { (inMode .config .locked true).time with second := 27000 } }

/-- A schedule whose entry covers the first position of the day, not the last. -/
def early : Schedule := oneEntry { dayEntry with startMinute := 0, endMinute := 1 }

/-- The part in a held second after day 6, second-of-day 86,399: it waits at day 0, second-of-day 0. -/
def waitingAtMidnight : State :=
  { scheduled with
    schedules := { Schedules.reset with active := early }
    time := { scheduled.time with day := 6, second := 86399, held := true } }

theorem witness_EnteringRunOpensWindows :
    (scheduled.scheduleLaw ∧ scheduled.time.held = false ∧ scheduled.router.active.groups[(0 : Grp)].enabled = true
      ∧ scheduled.schedules.active[(0 : Per)].covers scheduled.time.here = true)
    ∧ (State.reset.scheduleLaw ∧ State.reset.router.active.groups[(0 : Grp)].enabled = false
      ∧ ∀ i : Per, State.reset.schedules.active[i].covers State.reset.time.here = false)
    ∧ (waitingAtMidnight.scheduleLaw ∧ waitingAtMidnight.time.held = true
      ∧ waitingAtMidnight.time.here.next = { day := 0, second := 0 }
      ∧ waitingAtMidnight.schedules.active[(0 : Per)].covers waitingAtMidnight.time.here.next = true
      ∧ waitingAtMidnight.schedules.active[(0 : Per)].covers waitingAtMidnight.time.here = false) := by decide +kernel

/-- A part in RUN with a window of group 0 open since 07:30. -/
def assessing : State := scheduled.enterRun

/-- A window of group 0 that holds eight slices at its limit of 65.00, and the same with an onset, whose penalty takes it above. -/
def atLimit (onsets : Nat) : Window :=
  { Window.opening dayEntry 0 0 { day := 0, second := 25200 } 0 with
    expected := 8, data := 8, onsets := onsets, sum := [(500, 8 * 10 ^ 6)] }

/-- The same part with one window of group 0 open and one due, and the alert of group 0 ON. -/
def leaving : State :=
  { assessing with groups := assessing.groups.set 0 { assessing.groups[0] with
      openWindow := some (atLimit 0), dueWindows := [atLimit 1], alertOn := true } }

theorem witness_LeavingRunClosesEveryWindow :
    Addressed (ask [1]) leaving ∧ (ask [1]).payload = [1] ∧ leaving.control.mode = .run ∧ leaving.control.lock < 2
      ∧ leaving.check.stage = .idle ∧ leaving.resultLaw
      ∧ ((List.finRange 8).map fun g : Grp =>
          (leaving.groups[g].dueWindows ++ leaving.groups[g].openWindow.toList).length).sum ≤ 512
      ∧ (atLimit 0 ∈ leaving.groups[(0 : Grp)].dueWindows ++ leaving.groups[(0 : Grp)].openWindow.toList
        ∧ ((atLimit 0).judge 0 false none 0).outcome = .compliant)
      ∧ (atLimit 1 ∈ leaving.groups[(0 : Grp)].dueWindows ++ leaving.groups[(0 : Grp)].openWindow.toList
        ∧ ((atLimit 1).judge 0 false none 0).outcome = .exceeded)
      ∧ leaving.groups[(0 : Grp)].alertOn = true ∧ leaving.groups[(1 : Grp)].alertOn = false
      ∧ leaving.router.active.groups[(0 : Grp)].correction = false := by
  decide +kernel

theorem witness_TimeCommandsMoveTheClock :
    ((6 : Nat) < 256 ∧ 86399 < 16777216 ∧ (ask ([6] ++ beBytes 3 86399)).payload = [BitVec.ofNat 8 6] ++ beBytes 3 86399
      ∧ Addressed (ask ([6] ++ beBytes 3 86399)) config ∧ (shout []).broadcast = true)
    ∧ (ask [0xFB]).payload = [0xFB] ∧ Addressed (ask [0xFB]) running ∧ (shout [4]).payload = [4]
      ∧ (shout [4]).broadcast = true := by decide +kernel

/-- RUN at lock level 2. -/
def sealed : State := { running with control := { running.control with lock := 2 } }

theorem witness_RestartClearsAndKeeps :
    (Addressed (ask []) State.reset ∧ State.reset.control.mode = .boot)
    ∧ (Addressed (ask []) sealed ∧ sealed.control.mode ≠ .boot ∧ 2 ≤ sealed.control.lock)
    ∧ (Addressed (ask []) live ∧ (ask []).payload = [] ∧ live.control.mode ≠ .boot ∧ live.control.lock < 2) := by
  decide +kernel

theorem witness_LockFollowsItsTable :
    Addressed (ask [2]) running ∧ (ask [2]).payload = [2] ∧ leaves (.powerOn 3) running (fun _ => true) = true
      ∧ leaves (.lock (ask [2])) running (fun _ => true) = true
      ∧ leaves .secondBoundary running (fun _ => true) = true := by decide +kernel

theorem witness_MapEntriesWriteAndReadBack :
    Addressed (tell ([0, 15] ++ channelEntryBytes (ChannelEntry.default 15))) config
      ∧ (ask [0, 15]).broadcast = false ∧ config.trunk.out.length < 7 ∧ config.control.mode ≠ .boot
      ∧ (ChannelEntry.default 15).legal ∧ GroupEntry.default.legal
      ∧ (tell ([0, 15] ++ channelEntryBytes (ChannelEntry.default 15))).payload
          = [BitVec.ofNat 8 (bankCode .a), BitVec.ofNat 8 15] ++ channelEntryBytes (ChannelEntry.default 15)
      ∧ (tell ([1, 7] ++ groupEntryBytes GroupEntry.default)).payload
          = [BitVec.ofNat 8 (bankCode .b), BitVec.ofNat 8 7] ++ groupEntryBytes GroupEntry.default
      ∧ (ask [2, 15]).payload = [2, BitVec.ofNat 8 (15 : Chan).val] ∧ (ask [3, 7]).payload = [3, BitVec.ofNat 8 (7 : Grp).val]
      ∧ config.router.pendingMap = none := by decide +kernel

/-- Entries with fields beyond their ranges, which a write clamps. -/
def looseChannel : ChannelEntry :=
  { ChannelEntry.default 3 with overloadCount := 0, checkInterval := 1441, tolerance := 9, sensitivity := 19999 }
def looseGroup : GroupEntry := { GroupEntry.default with alertWindow := 901, crestThreshold := 4001, impulseHold := 0 }
def looseLimit : List Byte := beBytes 2 19999 ++ beBytes 2 20000 ++ beBytes 2 65535 ++ beBytes 2 19999 ++ beBytes 2 1001 ++ [0]

theorem witness_TableWritesStoreLegalEntries :
    (Addressed (tell ([1, 3] ++ channelEntryBytes looseChannel)) config ∧ config.control.mode ≠ .boot)
    ∧ ((tell ([1, 3] ++ channelEntryBytes looseChannel)).payload
        = [BitVec.ofNat 8 (bankCode .b), BitVec.ofNat 8 (3 : Chan).val] ++ channelEntryBytes looseChannel
      ∧ legalLevel looseChannel.sensitivity ∧ looseChannel.absentThreshold ≤ 65535 ∧ looseChannel.overloadCount ≤ 255
      ∧ looseChannel.checkInterval ≤ 65535 ∧ legalLevel looseChannel.referenceResponse ∧ looseChannel.tolerance ≤ 65535
      ∧ legalLevel looseChannel.quietLevel)
    ∧ (looseGroup.alertWindow ≤ 65535 ∧ looseGroup.crestThreshold ≤ 65535 ∧ legalLevel looseGroup.impulseFloor
      ∧ looseGroup.impulseHold ≤ 255)
    ∧ dayEntry.legal
    ∧ ((∀ mask ∈ [(4 : Byte), 5], (tell ([0, 23, 7, 0, mask] ++ looseLimit)).payload = [0, 23, 7, 0, mask]
          ++ beBytes 2 19999 ++ beBytes 2 20000 ++ beBytes 2 65535 ++ beBytes 2 19999 ++ beBytes 2 1001 ++ [0])
      ∧ ((4 : Byte).getLsbD 0 = false ∧ (5 : Byte).getLsbD 0 = true ∧ (19999 : Nat) < 20000 ∧ (20000 : Nat) < 65536)
      ∧ ((23 : Byte).toNat = (23 : Per).val ∧ (7 : Byte).toNat = (7 : Grp).val ∧ 23 < (24 : Byte).toNat ∧ 7 < (8 : Byte).toNat
        ∧ 1 < (2 : Byte).toNat ∧ (1 : Byte) ≠ 0)
      ∧ ((tell ([0, 23, 7, 1, 5] ++ looseLimit)).payload = [0, 23, 7, 1, 5]
          ++ beBytes 2 19999 ++ beBytes 2 20000 ++ beBytes 2 65535 ++ beBytes 2 19999 ++ beBytes 2 1001 ++ [0])
      ∧ (tell [0, 23, 7, 1]).payload.length ≠ 16 ∧ (tell (List.replicate 15 0)).payload.length ≠ 16
      ∧ (tell (List.replicate 17 0)).payload.length ≠ 16) := by
  decide +kernel

/-- A payload of another length spells no channel entry, group entry or period entry. -/
theorem witness_TableWritesStoreLegalEntries_refused :
    (∀ (k : Bank) (c : Chan) (e : ChannelEntry),
        (tell []).payload ≠ [BitVec.ofNat 8 (bankCode k), BitVec.ofNat 8 c.val] ++ channelEntryBytes e)
    ∧ (∀ (k : Bank) (g : Grp) (e : GroupEntry),
        (tell []).payload ≠ [BitVec.ofNat 8 (bankCode k), BitVec.ofNat 8 g.val] ++ groupEntryBytes e)
    ∧ ∀ (i : Per) (e : PeriodEntry), (tell []).payload ≠ [0, BitVec.ofNat 8 i.val] ++ periodBytes e := by
  simp [tell]

/-- A part in CONFIG with channel 3 of bank A as given, and group 2 of it enabled with a background channel as given. -/
def banked (e : ChannelEntry) (background : Option Chan) (lock : Nat) : State :=
  let g : GroupEntry := { GroupEntry.default with enabled := true, background := background }
  { config with
    control := { config.control with lock := lock, locked := some ChannelMap.default.lockedFields }
    router := { config.router with bankA := (ChannelMap.default.setChannel 3 e).setGroup 2 g } }

/-- Entries of channel 3 that fail test 1 in its two ways, and one that fails test 3. -/
def lostMember : ChannelEntry := { ChannelEntry.default 3 with enabled := true, role := .member }
def groupedMonitor : ChannelEntry := { ChannelEntry.default 3 with enabled := true, group := some 7 }
def recalibrated : ChannelEntry := { ChannelEntry.default 3 with sensitivity := 1 }

/-- A staged schedule whose entries 1 and 2 overlap, entry 0 ending where they start. -/
def staged (second : PeriodEntry) : State :=
  { config with schedules := { config.schedules with
      staged := ((Schedule.default.set 0 { dayEntry with startMinute := 0, endMinute := 420 }).set 1 dayEntry).set 2 second } }

theorem witness_CommitsAreValidated :
    (Addressed (ask [0]) config ∧ config.control.mode ≠ .boot ∧ (ask [0]).payload = [0] ∧ (2 : Byte) ≠ 0 ∧ (2 : Byte) ≠ 1
      ∧ (0 : Byte) = BitVec.ofNat 8 (bankCode .a) ∧ 2 ≤ sealed.control.lock
      ∧ tableFault (banked (ChannelEntry.default 3) none 1).router.bankA = none
      ∧ (lostMember.enabled = true ∧ lostMember.role = .member ∧ lostMember.group = none)
      ∧ (groupedMonitor.enabled = true ∧ groupedMonitor.role ≠ .member ∧ groupedMonitor.group ≠ none)
      ∧ (channelFault (banked (ChannelEntry.default 3) (some 3) 0).router.bankA 3 = none
        ∧ groupFault (banked (ChannelEntry.default 3) (some 3) 0).router.bankA 2 = some (.badBackground 2))
      ∧ ((banked recalibrated none 1).control.lock = 1 ∧ tableFault (banked recalibrated none 1).router.bankA = none
        ∧ firstDiffering ChannelMap.default.lockedFields (banked recalibrated none 1).router.bankA = some 3))
    ∧ ((1 : Byte) = BitVec.ofNat 8 (commitModeCode .immediate)
      ∧ firstOverlap (staged PeriodEntry.default).schedules.staged = none
      ∧ firstOverlap (staged dayEntry).schedules.staged = some (.overlap 1 2)) := by decide +kernel

theorem witness_CoefficientsWriteAndRead :
    Addressed (tell (coefBytes 5 extremeCoefs)) config ∧ extremeCoefs.legal
      ∧ (tell (coefBytes 5 extremeCoefs)).payload = coefBytes 5 extremeCoefs
      ∧ (ask [1, 2]).payload = [BitVec.ofNat 8 ((5 : Fin 6).val / 3), BitVec.ofNat 8 ((5 : Fin 6).val % 3)]
      ∧ config.control.mode ≠ .boot ∧ 1 < (2 : Byte).toNat ∧ 2 < (3 : Byte).toNat := by decide +kernel

theorem witness_ScheduleEntriesWriteAndReadBack :
    Addressed (tell ([0, 23] ++ periodBytes dayEntry)) config ∧ (ask [0, 23]).broadcast = false
      ∧ config.trunk.out.length < 5 ∧ config.control.mode ≠ .boot ∧ dayEntry.legal ∧ someLimit.legal
      ∧ (tell ([0, 23] ++ periodBytes dayEntry)).payload = [0, BitVec.ofNat 8 (23 : Per).val] ++ periodBytes dayEntry
      ∧ (tell ([0, 23, 7] ++ limitBytes someLimit)).payload
          = [0, BitVec.ofNat 8 (23 : Per).val, BitVec.ofNat 8 (7 : Grp).val] ++ limitBytes someLimit
      ∧ (ask [0, 23, 7, 0]).payload = [0, BitVec.ofNat 8 (23 : Per).val, BitVec.ofNat 8 (7 : Grp).val, 0]
      ∧ (tell ([0, 23, 7, 1] ++ List.replicate 12 255)).payload
          = [0, BitVec.ofNat 8 (23 : Per).val, BitVec.ofNat 8 (7 : Grp).val, 1] ++ List.replicate 12 255
      ∧ (List.replicate 12 (255 : Byte)).length = 12
      ∧ (ask [2, 23]).payload = [2, BitVec.ofNat 8 (23 : Per).val]
      ∧ (ask [1, 23, 7, 0]).payload = [1, BitVec.ofNat 8 (23 : Per).val, BitVec.ofNat 8 (7 : Grp).val, 0]
      ∧ config.schedules.pendingSchedule = none := by decide +kernel

/-- An exclusion of group 0 from second 0, open. -/
def someExclusion (id : Fin 16) : Exclusion :=
  { id := id, mask := 1, start := 0, stop := none, reason := 15, clipped := false }

/-- A part in CONFIG at second 1,000 with sixteen exclusions, or with one. -/
def excluding (xs : List Exclusion) : State :=
  { config with time := { config.time with runningSecond := 1000 }, exclusions := xs }

/-- An EXCLUDE ADD at the ends of its ranges. -/
def widest : List Byte := beSigned 4 (-2147483648) ++ beBytes 4 4294967295 ++ [0x81, BitVec.ofNat 8 15]

theorem witness_ExcludeAddFollowsItsSteps :
    Addressed (ask widest) (excluding []) ∧ (excluding []).control.mode ≠ .boot
      ∧ (∀ g : Grp, (excluding []).groups[g].dueWindows = []) ∧ (ask widest).payload = widest
      ∧ ((86400 : Int) < 86401)
      ∧ ((1000 : Int) - 901 < 100 ∧ ¬((1000 : Int) - 901 + 2 ≤ 100) ∧ (1000 : Int) - 901 + 1 ≤ 100)
      ∧ 16 ≤ (excluding ((List.finRange 16).map someExclusion)).exclusions.length
      ∧ (excluding [someExclusion 0]).exclusions.length < 16
      ∧ (shout widest).broadcast = true ∧ (shout widest).payload = widest
      ∧ State.reset.control.mode = .boot ∧ (shout []).payload.length ≠ 10 := by decide +kernel

theorem witness_ExclusionEndClearRead :
    Addressed (ask [15]) (excluding [someExclusion 15]) ∧ (excluding [someExclusion 15]).control.mode ≠ .boot
      ∧ (excluding [someExclusion 15]).exclusionLaw ∧ (ask [15]).payload = [15] ∧ 15 < (16 : Byte).toNat
      ∧ ((14 : Byte).toNat ≤ 15 ∧ ∀ y ∈ (excluding [someExclusion 15]).exclusions, y.id.val ≠ (14 : Byte).toNat)
      ∧ someExclusion 15 ∈ (excluding [someExclusion 15]).exclusions
      ∧ (someExclusion 15).id.val = (15 : Byte).toNat := by decide +kernel

/-- The part with channel 0 in a state, its condition and its slice in progress given. -/
def conditioned (c : Condition) (present : Bool) : State :=
  withChannel running { channelIn c.state (dataSlice c.state present) with cond := c }

/-- A part in RUN with channel 0 under a manual check at a stage. -/
def checkingAt (st : Stage) (drive : Option (Fin 64)) : State :=
  let c : Condition := { Condition.reset with
    state := if st = .starting then .live else .checking
    request := if st = .starting then .startHeld else if st = .ending then .endHeld else .none }
  { conditioned c true with
    check := { CheckEngine.reset with stage := st, channel := some 0, drive := drive, sweep := 1 } }

theorem witness_SweepsStartAndAbort :
    (Addressed (ask (beBytes 2 0x8001)) live ∧ live.control.mode ≠ .boot
      ∧ (ask (beBytes 2 0x8001)).payload = beBytes 2 (0x8001 : ChanSet).toNat ∧ (0x8001 : ChanSet) ≠ 0
      ∧ (checkingAt .pre none).check.stage ≠ .idle ∧ live.check.stage = .idle ∧ live.check.sweep = 0)
    ∧ (Addressed (ask []) live ∧ (ask []).payload = []
      ∧ ((checkingAt .measure (some 0)).check.channel = some 0 ∧ (checkingAt .measure (some 0)).check.stage ≠ .idle
        ∧ (checkingAt .measure (some 0)).check.stage ≠ .ending)
      ∧ (checkingAt .starting none).check.stage = .starting ∧ (checkingAt .starting none).trunk.hub = []
      ∧ (checkingAt .measure (some 0)).check.involved 0 = true
      ∧ (checkingAt .measure (some 0)).check.involved 1 = false) := by decide +kernel

theorem witness_ReadsAnswerWithoutEffect :
    Addressed (ask [15]) live ∧ live.control.mode ≠ .boot ∧ (ask [15]).payload = [BitVec.ofNat 8 (15 : Chan).val]
      ∧ 15 < (16 : Byte).toNat ∧ (ask []).payload = [] := by decide +kernel

/-- A window of group 0, with eight expected slices of data. -/
def someWindow : Window :=
  { Window.opening dayEntry 0 0 { day := 0, second := 25200 } 0 with expected := 8, data := 8, sum := [(500, 8 * 10 ^ 6)] }

/-- A part with two results held, the older of sequence 65,535. -/
def withResults : State :=
  { running with results :=
      { ring := [{ someWindow.judge 0 false none 0 with sequence := 65535 }, someWindow.judge 0 false none 0], next := 1 } }

theorem witness_ResultReadFindsSequence :
    Addressed (ask (beBytes 2 65535)) withResults ∧ withResults.resultLaw ∧ running.resultLaw ∧ (65535 : Nat) < 65536
      ∧ (ask (beBytes 2 65535)).payload = beBytes 2 65535 ∧ running.results.ring = []
      ∧ (∃ x ∈ withResults.results.ring, x.sequence = 65535)
      ∧ (withResults.results.ring.head?.isSome = true ∧ withResults.results.ring.getLast?.isSome = true
        ∧ ∀ x ∈ withResults.results.ring, x.sequence ≠ 1)
      ∧ (shout []).broadcast = true ∧ (ask [0]).payload.length ≠ 2 := by decide +kernel

theorem witness_EventQueueStoresAndTakes :
    running.events.queue.length < 64 ∧ 64 ≤ crowded.events.queue.length
      ∧ crowded.events.queue = crowded.events.queue.take 63
          ++ [someEvent]
      ∧ Addressed (ask []) crowded ∧ (ask []).payload = [] ∧ running.events.queue = []
      ∧ (shout []).broadcast = true ∧ 8 ≤ (full running).trunk.out.length := by decide +kernel

theorem witness_ControlCellsGoWhereAddressed :
    running.trunk.parser = .hunting ∧ (List.replicate 48 (0 : Byte)).length ≤ 48
      ∧ (6 : Nat) < 7 ∧ (6 : Nat) ≠ running.control.node.val ∧ (1 : Nat) ≠ running.control.node.val := by decide +kernel

theorem witness_FaultyCellsAreHeldOrDropped :
    running.trunk.parser = .hunting ∧ (List.replicate 48 (0 : Byte)).length ≤ 48
      ∧ (1 : Byte) ≠ crc8 (requestCell running.control.node.val true 61 7 []).dropLast
      ∧ (1 : Byte) ≠ crc8 (requestCell 7 true 61 7 []).dropLast
      ∧ ((0x87 : Byte).toNat % 8 = running.control.node.val ∨ (0x87 : Byte).toNat % 8 = 7)
      ∧ ¬((0x81 : Byte).toNat % 8 = running.control.node.val ∨ (0x81 : Byte).toNat % 8 = 7)
      ∧ (6 : Nat) < 7 ∧ (6 : Nat) ≠ running.control.node.val := by decide +kernel

/-- A part with cells waiting in the pass-through buffer and in the outgoing queue. -/
def contested (t : Turn) : State :=
  { running with trunk := { running.trunk with through := [[1]], out := [someCell], turn := t } }

/-- A part with a hub cell and a pass-through cell waiting to go up the return lane, or with the latter alone. -/
def returning (hub : List Cell) : State :=
  { running with trunk := { running.trunk with hub := hub, retThrough := [[2]] } }

theorem witness_LanesSendInTurn :
    (running.trunk.through = [] ∧ running.trunk.out = [] ∧ running.trunk.hub = [] ∧ running.trunk.retThrough = [])
      ∧ ((contested .passThrough).trunk.through = [[1]] ∧ (contested .passThrough).trunk.turn = .passThrough)
      ∧ ((contested .own).trunk.out = [someCell] ∧ (contested .own).trunk.turn = .own)
      ∧ leaves (.powerOn 1) running (fun _ => true) = true
      ∧ (returning [[1]]).trunk.hub = [[1]]
      ∧ ((returning []).trunk.hub = [] ∧ (returning []).trunk.retThrough = [[2]]) := by decide +kernel

/-- A good frame of one slot that carries 1,000. -/
def oneSlot : Frame := { count := 1, status := 5, samples := [1000], check := crc16 (frameBytes 1 5 [1000]) }

/-- A part in HOLD-OVER after a run of good frames, one channel active. -/
def recovering (n : Nat) : State := { live with time := { live.time with link := .holdOver, goodRun := n } }

/-- The part at the last frame of a slice. -/
def atLast (slice : Nat) (s : State) : State := { s with time := { s.time with frameIndex := 5999, sliceIndex := slice } }

theorem witness_GoodFrameReachesChannels :
    goodFrame oneSlot = true ∧ live.time.frameIndex + 1 < 6000 ∧ live.time.link = .locked
      ∧ oneSlot.samples[live.router.active.channels[(0 : Chan)].sourceSlot.val]? = some 1000
      ∧ live.channels[(0 : Chan)].slice = some (dataSlice .live true)
      ∧ oneSlot.count.toNat ≤ live.router.active.channels[(1 : Chan)].sourceSlot.val
      ∧ live.channels[(1 : Chan)].slice = none
      ∧ live.router.active.channels[(0 : Chan)].levelWeighting = .z
      ∧ ((recovering 46).time.link = .holdOver ∧ (recovering 46).time.goodRun < 47)
      ∧ (∀ s ∈ [live, recovering 46], ∀ i ∈ [3, 7], (atLast i s).time.frameIndex = 5999
        ∧ (atLast i s).control.secondTaken = false ∧ ((atLast i s).time.link = .locked ∨ (atLast i s).time.goodRun < 47))
      ∧ leaves .sliceBoundary (atLast 3 live) (fun u => decide (u.time.frameIndex = 0
          ∧ u.channels[(0 : Chan)].slice = some (Slice.opening .live false false) ∧ u.channels[(1 : Chan)].slice = none
          ∧ u.router.active = oneChannel)) = true := by decide +kernel

/-- A part whose channel 0 is absent, with hold value 7 and a fill mode. -/
def quenched (f : FillMode) : State :=
  let s := withChannel running { channelIn .absent (dataSlice .absent false) with holdValue := 7 }
  { s with router := { s.router with
      active := oneChannel.setChannel 0 { oneChannel.channels[(0 : Chan)] with fillMode := f } } }

theorem witness_FillReplacesQuenchedSlots :
    goodFrame oneSlot = true ∧ (quenched .hold).time.frameIndex + 1 < 6000 ∧ (quenched .hold).time.link = .locked
      ∧ oneSlot.samples[0]? = some 1000
      ∧ (quenched .hold).channels[(0 : Chan)].cond.state = .absent
      ∧ (quenched .hold).router.active.channels[(0 : Chan)].fillMode = .hold
      ∧ (quenched .zero).router.active.channels[(0 : Chan)].fillMode = .zero
      ∧ (quenched .pass).router.active.channels[(0 : Chan)].fillMode = .pass
      ∧ (∀ c : Chan, c ≠ 0 → (quenched .hold).router.active.channels[c].sourceSlot.val ≠ 0)
      ∧ (∀ i ∈ [3, 7], (atLast i (quenched .hold)).time.frameIndex = 5999
        ∧ (atLast i (quenched .hold)).control.secondTaken = false)
      ∧ leaves .sliceBoundary (atLast 3 (quenched .hold)) (fun u => decide (
          u.channels[(0 : Chan)].cond.state = .absent ∧ u.channels[(0 : Chan)].holdValue = 7)) = true := by decide +kernel

/-- A part inside a slice with a run of missing frames, in a link state. -/
def missing (n : Nat) (l : Link) : State :=
  { running with time := { running.time with link := l, missingRun := n, frameIndex := 5998 } }

/-- A part at the last frame of a slice. -/
def lastFrame (slice : Nat) (l : Link) : State :=
  { running with time := { running.time with link := l, missingRun := 190, frameIndex := 5999, sliceIndex := slice } }

/-- A frame whose check does not match. -/
def badFrame : Frame := { oneSlot with check := 0 }

theorem witness_MissingFramesCountTheRun :
    (missing 190 .locked).time.frameIndex + 1 < 6000 ∧ (missing 190 .locked).time.link = .locked
      ∧ (missing 190 .locked).time.missingRun < 191 ∧ (missing 0 .holdOver).time.link = .holdOver
      ∧ goodFrame badFrame = false
      ∧ (∀ l ∈ [Link.locked, Link.holdOver], ∀ i ∈ [3, 7], (lastFrame i l).time.frameIndex = 5999
        ∧ (lastFrame i l).control.secondTaken = false ∧ (lastFrame i l).time.missingRun < 191) := by decide +kernel

/-- A part with a check at a stage, 191 frame periods without a good frame behind it, at a frame index. -/
def losing (st : Stage) (index : Nat) : State :=
  { checkingAt st none with
    time := { (checkingAt st none).time with link := .locked, missingRun := 191, frameIndex := index } }

theorem witness_LinkLossIsDeclared :
    ((missing 0 .holdOver).time.link = .holdOver ∧ (missing 191 .locked).time.link = .locked
      ∧ (missing 191 .locked).check.stage = .idle ∧ (missing 191 .locked).time.missingRun = 191
      ∧ (missing 191 .locked).time.frameIndex + 1 < 6000 ∧ (missing 191 .locked).control.secondTaken = false
      ∧ goodFrame badFrame = false)
    ∧ ∀ st ∈ [Stage.starting, .pre, .establish, .measure],
        (checkingAt st none).time.link = .locked ∧ (checkingAt st none).check.channel = some 0
        ∧ ¬((checkingAt st none).check.stage = .idle ∨ (checkingAt st none).check.stage = .ending)
        ∧ (checkingAt st none).trunk.hub = [] ∧ (checkingAt st none).check.involved 0 = true
        ∧ (checkingAt st none).check.involved 1 = false
        ∧ (losing st 100).time.missingRun = 191 ∧ (losing st 100).time.link = .locked
        ∧ (losing st 100).time.frameIndex + 1 < 6000 ∧ (losing st 100).check.channel = some 0
        ∧ (losing st 100).check.stage ≠ .idle ∧ (losing st 100).check.stage ≠ .ending
        ∧ (losing st 5999).time.missingRun = 191 ∧ (losing st 5999).time.link = .locked
        ∧ (losing st 5999).time.frameIndex = 5999 := by decide +kernel

/-- The boundary that frame index 5,999 takes first leaves a check in progress for the loss to meet: one whose start it takes,
and one in PRE. -/
theorem witness_LinkLossIsDeclared_boundary : ∀ st ∈ [Stage.starting, .pre],
    (losing st 5999).control.secondTaken = false ∧ (losing st 5999).time.sliceIndex < 7
      ∧ leaves .sliceBoundary (losing st 5999) (fun u => decide (u.check.channel = some 0 ∧ u.check.stage = .pre)) = true := by
  decide +kernel

/-- A part after an outage of `n` frame periods, one channel active. -/
def outage (n : Nat) : State := { recovering 47 with time := { (recovering 47).time with holdLength := n } }

/-- The part with the balance of channel 0 as given. -/
def withBalance (b : Int) (s : State) : State :=
  { s with channels := s.channels.set 0 { s.channels[0] with account := { CheckAccount.reset with balance := b } } }

theorem witness_RestorationIsDeclared :
    live.time.link = .locked ∧ (outage 2880000).time.link = .holdOver ∧ (outage 2880000).events.queue.length ≤ 47
      ∧ (60 * 48000 ≤ (outage 2880000).time.holdLength ∧ (outage 2880000).time.startUp = false
        ∧ (outage 2880000).router.active.channels[(0 : Chan)].autoCheck = true)
      ∧ ¬60 * 48000 ≤ (outage 2879999).time.holdLength
      ∧ (goodFrame oneSlot = true ∧ (outage 0).time.goodRun = 47 ∧ (outage 0).time.frameIndex + 1 < 6000)
      ∧ (∀ b ∈ [(5 : Int), 6], (withBalance b (outage 2879999)).channels[(0 : Chan)].account.balance = b
        ∧ 60 * 48000 ≤ min 4294967295 ((withBalance b (outage 2879999)).time.holdLength + 1)
        ∧ (withBalance b (outage 2880000)).time.startUp = false
        ∧ (withBalance b (outage 2880000)).router.active.channels[(0 : Chan)].autoCheck = true)
      ∧ (∀ i ∈ [3, 7], (atLast i (outage 2879999)).time.frameIndex = 5999 ∧ (atLast i (outage 2879999)).time.goodRun = 47
        ∧ (atLast i (outage 2879999)).time.link = .holdOver ∧ (atLast i (outage 2879999)).control.secondTaken = false) := by
  decide +kernel

/-- One live channel in RUN, awaited by its group. -/
def awaited : State := { live with groups := live.groups.set 0 { Group.reset with awaited := 1 } }

/-- The part with a map pending. -/
def turning (s : State) (m : ChannelMap) : State := { s with router := { s.router with pendingMap := some (m, .a) } }

theorem witness_SliceBoundaryClosesSlices :
    awaited.time.sliceIndex < 7 ∧ awaited.channelLaw ∧ awaited.channels[(0 : Chan)].slice = some (dataSlice .live true)
      ∧ awaited.channels[(1 : Chan)].slice = none ∧ awaited.control.lock = 0
      ∧ awaited.router.active.groups[(0 : Grp)].enabled = true ∧ awaited.router.active.groups[(1 : Grp)].enabled = false
      ∧ awaited.groups[(0 : Grp)].awaited.getLsbD (0 : Chan).val = true
      ∧ awaited.control.secondTaken = false ∧ (awaited.opening true).router.active = oneChannel
      ∧ (((turning awaited ChannelMap.default).opening true).router.active.channels[(0 : Chan)].enabled = false
        ∧ (turning awaited ChannelMap.default).channelLaw ∧ (turning awaited ChannelMap.default).control.secondTaken = false)
      ∧ oneChannel.channels[(0 : Chan)].enabled = true := by decide +kernel

/-- What the statement on the channel states asks of every state, at both boundaries. -/
def boundaryReady (s : State) : Bool := decide (
  s.time.sliceIndex < 7 ∧ s.control.secondTaken = false ∧ s.router.pendingMap = none ∧ s.channelLaw ∧ s.checkLaw)

/-- What it asks beside, where no row of a coefficient change or a RESTART applies. -/
def quietBoundary (s : State) : Bool := decide (
  boundaryReady s = true ∧ (∀ i : Fin 6, s.coefs[i].waiting = none)
    ∧ s.control.restarted = false ∧ s.channels[(0 : Chan)].slice.isSome = true)

/-- The part with a coefficient set waiting for a section, channel 0 of level weighting A and peak weighting C. -/
def recoefficientedAt (i : Fin 6) (s : State) : State :=
  { s with
    coefs := s.coefs.set i { CoefSection.reset with waiting := some extremeCoefs }
    router := { s.router with
      active := s.router.active.setChannel 0 { s.router.active.channels[0] with levelWeighting := .a, peakWeighting := .c } } }

theorem witness_ChannelsSettleFallSilentReturn_coefficients :
    (∀ i ∈ [(0 : Fin 6), 2, 3, 5], ∀ s ∈ [conditioned { Condition.reset with state := .settling, settleCount := 7 } true,
        conditioned { Condition.reset with state := .live, silentCount := 39, suspect := .low } false,
        conditioned { Condition.reset with state := .absent, restoreCount := 7 } true, checkingAt .starting none,
        checkingAt .measure (some 0)],
      boundaryReady (recoefficientedAt i s) ∧ (recoefficientedAt i s).control.lock = 0
        ∧ (recoefficientedAt i s).coefs[i].waiting.isSome = true
        ∧ (recoefficientedAt i s).channels[(0 : Chan)].cond.state ≠ .off)
    ∧ ((recoefficientedAt 2 live).router.active.channels[(0 : Chan)].levelWeighting = .a ∧ ((2 : Fin 6).val < 3)
      ∧ (recoefficientedAt 3 live).router.active.channels[(0 : Chan)].peakWeighting = .c ∧ 3 ≤ (3 : Fin 6).val)
    ∧ ((checkingAt .starting none).channels[(0 : Chan)].cond.request = .startHeld)
    ∧ (boundaryReady live.restart ∧ live.restart.control.restarted = true
      ∧ live.restart.router.active.channels[(0 : Chan)].enabled = true
      ∧ live.restart.router.active.channels[(1 : Chan)].enabled = false) := by
  and_intros <;> decide +kernel

theorem witness_ChannelsSettleFallSilentReturn :
    quietBoundary (conditioned { Condition.reset with state := .settling, settleCount := 7 } true)
    ∧ quietBoundary (conditioned { Condition.reset with state := .settling, settleCount := 6 } true)
    ∧ quietBoundary (conditioned { Condition.reset with state := .live, silentCount := 39 } false)
    ∧ quietBoundary (conditioned { Condition.reset with state := .absent, restoreCount := 7 } true)
    ∧ quietBoundary (conditioned { Condition.reset with state := .live, restoreHeld := true } true)
    ∧ (quietBoundary (checkingAt .ending none) ∧ (checkingAt .ending none).check.stage = .ending
      ∧ (checkingAt .ending none).channels[(0 : Chan)].cond.state = .checking)
    ∧ (quietBoundary (checkingAt .starting none)
      ∧ (checkingAt .starting none).channels[(0 : Chan)].cond.request = .startHeld
      ∧ (checkingAt .starting none).channels[(0 : Chan)].cond.state = .live)
    ∧ (4500 ≤ (dataSlice .live true).n ∧ (dataSlice .live true).holdOver = false)
    ∧ ((dataSlice .live true).rawMax.getD 0 - (dataSlice .live true).rawMin.getD 0
        ≥ (oneChannel.channels[(0 : Chan)].absentThreshold : Int))
    ∧ ((dataSlice .live false).rawMax.getD 0 - (dataSlice .live false).rawMin.getD 0
        < (oneChannel.channels[(0 : Chan)].absentThreshold : Int))
    ∧ oneChannel.channels[(0 : Chan)].absentIntegration.slices ≤ 39 + 1 := by
  and_intros <;> decide +kernel

/-- The part with channel 0 at a stage of its check, so many slices of the phase taken. -/
def phase (st : Stage) (n : Nat) : State :=
  let s := checkingAt st (if st.driven then some 0 else none)
  { s with check := { s.check with phaseSlices := n } }

/-- The part with its slice in progress one sample short of data. -/
def shortSlice (s : State) : State :=
  { s with channels := s.channels.set 0 { s.channels[0] with
      slice := s.channels[0].slice.map fun sl => { sl with n := 4499 } } }

/-- The part with a coefficient set waiting for A section 0, channel 0 of weighting A. -/
def recoefficiented (s : State) : State :=
  { s with
    coefs := s.coefs.set 0 { CoefSection.reset with waiting := some extremeCoefs }
    router := { s.router with
      active := s.router.active.setChannel 0 { s.router.active.channels[0] with levelWeighting := .a } } }

/-- The part with a restore held for channel 0. -/
def restoring (s : State) : State :=
  { s with channels := s.channels.set 0 { s.channels[0] with cond := { s.channels[0].cond with restoreHeld := true } } }

/-- What the statement on the course of a check asks of every state. -/
def underCheck (s : State) : Bool := decide (
  s.time.sliceIndex < 7 ∧ s.channelLaw ∧ s.checkLaw ∧ s.control.restarted = false ∧ s.check.channel = some 0
    ∧ s.channels[(0 : Chan)].slice.isSome = true ∧ s.trunk.hub = [] ∧ s.check.involved 0 = true)

/-- `oneChannel` under another sensitivity, under another tolerance, with channel 1 a member beside channel 0, and with channel
1 on the slot of channel 0. -/
def resensed : ChannelMap := oneChannel.setChannel 0 { oneChannel.channels[0] with sensitivity := 13001 }
def retoleranced : ChannelMap := oneChannel.setChannel 0 { oneChannel.channels[0] with tolerance := 199 }
def joined : ChannelMap :=
  oneChannel.setChannel 1 { ChannelEntry.default 1 with enabled := true, role := .member, group := some 0 }
def shared : ChannelMap := oneChannel.setChannel 1 { ChannelEntry.default 1 with enabled := true, sourceSlot := 0 }

/-- The part with channel 1 a companion of channel 0, in the same state. -/
def accompanied (s : State) : State :=
  { s with
    router := { s.router with active := shared }
    channels := s.channels.set 1 s.channels[0]
    check := { s.check with companions := 2 } }

/-- The part with a set waiting for C section 2, channel 1 of weighting C, channel 0 of weighting Z. -/
def companionChanged (s : State) : State :=
  { s with
    coefs := s.coefs.set 5 { CoefSection.reset with waiting := some extremeCoefs }
    router := { s.router with
      active := s.router.active.setChannel 1 { s.router.active.channels[1] with levelWeighting := .c, peakWeighting := .c } } }

/-- The part with channel 0 silent for so many slices, this one too. -/
def falling (n : Nat) (s : State) : State :=
  { s with channels := s.channels.set 0 { s.channels[0] with
      cond := { s.channels[0].cond with silentCount := n }, slice := some (dataSlice s.channels[0].cond.state false) } }

/-- The part with the check account of channel 0 one second before its interval, at a balance. -/
def owing (b : Int) (s : State) : State :=
  { s with channels := s.channels.set 0 { s.channels[0] with account :=
      { CheckAccount.reset with balance := b, timer := 60 * oneChannel.channels[(0 : Chan)].checkInterval - 1 } } }

/-- What the statement on the course of a check asks of every state at a second boundary, with the map pending. -/
def underCheckSecond (s : State) (m : Option ChannelMap) : Bool := decide (
  underCheck s = true ∧ s.control.secondTaken = false ∧ s.router.pendingMap.map (·.1) = m ∧ s.control.lock = 0
    ∧ (∀ i : Fin 6, s.coefs[i].waiting = none))

theorem witness_CheckRunsItsPhases_second :
    (∀ st ∈ [Stage.starting, .pre, .establish, .measure, .ending], underCheckSecond (phase st 7) none)
    ∧ (underCheckSecond (owing 5 (phase .measure 7)) none ∧ (owing 5 (phase .measure 7)).control.mode = .run
      ∧ oneChannel.channels[(0 : Chan)].autoCheck = true
      ∧ oneChannel.channels[(0 : Chan)].checkInterval * 60
          ≤ (owing 5 (phase .measure 7)).channels[(0 : Chan)].account.timer + 1)
    ∧ (∀ st ∈ [Stage.starting, .pre, .establish, .measure],
        underCheckSecond (turning (phase st 7) ChannelMap.default) (some ChannelMap.default)
        ∧ underCheckSecond (turning (phase st 7) resensed) (some resensed)
        ∧ underCheckSecond (turning (phase st 7) shared) (some shared))
    ∧ (oneChannel.channels[(0 : Chan)].sensitivity ≠ resensed.channels[(0 : Chan)].sensitivity
      ∧ ChannelMap.default.channels[(0 : Chan)].enabled = false
      ∧ (shared.channels[(1 : Chan)].sourceSlot = oneChannel.channels[(0 : Chan)].sourceSlot
        ∧ shared.channels[(1 : Chan)].enabled = true ∧ oneChannel.channels[(1 : Chan)].enabled = false))
    ∧ (∀ st ∈ [Stage.pre, .establish, .measure],
        underCheckSecond (turning (phase st 6) retoleranced) (some retoleranced)
        ∧ (phase st 6).channels[(0 : Chan)].cond.request = .none ∧ (phase st 6).check.phaseSlices < 7) := by
  and_intros <;> decide +kernel

theorem witness_CheckRunsItsPhases :
    (∀ st ∈ [Stage.pre, .measure], ∀ n ∈ [0, 6, 7], underCheck (phase st n)
        ∧ (phase st n).channels[(0 : Chan)].cond.state = .checking
        ∧ (phase st n).channels[(0 : Chan)].slice = some (dataSlice .checking true)
        ∧ (∀ i : Fin 6, (phase st n).coefs[i].waiting = none))
    ∧ (∀ n ∈ [0, 1], underCheck (phase .establish n))
    ∧ (∀ st ∈ [Stage.pre, .measure], underCheck (shortSlice (phase st 7))
        ∧ (shortSlice (phase st 7)).channels[(0 : Chan)].slice = some { dataSlice .checking true with n := 4499 })
    ∧ (∀ st ∈ [Stage.pre, .establish, .measure], underCheck (recoefficiented (phase st 1))
        ∧ (recoefficiented (phase st 1)).control.lock = 0
        ∧ (recoefficiented (phase st 1)).coefs[(0 : Fin 6)].waiting.isSome = true
        ∧ (recoefficiented (phase st 1)).router.active.channels[(0 : Chan)].levelWeighting = .a)
    ∧ (underCheck (phase .ending 0) ∧ (phase .ending 0).check.stage = .ending)
    ∧ (underCheck (phase .starting 0) ∧ (phase .starting 0).check.stage = .starting
        ∧ (∀ d : Chan, d ≠ 0 → (phase .starting 0).check.involved d = false)
        ∧ (phase .starting 0).channels[(0 : Chan)].cond.request = .startHeld
        ∧ (phase .starting 0).channels[(0 : Chan)].cond.restoreHeld = false
        ∧ (phase .starting 0).channels[(0 : Chan)].slice = some (dataSlice .live true))
    ∧ (underCheck (restoring (phase .starting 0))
        ∧ (restoring (phase .starting 0)).channels[(0 : Chan)].cond.restoreHeld = true)
    ∧ (underCheck (recoefficiented (phase .starting 0)) ∧ (recoefficiented (phase .starting 0)).control.lock = 0
        ∧ (recoefficiented (phase .starting 0)).check.involved 0 = true)
    ∧ (∀ st ∈ [Stage.starting, .pre, .establish, .measure], underCheck (companionChanged (accompanied (phase st 7)))
        ∧ (companionChanged (accompanied (phase st 7))).check.involved 1 = true
        ∧ (companionChanged (accompanied (phase st 7))).channels[(1 : Chan)].cond.state ≠ .off
        ∧ (companionChanged (accompanied (phase st 7))).router.active.channels[(1 : Chan)].levelWeighting = .c
        ∧ (companionChanged (accompanied (phase st 7))).router.active.channels[(0 : Chan)].levelWeighting = .z)
    ∧ (underCheck (falling 39 (phase .starting 0)) ∧ (phase .starting 0).router.active = oneChannel
        ∧ oneChannel.channels[(0 : Chan)].absentIntegration.slices ≤ 39 + 1
        ∧ (dataSlice .live false).rawMax.getD 0 - (dataSlice .live false).rawMin.getD 0
            < oneChannel.channels[(0 : Chan)].absentThreshold) := by
  and_intros <;> decide +kernel

/-- A part with a trim balance in a mode. -/
def trimmed (m : Mode) (trim : Int) : State :=
  { inMode m .locked true with time := { (inMode m .locked true).time with trim := trim } }

/-- A part with a pending map and a pending time, the locked fields those of the default map. -/
def waiting (lock : Nat) : State :=
  { config with
    control := { config.control with lock := lock, locked := some ChannelMap.default.lockedFields }
    time := { config.time with pendingTime := some { day := 6, second := 86399 } }
    router := { config.router with pendingMap := some (oneChannel, .b) } }

/-- The same with the auto-run mark armed. -/
def armed : State := { waiting 0 with control := { (waiting 0).control with autoRun := true } }

/-- The same with a map that differs from the default one in its group alone. -/
def waitingGroup : State :=
  { waiting 1 with router := { config.router with
      pendingMap := some (ChannelMap.default.setGroup 0 { GroupEntry.default with enabled := true }, .a) } }

/-- A part whose second boundary was taken with its slice boundary. -/
def takenSecond : State := { config with control := { config.control with secondTaken := true } }

theorem witness_SecondBoundaryTurnsTheSecond :
    takenSecond.control.secondTaken = true
    ∧ ((waiting 0).control.secondTaken = false ∧ (waiting 0).timeLaw
      ∧ (waiting 0).time.pendingTime = some { day := 6, second := 86399 }
      ∧ (waiting 0).router.pendingMap = some (oneChannel, .b) ∧ (waiting 0).control.lock = 0)
    ∧ ((waiting 1).timeLaw ∧ firstDiffering ChannelMap.default.lockedFields oneChannel = some 0)
    ∧ (waitingGroup.timeLaw ∧ waitingGroup.control.lock = 1
      ∧ waitingGroup.router.pendingMap.map (·.1.lockedFields) = waitingGroup.control.locked)
    ∧ (2 ≤ (waiting 2).control.lock ∧ (waiting 2).timeLaw)
    ∧ (armed.timeLaw ∧ armed.control.secondTaken = false ∧ armed.control.autoRun = true ∧ armed.control.mode = .config
      ∧ armed.time.pendingTime.isSome = true)
    ∧ (waiting 0).control.autoRun = false
    ∧ ((trimmed .config (-4)).timeLaw ∧ (trimmed .config (-4)).time.pendingTime = none
      ∧ (trimmed .config (-4)).control.mode ≠ .run)
    ∧ ((trimmed .run 0).timeLaw ∧ (trimmed .run 0).time.trim = 0)
    ∧ ((trimmed .run 4).timeLaw ∧ 0 < (trimmed .run 4).time.trim)
    ∧ ((trimmed .run (-1)).timeLaw ∧ (trimmed .run (-1)).time.trim < 0 ∧ (trimmed .run (-1)).control.mode = .run)
    ∧ ((lastFrame 7 .locked).timeLaw ∧ 7 ≤ (lastFrame 7 .locked).time.sliceIndex
      ∧ (lastFrame 7 .locked).control.secondTaken = false) := by
  and_intros <;> decide +kernel

/-- What the statement on the channels at a second boundary asks of every state, with the maps either side of it. -/
def turns (s : State) (old new : ChannelMap) : Bool := decide (
  s.control.secondTaken = false ∧ s.channelLaw ∧ s.control.restarted = false
    ∧ (∀ i : Fin 6, s.coefs[i].waiting = none) ∧ s.router.active = old
    ∧ (s.opening true).router.active = new)

theorem witness_SecondBoundaryTurnsChannels :
    turns (turning live ChannelMap.default) oneChannel ChannelMap.default
    ∧ turns (turning running oneChannel) ChannelMap.default oneChannel
    ∧ (turns (turning live resensed) oneChannel resensed
      ∧ oneChannel.channels[(0 : Chan)].sensitivity ≠ resensed.channels[(0 : Chan)].sensitivity)
    ∧ (turns live oneChannel oneChannel ∧ live.channels[(0 : Chan)].slice.isSome = true
      ∧ live.channels[(0 : Chan)].forming.isSome = true)
    ∧ (oneChannel.channels[(0 : Chan)].enabled = true ∧ oneChannel.channels[(0 : Chan)].autoCheck = true
      ∧ 1 ≤ oneChannel.channels[(0 : Chan)].checkInterval ∧ oneChannel.channels[(1 : Chan)].enabled = false)
    ∧ (∀ b ∈ [(5 : Int), 6], turns (owing b live) oneChannel oneChannel ∧ (owing b live).check.channel = none
      ∧ (owing b live).check.sweep.getLsbD (0 : Chan).val = false ∧ (owing b live).control.mode = .run
      ∧ (owing b live).channels[(0 : Chan)].account.balance = b
      ∧ oneChannel.channels[(0 : Chan)].checkInterval * 60 ≤ (owing b live).channels[(0 : Chan)].account.timer + 1)
    ∧ ¬(oneChannel.channels[(0 : Chan)].checkInterval * 60 ≤ live.channels[(0 : Chan)].account.timer + 1) := by
  and_intros <;> decide +kernel

/-- One live channel whose group has a second in formation. -/
def formed : State := { awaited with groups := awaited.groups.set 0 { awaited.groups[0] with forming := some GroupForming.empty } }

/-- What group 0 meets at a boundary in RUN. -/
def meeting (wasEnabled enabled : Bool) : ReachContext :=
  { group := 0, run := true, wasEnabled := wasEnabled, enabled := enabled, second := 3 }

theorem witness_SecondBoundaryTurnsGroups :
    (formed.control.secondTaken = false ∧ formed.results.next < 65536 ∧ formed.control.autoRun = false
      ∧ formed.router.active.groups[(0 : Grp)].enabled = true ∧ formed.router.active.groups[(1 : Grp)].enabled = false
      ∧ formed.groups[(0 : Grp)].forming = some GroupForming.empty ∧ awaited.groups[(0 : Grp)].forming = none)
    ∧ (((turning formed ChannelMap.default).opening true).router.active.groups[(0 : Grp)].enabled = false)
    ∧ (((turning assessing joined).opening true).router.active = joined ∧ assessing.control.autoRun = false
      ∧ (oneChannel.channels[(1 : Chan)].enabled ≠ joined.channels[(1 : Chan)].enabled)
      ∧ assessing.groups[(0 : Grp)].openWindow.map (·.endsAt { day := 0, second := 27001 }) = some false)
    ∧ (assessing.timeLaw ∧ (∀ h : Grp, assessing.groups[h].dueWindows = []))
    ∧ (let reach (enabled : Bool) (p : Pos) : Group := (Group.reachList (meeting true enabled) true
        [{ handed := .opened p, schedule := oneEntry dayEntry, activated := none }] assessing.groups[(0 : Grp)]).1
      ((reach true { day := 0, second := 28800 }).dueWindows.map (·.flags.truncated) = [false])
        ∧ (reach false { day := 0, second := 27001 }).dueWindows.map (·.flags.truncated) = [true])
    ∧ (let skipping : State :=
        { assessing with time := { assessing.time with day := 0, second := 28799, held := false, trim := 2 } }
      skipping.time.here.second < 86400
        ∧ (reachAll 0 1 (skipping.time.secondBoundary skipping.control.mode).handed skipping.schedules).2.1.map (·.handed)
          = [.skipped { day := 0, second := 28800 }, .skipped { day := 0, second := 28801 },
            .opened { day := 0, second := 28802 }]) := by
  and_intros <;> decide +kernel

/-- A pending schedule of its mode beside `dayEntry`. -/
def committed (m : CommitMode) : Schedules :=
  { Schedules.reset with active := oneEntry dayEntry, pendingSchedule := some (Schedule.default, m) }

/-- A group second record of 1 data slice at a second, of intensity `10^6`. -/
def someSecond (n : Nat) : GroupSecond :=
  { second := n, position := some { day := 0, second := 25200 + n }, sum := [(0, 10 ^ 6)], data := 1, onsets := 1
    maxLevel := some 6000, maxPeak := some 7000, overload := 1, excluded := false, discarded := false, suspect := false
    holdOver := false }

/-- A group with a window open. -/
def opened : Group := { Group.reset with openWindow := some someWindow, alertLevel := some 7000, alertPeriod := some 0 }

theorem witness_ReachesActivateAndOpen :
    ((committed .boundary).pendingSchedule = some (Schedule.default, .boundary)
      ∧ (committed .boundary).active[(0 : Per)].enabled = true
      ∧ (committed .boundary).active[(0 : Per)].days.getLsbD 3 = true
      ∧ (25200 = (committed .boundary).active[(0 : Per)].startMinute * 60)
      ∧ (68400 = (committed .boundary).active[(0 : Per)].endMinute * 60)
      ∧ allowsActivation (committed .boundary) (.waited { day := 3, second := 25200 }) = false
      ∧ allowsActivation (committed .boundary) (.opened { day := 3, second := 25201 }) = false
      ∧ allowsActivation (committed .boundary) (.skipped { day := 3, second := 25200 }) = true
      ∧ allowsActivation (committed .immediate) (.waited { day := 3, second := 25201 }) = true)
    ∧ (opened.openWindow = some someWindow ∧ someWindow.day = 0 ∧ someWindow.start = 25200 ∧ someWindow.stop = 28800
      ∧ someWindow.contains { day := 0, second := 28799 } = true ∧ someWindow.endsAt { day := 0, second := 28800 } = true
      ∧ { someWindow with stop := 86400 }.endsAt { day := 1, second := 0 } = true
      ∧ ({ someWindow with stop := 86400, day := 6 }).endsAt { day := 0, second := 0 } = true)
    ∧ ((meeting true true).run = true ∧ (meeting false true).wasEnabled = false ∧ (meeting true false).enabled = false
      ∧ (oneEntry dayEntry)[(0 : Per)].covers { day := 0, second := 28800 } = true
      ∧ (∀ j : Per, j < 0 → (oneEntry dayEntry)[j].covers { day := 0, second := 28800 } = false)
      ∧ (28800 - 25200) % 3600 = 0 ∧ (28801 - 25200) % 3600 ≠ 0
      ∧ (∀ i : Per, (oneEntry dayEntry)[i].covers { day := 0, second := 68400 } = false))
    ∧ ((someSecond 3599).position = some { day := 0, second := 28799 } ∧ 28799 < 86400
      ∧ someWindow.firstSecond ≤ (someSecond 0).second
      ∧ ¬{ someWindow with firstSecond := 1 }.firstSecond ≤ (someSecond 0).second) := by decide +kernel

theorem witness_IntervalTimerExpiryOwesCheck :
    (live.control.mode = .run ∧ live.router.active.channels[(0 : Chan)].enabled = true
      ∧ live.router.active.channels[(0 : Chan)].autoCheck = true)
    ∧ live.router.active.channels[(15 : Chan)].enabled = false := by decide +kernel

/-! The precision of 256 bits decides every comparison of the intensities 0 and 1. -/

/-- The lower bound at 256 bits of each power `10^(e/2000)`, `e` below 2000. -/
def lowBound (e : Nat) : Nat := (powBounds 256 11 e (root256, root256 + 1) (2 ^ 256, 2 ^ 256)).1
/-- The upper bound. -/
def highBound (e : Nat) : Nat := (powBounds 256 11 e (root256, root256 + 1) (2 ^ 256, 2 ^ 256)).2

theorem lowBound_above : (List.range 2000).all (fun e => e == 0 || Nat.ble (2 ^ 256 + 2) (lowBound e)) = true := by
  decide +kernel

theorem highBound_top : highBound 1999 < 10 * 2 ^ 256 := by decide +kernel

theorem tenPower_low (c : Nat) (h : 1 ≤ c) : 10 * (2 ^ 256 + 2) ≤ (tenPower 256 root256 (2 * c + 1999)).1 := by
  have hr : (2 * c + 1999) % 2000 ∈ List.range 2000 := List.mem_range.mpr (Nat.mod_lt _ (by decide))
  have ha := List.all_eq_true.mp lowBound_above _ hr
  have h0 : ((2 * c + 1999) % 2000 == 0) = false := by simp; omega
  rw [h0, Bool.false_or] at ha
  have hl : 2 ^ 256 + 2 ≤ lowBound ((2 * c + 1999) % 2000) := Nat.le_of_ble_eq_true ha
  have hp : 10 ^ 1 ≤ 10 ^ ((2 * c + 1999) / 2000) := Nat.pow_le_pow_right (by decide) (by omega)
  calc 10 * (2 ^ 256 + 2) = (2 ^ 256 + 2) * 10 ^ 1 := by ring
    _ ≤ lowBound ((2 * c + 1999) % 2000) * 10 ^ ((2 * c + 1999) / 2000) := Nat.mul_le_mul hl hp

theorem witness_LevelsRoundToNearestStep :
    (∀ c ≤ 20000, (compareAt 256 [] c).isSome = true) ∧ (levelOf []).2 = true
    ∧ (∀ c ≤ 20000, (compareAt 256 [(0, 1)] c).isSome = true) ∧ (levelOf [(0, 1)]).2 = false
    ∧ (levelOf [(0, 1)]).1 < 19999 := by
  have hb : ∀ a c, compareAt 256 a c =
      (if ((tenPower 256 root256 (2 * c + 1999)).2 : Int) < 10 * (intensityBounds 256 root256 a).1 then some true
      else if 10 * (intensityBounds 256 root256 a).2 < ((tenPower 256 root256 (2 * c + 1999)).1 : Int) then some false
      else none) := fun a c => by simp [compareAt, rootFloor]
  have h1 : intensityBounds 256 root256 [(0, 1)] = (2 ^ 256, 2 ^ 256 + 1) := by decide +kernel
  have hz : (compareAt 256 [] 0).isSome = true := by decide +kernel
  have ho : (compareAt 256 [(0, 1)] 0).isSome = true := by decide +kernel
  refine ⟨fun c _ => ?_, by decide +kernel, fun c _ => ?_, by decide +kernel, by decide +kernel⟩
  · rcases Nat.eq_zero_or_pos c with rfl | hc
    · exact hz
    · have := tenPower_low c hc
      rw [hb, if_neg, if_pos] <;> simp [intensityBounds]
      omega
  · rcases Nat.eq_zero_or_pos c with rfl | hc
    · exact ho
    · have := tenPower_low c hc
      rw [hb, h1]
      split
      · rfl
      · rw [if_pos]
        · rfl
        · dsimp only; omega

/-- A ring of `n` valid entries. -/
def ringOf (n : Nat) : List RingEntry := List.replicate n { second := 0, level := some 4000, overload := false }

theorem witness_PercentilesRankValidLevels :
    ((ringOf 449).filterMap (·.level)).length < 450 ∧ 450 ≤ ((ringOf 450).filterMap (·.level)).length
      ∧ percentile (ringOf 450) 10 = some 4000 ∧ percentile (ringOf 450) 50 = some 4000
      ∧ percentile (ringOf 450) 90 = some 4000 := by decide +kernel

/-- `someWindow` without its limit record, without data, excluded, or held to a limit it exceeds. -/
def unlimited : Window := { someWindow with limit := none }
def dataless : Window := { someWindow with data := 5 }
def excludedWindow : Window := { someWindow with excluded := 8 }
def exceeding : Window := { someWindow with sum := [(500, 8 * 10 ^ 7)] }

theorem witness_WindowJudgmentFollowsItsTables :
    (someWindow.judge 0 true (some 4000) 0).leq = some 6500
    ∧ ((someWindow.judge 0 true none 0).leq = some 6500 ∧ 5500 + 1000 ≤ 6500 ∧ 6500 < 5501 + 1000 ∧ 6200 + 300 ≤ 6500
      ∧ 6500 < 6201 + 300)
    ∧ someWindow.limit.isSome = true ∧ unlimited.limit = none
    ∧ (someWindow.judge 0 false none 0).site = some 6500
    ∧ (someWindow.judge 0 false none 0).outcome ≠ .exceeded ∧ (exceeding.judge 0 false none 0).outcome = .exceeded
    ∧ (excludedWindow.expected - excludedWindow.excluded = 0 ∧ 4 * dataless.data < 3 * (dataless.expected - dataless.excluded)) := by
  decide +kernel

/-- A check of channel 0 whose eight slices of PRE and of MEASURE sum to 8 times a power of ten each. -/
def measured (kind : CheckKind) (pre check : Intensity) : CheckEngine :=
  { CheckEngine.reset with stage := .measure, channel := some 0, kind := kind, preSum := pre, measureSum := check }

/-- The two levels and the response of such a check. -/
def checkLevels (k : CheckEngine) : Level × Level × Level :=
  let lpre := (levelOf (meanIntensity k.preSum 8)).1
  let lchk := (levelOf (meanIntensity k.measureSum 8)).1
  (lpre, lchk, (levelOf (subIntensity (levelIntensity lchk 1) (levelIntensity lpre 1))).1)

/-- At 84.80 the background is within 10 of a reference of 94.80, at 84.79 it is not; 79.99 over 70.00 is silent, 80.00 is
not; a deviation of -0.50 is within a tolerance of 0.50, and one of -0.51 is below it. -/
theorem witness_CheckResultsFollowTheirTables :
    (checkLevels (measured .manual [(480, 8 * 10 ^ 8)] [(480, 8 * 10 ^ 9)])).1 = 8480 ∧ 9480 ≤ 8480 + 1000
    ∧ (checkLevels (measured .manual [(479, 8 * 10 ^ 8)] [(480, 8 * 10 ^ 9)])).1 = 8479 ∧ ¬9480 ≤ 8479 + 1000
    ∧ checkLevels (measured .due [(0, 8 * 10 ^ 7)] [(999, 8 * 10 ^ 7)]) = (7000, 7999, 7953) ∧ 7999 < 7000 + 1000
    ∧ checkLevels (measured .due [(0, 8 * 10 ^ 7)] [(0, 8 * 10 ^ 8)]) = (7000, 8000, 7954) ∧ ¬8000 < 7000 + 1000
    ∧ (checkLevels (measured .forced [] [(430, 8 * 10 ^ 9)])).2.2 = 9430 ∧ -(50 : Int) ≤ 9430 - 9480
    ∧ (checkLevels (measured .forced [] [(429, 8 * 10 ^ 9)])).2.2 = 9429 ∧ (9429 : Int) - 9480 < -50
    ∧ (CheckRecord.incomplete .abort 0 .manual).deviation = none
    ∧ ((measured .manual [] [(480, 8 * 10 ^ 9)]).judge { ChannelEntry.default 0 with referenceResponse := 9480 } 0).deviation
        = some 0 := by decide +kernel

/-- What the arbiter reads with channels 0 and 1 enabled under auto check, their balances, quiet runs and readiness as
given. -/
def viewed (live0 : Bool) (b0 b1 : Int) (quiet : Nat) (deferring : Bool) : ArbiterView :=
  let a (b : Int) : CheckAccount := { CheckAccount.reset with balance := b, quiet := quiet }
  { run := true, locked := true
    map := joined.setChannel 1 { joined.channels[1] with autoCheck := true }
    live := (Vector.replicate 16 true).set 0 live0
    accounts := ((Vector.replicate 16 CheckAccount.reset).set 0 (a b0)).set 1 (a b1)
    deferring := Vector.replicate 8 deferring }

/-- The part with channel 0 due, its group's alert OFF, as the last second close left it or since. -/
def closedOn (on : Bool) : State :=
  { withBalance 5 live with groups := live.groups.set 0 { Group.reset with alertAtClose := on } }

theorem witness_ArbiterTakesFirstCandidate_boundary :
    (∀ b ∈ [(-3 : Int), 6], (owing b live).time.sliceIndex < 7 ∧ (owing b live).check.stage = .idle
      ∧ (owing b live).time.link = .locked ∧ (∀ i : Fin 6, (owing b live).coefs[i].waiting = none)
      ∧ (owing b live).channels[(0 : Chan)].account.balance = b)
    ∧ live.router.active.groups[(0 : Grp)].enabled = true ∧ live.router.active.groups[(1 : Grp)].enabled = false
    ∧ (∀ s ∈ [owing 6 live, closedOn true], s.control.secondTaken = false ∧ s.check.stage = .idle ∧ s.time.link = .locked)
    ∧ (closedOn true).groups[(0 : Grp)].alertOn = false := by
  and_intros <;> decide +kernel

/-- A due member waits while the last second close left the alert of its group ON, whatever has turned it OFF since, and is
chosen otherwise (R143). -/
theorem test_arbiter_reads_last_close :
    [true, false].map (fun on => (((closedOn on).arbiterView (Config.order 0) (Vector.replicate 8 0)).select
      (closedOn on).check).chosen) = [none, some (0, .due)] := by decide +kernel

theorem witness_ArbiterTakesFirstCandidate :
    (checkingAt .ending none).check.stage ≠ .idle ∧ { viewed true 6 6 0 false with locked := false }.locked = false
    ∧ (CheckEngine.reset.stage = .idle ∧ (viewed true 6 6 0 false).locked = true)
    ∧ ((viewed true 6 6 0 false).forced = some 0 ∧ (viewed false 6 6 0 false).forced = some 1)
    ∧ ((viewed false 5 5 0 false).forced = none ∧ ({ CheckEngine.reset with sweep := 3 }).sweep.getLsbD (0 : Chan).val = true
      ∧ (viewed false 5 5 0 false).ready 0 = false ∧ (viewed false 5 5 0 false).ready 1 = true)
    ∧ (({ CheckEngine.reset with sweep := 1 }).sweep.getLsbD (1 : Chan).val = false
      ∧ (viewed false 1 1 0 false).due = some 1)
    ∧ ((viewed true 1 5 0 false).due = some 1 ∧ (viewed true 5 5 0 false).due = some 0)
    ∧ ((viewed true 5 5 60 true).due = none ∧ (viewed true 5 5 60 true).early = none)
    ∧ ((viewed true (-3) 0 60 false).due = none ∧ (viewed true (-3) 0 60 false).early = some 1)
    ∧ (viewed true 0 0 59 false).early = none := by decide +kernel

theorem witness_RetroactiveEqualsProspective :
    canonicalIntensity someWindow.sum ∧ (∀ x ∈ [someSecond 0] ++ someSecond 1 :: [someSecond 2], canonicalIntensity x.sum)
      ∧ (someSecond 1).excluded = false := by decide +kernel

/-- A section whose output saturates at either end, and one that stays in range. -/
theorem witness_SectionStepRoundsAndSaturates :
    (268435456 * (2 * 2147483647 + 1) ≤ 2 * accumulator { extremeCoefs with b0 := 268435456 } SectionState.zero 2147483648)
    ∧ (2 * accumulator { extremeCoefs with b0 := 268435456 } SectionState.zero (-2147483649)
        < 268435456 * (2 * (-2147483648) - 1))
    ∧ ¬(268435456 * (2 * 2147483647 + 1) ≤ 2 * accumulator CoefSet.passThrough SectionState.zero 2147483647) := by
  decide +kernel

/-- An admitted record whose crest stands at a distance. -/
def heard (crest : Nat) : Admitted :=
  { levels := { intensity := [(0, 10 ^ 6)], lt := 6000, ltUnder := false, lpk := 6000 + crest, lpkUnder := false }
    overload := false, suspect := false }

/-- A window held to immediate limits one step below its group slice, or at it. -/
def strict (lmax peak : Level) : Window :=
  { someWindow with limit := some { someLimit with lmax := some lmax, peak := some peak } }

theorem witness_GroupSlicesFollowTheirTables :
    ([heard 0] ≠ [] ∧ (heard 0).overload = false)
    ∧ ((GroupEntry.default.crestThreshold : Int) ≤ ((heard 1500).levels.lpk : Int) - (heard 1500).levels.lt
      ∧ GroupEntry.default.impulseFloor ≤ (heard 1500).levels.lt
      ∧ ((heard 1499).levels.lpk : Int) - (heard 1499).levels.lt < GroupEntry.default.crestThreshold)
    ∧ (Group.reset.forming = none ∧ Group.reset.holdCount = 0
      ∧ { Group.reset with forming := some GroupForming.empty }.forming = some GroupForming.empty)
    ∧ (let x := formGroupSlice 0 0 false false [heard 1500]
      x.level = some 6000 ∧ x.maxPeak = some 7500 ∧ x.discarded = false
        ∧ raisesLmax true false (strict 5999 7499) x = true ∧ raisesPeak true (strict 5999 7499) x = true
        ∧ raisesLmax true false (strict 6000 7500) x = false ∧ raisesPeak true (strict 6000 7500) x = false
        ∧ raisesLmax true true (strict 5999 7499) x = false)
    ∧ (formGroupSlice 0 0 false false []).level = none := by decide +kernel

/-- Group seconds 1 to `n` of 8 data slices each, of level 60.00. -/
def steady (n : Nat) : List GroupSecond :=
  (List.range n).map fun k => { someSecond (k + 1) with data := 8, sum := [(0, 8 * 10 ^ 6)] }

/-- A group whose alert stands against a level, with a ring of steady seconds. -/
def alerted (on : Bool) (alert : Level) (hold : Nat) : Group :=
  { Group.reset with ring := steady 30, alertOn := on, alertLevel := some alert, alertPeriod := some 0, holdCount := hold }

theorem witness_AlertFollowsItsTables :
    ((steady 29).map (·.data)).sum < 4 * 60 ∧ 4 * 60 ≤ ((steady 30).map (·.data)).sum
      ∧ (alerted false 6000 0).alertLevel = some 6000 ∧ rollingLevel (alerted false 6000 0).ring 60 30 = some 6000
      ∧ rollingLevel (steady 29) 60 30 = none ∧ (6000 : Nat) < 6001
      ∧ ((alerted true 6101 0).alertOn = true ∧ 6000 + 100 < 6101 ∧ (alerted true 6101 0).holdCount = 0)
      ∧ (6100 ≤ 6000 + 100 ∧ 0 < (alerted true 6101 1).holdCount)
      ∧ (none : Option LimitRecord).bind (·.alert) = none
      ∧ ({ alerted true 6000 0 with forming := some GroupForming.empty }).forming = some GroupForming.empty
      ∧ (alerted true 6000 0).forming = none := by decide +kernel

/-- A hand-over that turns an alert OFF after the second close leaves what the close left (R129, R143). -/
theorem test_alert_at_close :
    (let closed := ((alerted true 6000 0).closeSecond 0 GroupEntry.default 31 none false).1
    let handed := (closed.handLimit 0 none none 32).1
    (closed.alertAtClose, handed.alertOn, handed.alertAtClose)) = (true, false, true) := by decide +kernel

/-- A part with a command waiting, at which every law holds. -/
def stepping (c : Instr) (s : State) : State := { s with pending := [c] }

theorem witness_QueuesAndStoresKeepTheirBounds :
    ((stepping (.passThroughCell [0]) live).queueLaw ∧ steps (stepping (.passThroughCell [0]) live) = true)
    ∧ (stepping (.eventTake (ask [])) withResults).eventLaw ∧ (stepping (.eventTake (ask [])) withResults).resultLaw
      ∧ steps (stepping (.eventTake (ask [])) withResults) = true := by decide +kernel

theorem witness_BalancesStayInRange : (stepping (.intervalTimerExpiry 0) live).balanceLaw
    ∧ steps (stepping (.intervalTimerExpiry 0) live) = true := by decide +kernel

theorem witness_ChecksStayExclusive :
    let s := stepping .sliceBoundary (phase .measure 7)
    s.channelLaw ∧ s.checkLaw ∧ steps s = true := by decide +kernel

theorem witness_TablesInForceStayValid :
    let s := stepping .secondBoundary (waiting 0)
    s.mapLaw ∧ s.scheduleLaw ∧ steps s = true := by decide +kernel

theorem witness_ChannelsHoldTheirState :
    (stepping .secondBoundary live).channelLaw ∧ steps (stepping .secondBoundary live) = true := by decide +kernel

theorem witness_RingsStayInOrder : (stepping .secondBoundary formed).ringLaw
    ∧ steps (stepping .secondBoundary formed) = true := by decide +kernel

theorem witness_WindowsBelongToRun : (stepping .secondBoundary assessing).windowLaw
    ∧ steps (stepping .secondBoundary assessing) = true := by decide +kernel

theorem witness_ExclusionListStaysInOrder :
    let s := stepping (.excludeEnd (ask [15])) (excluding [someExclusion 15])
    s.exclusionLaw ∧ steps s = true := by decide +kernel

theorem witness_TimeAndModeStayInRange :
    let s := stepping .secondBoundary (trimmed .run (-1))
    s.timeLaw ∧ s.modeLaw ∧ steps s = true := by decide +kernel

/-! ### Commands, against the examples and rules of spec/ -/

/-- POWER_ON reads the straps; every block is at its power-on values (R183, example of R181). -/
theorem test_power_on : leaves (.powerOn 2) live (fun t => decide (t.control.node = 2 ∧ t.control.mode = .boot
    ∧ t.channels = State.reset.channels)) = true := by decide +kernel

/-- A memory that does not answer leaves CONFIG with outcome NO RESPONSE (R188, example of R182). -/
theorem test_boot_no_response : leaves (.bootLoadEnd silentMemory) State.reset (fun t => decide (t.control.mode = .config
    ∧ t.control.bootOutcome = .noResponse ∧ t.control.portLog = [.start, .send 0xA0, .stop])) = true := by decide +kernel

/-- An image whose record 0 is a PERIOD ENTRY with its end minute equal to its start minute, or a GROUP LIMIT of 4 bytes, is
refused with outcome RECORD, index 0 (R189, as in the example of R190). -/
theorem test_boot_record : [periodRecord 4 1080, removal].all (fun body => leaves (.bootLoadEnd (image 1 body)) State.reset
    (fun t => decide (t.control.bootOutcome = .record 0 ∧ t.control.bootDefault = true))) = true := by decide +kernel

/-- A sample of 1,000 enters a channel of weighting Z times 256 (R16, R30), and goes out in slot 0 (R160). -/
theorem test_sample_frame : leaves (.sampleFrame oneSlot) live (fun t =>
    decide (t.channels[(0 : Chan)].slice.map (fun sl => (sl.n, sl.energy, sl.peak, sl.rawMin))
        = some (4501, 256000 ^ 2, 256000, some 0) ∧ t.trunk.frameOut = some oneSlot)) = true := by decide +kernel

/-- A quenched channel's slot carries its hold value, and the frame's check is recomputed (R160, R161). -/
theorem test_sample_frame_hold : leaves (.sampleFrame oneSlot) (quenched .hold) (fun t =>
    decide (t.trunk.frameOut = some { oneSlot with samples := [7], check := crc16 (frameBytes 1 5 [7]) }
      ∧ t.trunk.lastSent[0] = 7)) = true := by decide +kernel

/-- The 192nd missing frame declares link loss (R65). -/
theorem test_frame_period_loss : leaves .framePeriod (missing 191 .locked) (fun t =>
    decide (t.time.link = .holdOver ∧ t.time.missingRun = 0 ∧ t.events.queue.length = 1)) = true := by decide +kernel

/-- The 191st does not (R65), and the part sends no frame (R160). -/
theorem test_frame_period_run : leaves .framePeriod (missing 190 .locked) (fun t =>
    decide (t.time.link = .locked ∧ t.time.missingRun = 191 ∧ t.trunk.frameOut = none)) = true := by decide +kernel

/-- Link loss ends a check: DRIVE OFF goes to the hub, and the record reads INCOMPLETE, reason "link", with retry delay 60
(example of R138). -/
theorem test_link_loss : leaves .linkLoss (checkingAt .measure (some 5)) (fun t =>
    decide (t.trunk.hub = [requestCell 4 true 71 0 [5]] ∧ t.check.stage = .ending
      ∧ t.channels[(0 : Chan)].account.retry = 60
      ∧ t.channels[(0 : Chan)].account.record.map (fun r => (r.code, r.reason)) = some (.incomplete, some .link))) = true := by
  decide +kernel

/-- An outage of 2,880,000 frame periods is 60 s and owes a check (R66, R67). -/
theorem test_link_restoration : leaves .linkRestoration (outage 2880000) (fun t =>
    decide (t.channels[(0 : Chan)].account.balance = 1 ∧ t.channels[(0 : Chan)].cond.restoreHeld = true
      ∧ t.events.queue.map (fun e => (e.event.kind, e.event.detail)) = [(.linkRestored, some 60)])) = true := by
  decide +kernel

/-- An outage of 2,879,999 frame periods is 59 s and owes nothing (example of R67). -/
theorem test_link_restoration_short : leaves .linkRestoration (outage 2879999) (fun t =>
    decide (t.channels[(0 : Chan)].account.balance = 0)) = true := by decide +kernel

/-- A slice of 4,500 samples has data; one of fewer has none (R33), and its record carries its position (R32). -/
theorem test_slice_boundary : leaves .sliceBoundary live (fun t =>
    decide (t.time.sliceIndex = 1
      ∧ t.channels[(0 : Chan)].latestSlice.map (fun r => (r.second, r.index, r.n, r.hasData, r.signal))
        = some (0, 0, 4500, true, .present))) = true := by decide +kernel

/-- The eighth data slice of SETTLING makes the channel LIVE (R50). -/
theorem test_slice_settled : leaves .sliceBoundary (conditioned { Condition.reset with state := .settling, settleCount := 7 } true)
    (fun t => decide (t.channels[(0 : Chan)].cond.state = .live)) = true := by decide +kernel

/-- The second after day 6, second-of-day 86,399 is day 0, second-of-day 0 (example of R64). -/
theorem test_second_boundary_midnight : leaves .secondBoundary
    { running with time := { running.time with day := 6, second := 86399 } }
    (fun t => decide (t.time.here = { day := 0, second := 0 } ∧ t.time.runningSecond = 1)) = true := by decide +kernel

/-- In CONFIG, day 0, second-of-day 2 with balance -4 is followed by day 6, second-of-day 86,399 (example of R71). -/
theorem test_second_boundary_trim : leaves .secondBoundary
    { trimmed .config (-4) with time := { (trimmed .config (-4)).time with second := 2 } }
    (fun t => decide (t.time.here = { day := 6, second := 86399 } ∧ t.time.trim = 0)) = true := by decide +kernel

/-- The interval timer raises the balance from 5 to 6 with CHECK OVERDUE (R140). -/
theorem test_interval_timer : leaves (.intervalTimerExpiry 0)
    { live with channels := live.channels.set 0 { live.channels[(0 : Chan)] with
        account := { CheckAccount.reset with balance := 5, timer := 9 } } }
    (fun t => decide (t.channels[(0 : Chan)].account = { CheckAccount.reset with balance := 6 }
      ∧ t.events.queue.map (·.event.kind) = [.checkOverdue])) = true := by decide +kernel

/-- Code 70 with the write flag set is answered UNKNOWN (example of R180). -/
theorem test_control_cell_unknown : leaves (.controlCell (requestCell 0 true 70 9 [])) running
    (fun t => decide (lastAnswer t = [2])) = true := by decide +kernel

/-- A broadcast SET TIME is acted on, goes up the lane, and is not answered (R68, R164). -/
theorem test_control_cell_broadcast : leaves (.controlCell (requestCell 7 false 4 9 [2, 0, 0x62, 0x71])) config
    (fun t => decide (t.time.pendingTime = some { day := 2, second := 25201 } ∧ t.trunk.out = []
      ∧ t.trunk.retThrough.length = 1)) = true := by decide +kernel

/-- A cell of n = 10 whose fifteenth byte is late is faulted TIMEOUT (example of R165). -/
theorem test_cell_timeout : leaves (.cellTimeout [0, 50, 1, 10, 0, 0] false) running
    (fun t => decide (t.trunk.lastFault = some .timeout ∧ t.trunk.parser = .hunting)) = true := by decide +kernel

/-- Another node's cell leaves no fault (R165). -/
theorem test_cell_timeout_other : leaves (.cellTimeout [1, 50] true) running
    (fun t => decide (t.trunk.lastFault = none ∧ t.trunk.parser = .inCell [])) = true := by decide +kernel

/-- A length field above 48 faults the cell LENGTH (R165). -/
theorem test_cell_length_fault : leaves (.cellLengthFault [7, 50, 1, 49]) running
    (fun t => decide (t.trunk.lastFault = some .length)) = true := by decide +kernel

/-- A cell arriving while the pass-through buffer holds 4 is discarded with the flag set (R162). -/
theorem test_pass_through_full : leaves (.passThroughCell [9])
    { running with trunk := { running.trunk with through := [[1], [2], [3], [4]] } }
    (fun t => decide (t.trunk.through.length = 4 ∧ t.trunk.discard = true)) = true := by decide +kernel

/-- With both sources holding cells the source whose turn it is sends, and the turn passes (R162). -/
theorem test_forward_window : leaves .forwardCellWindow (contested .own)
    (fun t => decide (t.trunk.cellOut = some [0, 1, 2] ∧ t.trunk.turn = .passThrough ∧ t.trunk.through = [[1]])) = true := by
  decide +kernel

/-- Hub cells go before pass-through cells (R166). -/
theorem test_return_lane : leaves .returnLaneSend (returning [[1]])
    (fun t => decide (t.trunk.returnOut = some [1] ∧ t.trunk.retThrough = [[2]])) = true := by decide +kernel

/-- An unknown code is answered UNKNOWN with an empty payload (R180). -/
theorem test_unknown_command : leaves (.unknownCommand 99 (tell [1, 2])) State.reset
    (fun t => decide (lastAnswer t = [2])) = true := by decide +kernel

/-- A part strapped as node 2 answers part number 1608, node 2, 16 channels and 8 groups (example of R181). -/
theorem test_identify : leaves (.identify (ask []))
    { State.reset with control := { State.reset.control with node := 2 } }
    (fun t => decide (lastAnswer t = [0, 0x06, 0x48, 1, 2, 16, 8, 0x02, 0x00, 64, 16, 0x20, 0x00])) = true := by
  decide +kernel

/-- STATUS part 0 opens with mode, lock level and boot outcome; STATUS(3) is BAD_ARGUMENT (example of R182). -/
theorem test_status : leaves (.status (ask []))
    { config with control := { config.control with bootOutcome := .noResponse } }
    (fun t => decide ((lastAnswer t).take 7 = [0, 1, 0, 2, 0xFF, 0xFF, 1] ∧ (lastAnswer t).length = 152)) = true := by
  decide +kernel
theorem test_status_part : leaves (.status (ask [3])) config (fun t => decide (lastAnswer t = [3])) = true := by
  decide +kernel

/-- SET MODE RUN at position 30,050 inside a 15-minute period opens a late window from 30,050 to 30,600 (example of
R184). -/
theorem test_set_mode_run : leaves (.setMode (ask [2]))
    { scheduled with
      time := { scheduled.time with second := 30050 }
      schedules := { Schedules.reset with active := oneEntry { dayEntry with length := .m15 } } }
    (fun t => decide (t.control.mode = .run ∧ t.groups[(0 : Grp)].openWindow.map
        (fun w => (w.start, w.stop, w.flags.lateStart)) = some (30050, 30600, true))) = true := by decide +kernel

/-- SET MODE CONFIG closes the open window at once, truncated (R113). -/
theorem test_set_mode_config : leaves (.setMode (ask [1])) assessing
    (fun t => decide (t.results.ring.map (fun r => (r.sequence, r.outcome, r.flags.truncated)) = [(0, .excluded, true)]
      ∧ t.groups[(0 : Grp)].openWindow = none)) = true := by decide +kernel

/-- With the clock set, SET TIME outside CONFIG is WRONG_MODE, and in CONFIG PENDING with its echo (R68). -/
theorem test_set_time_run : leaves (.setTime (ask [2, 0, 0x62, 0x70])) running
    (fun t => decide (lastAnswer t = [4, 0] ∧ t.time.pendingTime = none)) = true := by decide +kernel
theorem test_set_time_config : leaves (.setTime (ask [2, 0, 0x62, 0x70])) config
    (fun t => decide (lastAnswer t = [1, 2, 0, 0x62, 0x70])) = true := by decide +kernel

/-- With balance -3, TRIM TIME(+5) gives +1 and applies +4; TRIM TIME(-9) then gives -3 and applies -4 (example of R70). -/
theorem test_trim_up : leaves (.trimTime (ask [5])) (trimmed .run (-3))
    (fun t => decide (t.time.trim = 1 ∧ lastAnswer t = [0, 4])) = true := by decide +kernel
theorem test_trim_down : leaves (.trimTime (ask [0xF7])) (trimmed .run 1)
    (fun t => decide (t.time.trim = -3 ∧ lastAnswer t = [0, 0xFC])) = true := by decide +kernel

/-- RESTART sends DRIVE OFF, empties the queue, enters CONFIG and keeps the lock at 1 (example of R186). -/
theorem test_restart : leaves (.restart (ask []))
    { checkingAt .establish (some 5) with
      control := { running.control with lock := 1 }
      events := { queue := List.replicate 40 someEvent, next := 40 } }
    (fun t => decide (t.trunk.hub = [requestCell 4 true 71 0 [5]] ∧ t.events.queue = [] ∧ t.control.mode = .config
      ∧ t.control.lock = 1 ∧ lastAnswer t = [0])) = true := by decide +kernel

/-- RESTART clears the filters of a disabled channel too, and keeps its hold value (R28, R161). -/
theorem test_restart_paths : leaves (.restart (ask []))
    { config with channels := config.channels.set 3 { Channel.reset with
        holdValue := 7, levelPath := { PathState.zero with sec1 := { SectionState.zero with y1 := 5 } } } }
    (fun t => decide (t.channels[(3 : Chan)] = { Channel.reset with holdValue := 7 })) = true := by decide +kernel

/-- In CONFIG at level 0, LOCK 2 is WRONG_MODE; LOCK 1 is OK, level 1, with its event (example of R187). -/
theorem test_lock_two : leaves (.lock (ask [2])) config (fun t => decide (lastAnswer t = [4, 0] ∧ t.control.lock = 0)) = true := by
  decide +kernel
theorem test_lock_one : leaves (.lock (ask [1])) config
    (fun t => decide (lastAnswer t = [0, 1] ∧ t.control.lock = 1 ∧ t.events.queue.map (·.event.detail) = [some 1])) = true := by
  decide +kernel

/-- Overload count 0, check interval 30 and tolerance 3.00 are stored as 1, 60 and 2.00 (example of R2). -/
theorem test_map_channel_write : leaves (.mapChannelWrite (tell
      [1, 6, 0, 17, 0, 0, 0x33, 0x45, 2, 255, 40, 0, 200, 0, 0, 1, 0, 30, 0x25, 0x08, 0x01, 0x2C, 0, 0])) config
    (fun t => decide (t.router.bankB.channels[(6 : Chan)] = { ChannelEntry.default 6 with
        enabled := true, sourceSlot := 17, sensitivity := 13125, absentThreshold := 200, checkInterval := 60
        referenceResponse := 9480, tolerance := 200 }
      ∧ ((lastAnswer t).drop 14).take 1 = [1])) = true := by decide +kernel

/-- A source slot of 64 is BAD_ARGUMENT (R2). -/
theorem test_map_channel_slot : leaves (.mapChannelWrite (tell
      [1, 6, 0, 64, 0, 0, 0x33, 0x45, 2, 255, 40, 0, 200, 0, 0, 1, 0, 30, 0x25, 0x08, 0x01, 0x2C, 0, 0])) config
    (fun t => decide (t.router = config.router ∧ lastAnswer t = [3])) = true := by decide +kernel

/-- The default entry of channel 9 read from the active map: source slot 9, disabled (R2, R5). -/
theorem test_map_channel_read : leaves (.mapChannelRead (ask [2, 9])) config
    (fun t => decide ((lastAnswer t).take 5 = [0, 2, 9, 1, 9])) = true := by decide +kernel

/-- With no commit outstanding the pending map is NOT_AVAILABLE (example of R5). -/
theorem test_map_channel_pending : leaves (.mapChannelRead (ask [3, 9])) config
    (fun t => decide (lastAnswer t = [8])) = true := by decide +kernel

/-- Alert window 1,200 and impulse hold 0 are stored as 900 and 1 (example of R6). -/
theorem test_map_group_write : leaves (.mapGroupWrite (tell [0, 2, 0, 255, 1, 0x04, 0xB0, 0x05, 0xDC, 0x17, 0x70, 0])) config
    (fun t => decide (lastAnswer t = [0, 0, 2, 0, 255, 1, 0x03, 0x84, 0x05, 0xDC, 0x17, 0x70, 1])) = true := by
  decide +kernel

/-- The default group entry in its twelve bytes (R3, R175). -/
theorem test_map_group_read : leaves (.mapGroupRead (ask [0, 7])) config
    (fun t => decide (lastAnswer t = [0, 0, 7, 1, 255, 1, 0x01, 0x2C, 0x05, 0xDC, 0x17, 0x70, 8])) = true := by
  decide +kernel

/-- An enabled member with group none fails with MEMBER_NO_GROUP and its index, before the group's fault (example of R8). -/
theorem test_map_commit_member : leaves (.mapCommit (ask [0])) (banked lostMember (some 12) 0)
    (fun t => decide (lastAnswer t = [7, 0, 3])) = true := by decide +kernel

/-- A locked field that differs fails at level 1 (R8). -/
theorem test_map_commit_locked : leaves (.mapCommit (ask [0])) (banked recalibrated none 1)
    (fun t => decide (lastAnswer t = [7, 3, 3])) = true := by decide +kernel

/-- COEF SECTION in CONFIG at level 0 is PENDING with its echo (R23); the power-on default of A section 2 reads as
b0 = 268,435,456 and zeros (example of R24). -/
theorem test_coef_write : leaves (.coefSectionWrite (tell (coefBytes 4 extremeCoefs))) config
    (fun t => decide (t.coefs[4].waiting = some extremeCoefs ∧ lastAnswer t = 1 :: coefBytes 4 extremeCoefs)) = true := by
  decide +kernel
theorem test_coef_read : leaves (.coefSectionRead (ask [0, 2])) config
    (fun t => decide (lastAnswer t = [0, 0, 2, 0x10, 0, 0, 0] ++ List.replicate 16 0)) = true := by decide +kernel

/-- Start minute 1,080 with end minute 1,080 is BAD_ARGUMENT; with end minute 1,320 it is stored (example of R94). -/
theorem test_period_write_bad : leaves (.periodEntryWrite (tell [0, 4, 0, 31, 0x04, 0x38, 0x04, 0x38, 60])) config
    (fun t => decide (lastAnswer t = [3])) = true := by decide +kernel
theorem test_period_write : leaves (.periodEntryWrite (tell [0, 4, 0, 31, 0x04, 0x38, 0x05, 0x28, 60])) config
    (fun t => decide (lastAnswer t = [0, 0, 4, 0, 31, 0x04, 0x38, 0x05, 0x28, 60]
      ∧ t.schedules.staged[(4 : Per)].endMinute = 1320)) = true := by decide +kernel

/-- A read returns the entry and the groups that have a record in it (R94). -/
theorem test_period_read : leaves (.periodEntryRead (ask [2, 0])) scheduled
    (fun t => decide (lastAnswer t = [0, 2, 0, 0, 127, 0x01, 0xA4, 0x04, 0x74, 60, 1])) = true := by decide +kernel

/-- Leq limit 75.00, Lmax limit 90.00, penalty 12.50 and threshold 10: the answer carries penalty 10.00, alert level and
peak limit absent (example of R95). -/
theorem test_limit_write : leaves (.groupLimitWrite (tell
      [0, 3, 2, 0, 0x02, 0x1D, 0x4C, 0, 0, 0x23, 0x28, 0, 0, 0x04, 0xE2, 10])) config
    (fun t => decide (lastAnswer t
      = [0, 0, 3, 2, 0, 0x02, 0x1D, 0x4C, 0xFF, 0xFF, 0x23, 0x28, 0xFF, 0xFF, 0x03, 0xE8, 10])) = true := by decide +kernel

/-- Action remove makes the record absent (R95), and has the 16 bytes of the write form (R175, R180). -/
theorem test_limit_remove : leaves (.groupLimitRemove (tell ([0, 0, 0, 1] ++ List.replicate 12 255)))
    { scheduled with schedules := { scheduled.schedules with staged := oneEntry dayEntry } }
    (fun t => decide (t.schedules.staged[(0 : Per)].limits[(0 : Grp)] = none ∧ lastAnswer t = [0])) = true := by
  decide +kernel
theorem test_limit_remove_length : leaves (.groupLimitRemove (tell [0, 0, 0, 1])) scheduled
    (fun t => decide (lastAnswer t = [3])) = true := by decide +kernel

/-- A record that is absent is NOT_AVAILABLE (R95). -/
theorem test_limit_read : leaves (.groupLimitRead (ask [2, 0, 1, 0])) scheduled
    (fun t => decide (lastAnswer t = [8])) = true := by decide +kernel

/-- Entries that share a day and overlap are refused with OVERLAP and the pair; entries that meet at a minute are not
(example of R96). -/
theorem test_schedule_overlap : leaves (.scheduleCommit (ask [0])) (staged dayEntry)
    (fun t => decide (lastAnswer t = [7, 4, 1, 2])) = true := by decide +kernel
theorem test_schedule_commit : leaves (.scheduleCommit (ask [0])) (staged PeriodEntry.default)
    (fun t => decide (lastAnswer t = [1, 0] ∧ t.schedules.pendingSchedule.isSome = true)) = true := by decide +kernel

/-- At second 50,000, offset -1,000 and duration 300 give 49,100 to 49,300, clipped; duration 50 covers nothing (example
of R121). -/
theorem test_exclude_add : leaves (.excludeAdd (tell [0xFF, 0xFF, 0xFC, 0x18, 0, 0, 0x01, 0x2C, 4, 3]))
    { config with time := { config.time with runningSecond := 50000 } }
    (fun t => decide (t.exclusions
      = [{ id := 0, mask := 4, start := 49100, stop := some 49300, reason := 3, clipped := true }])) = true := by
  decide +kernel
theorem test_exclude_add_nothing : leaves (.excludeAdd (tell [0xFF, 0xFF, 0xFC, 0x18, 0, 0, 0, 50, 4, 3]))
    { config with time := { config.time with runningSecond := 50000 } }
    (fun t => decide (t.exclusions = [] ∧ lastAnswer t = [3])) = true := by decide +kernel

/-- EXCLUDE END gives an open entry the end of the current second (R123). -/
theorem test_exclude_end : leaves (.excludeEnd (ask [15])) (excluding [someExclusion 15])
    (fun t => decide (t.exclusions.map (·.stop) = [some 1001])) = true := by decide +kernel

/-- EXCLUDE CLEAR removes the entry it names (R124). -/
theorem test_exclude_clear : leaves (.excludeClear (ask [1])) (excluding [someExclusion 1, someExclusion 0])
    (fun t => decide (t.exclusions.map (·.id) = [0])) = true := by decide +kernel

/-- The list in its order, after the current second and the count; an id not held is NOT_AVAILABLE (example of R125). -/
theorem test_exclude_list : leaves (.excludeRead (ask [255])) (excluding [someExclusion 1, someExclusion 0, someExclusion 2])
    (fun t => decide (lastAnswer t = [0, 0, 0, 0x03, 0xE8, 3, 1, 0, 2])) = true := by decide +kernel
theorem test_exclude_read : leaves (.excludeRead (ask [5])) (excluding [someExclusion 1])
    (fun t => decide (lastAnswer t = [8])) = true := by decide +kernel

/-- CHECK START takes the enabled channels of the mask; while a sweep is pending it is BUSY (example of R144). -/
theorem test_check_start : leaves (.checkStart (ask [0x02, 0x25])) live
    (fun t => decide (lastAnswer t = [0, 0, 1] ∧ t.check.sweep = 1)) = true := by decide +kernel
theorem test_check_start_busy : leaves (.checkStart (ask [0, 1])) (checkingAt .ending none)
    (fun t => decide (lastAnswer t = [6])) = true := by decide +kernel

/-- CHECK ABORT answers the channel and the number removed from the sweep, and withdraws a start (R138, R145). -/
theorem test_check_abort : leaves (.checkAbort (ask [])) (checkingAt .starting none)
    (fun t => decide (lastAnswer t = [0, 0, 1] ∧ t.check.stage = .idle ∧ t.check.sweep = 0)) = true := by decide +kernel

/-- A channel without a record: yes-or-no value no, every field absent, then balance, retry delay and quiet run (R146;
absent values: R170). -/
theorem test_check_read : leaves (.checkRead (ask [0])) live
    (fun t => decide (lastAnswer t = [0, 1, 0xFF, 0xFF, 0xFF, 0xFF, 0x80, 0, 0xFF, 0xFF, 0xFF, 0xFF, 0xFF, 0xFF, 0xFF, 0xFF,
      0xFF, 0xFF, 0, 0, 0])) = true := by decide +kernel

/-- The cleared summary: minimum +99.99, maximum -99.99 (R147). -/
theorem test_check_summary : leaves (.checkSummary (ask [])) live
    (fun t => decide (lastAnswer t = [0, 0, 0, 0, 0, 1, 0, 0x27, 0x0F, 0xD8, 0xF1])) = true := by decide +kernel

/-- LEVEL READ(16) is BAD_ARGUMENT (example of R45). -/
theorem test_level_read : leaves (.levelRead (ask [16])) live (fun t => decide (lastAnswer t = [3])) = true := by
  decide +kernel

/-- STATS READ of an empty ring: entries 0, valid 0, percentiles unavailable (R86, R88). -/
theorem test_stats_read : leaves (.statsRead (ask [0])) live
    (fun t => decide (lastAnswer t = [0, 0, 2, 0, 0, 0, 0, 0, 0] ++ List.replicate 16 0xFF)) = true := by decide +kernel

/-- A sequence not held is NOT_AVAILABLE with the oldest and newest held (example of R151). -/
theorem test_result_read : leaves (.resultRead (ask [0, 1])) withResults
    (fun t => decide (lastAnswer t = [8, 0, 0xFF, 0xFF, 0, 0, 0])) = true := by decide +kernel

/-- EVENT TAKE removes the oldest record, and its header carries the count after the removal (R156). -/
theorem test_event_take : leaves (.eventTake (ask [])) crowded
    (fun t => decide (t.events.queue.length = 63 ∧ (t.trunk.out.getLast?.map fun c => c.bytes[8]?) = some (some 63))) = true := by
  decide +kernel
theorem test_event_take_empty : leaves (.eventTake (ask [])) live (fun t => decide (lastAnswer t = [9])) = true := by
  decide +kernel

/-! ### Arithmetic, against the worked examples -/

/-- A tone of 0.1 FS amplitude under sensitivity 130.00 gives 106.99 (example of R35). -/
theorem test_level_tone : levelOf (levelIntensity 13000 (1 / 200)) = (10699, false) := by decide +kernel

/-- 68.00 over a background of 58.01 is background-corrected to 67.54, and over 58.00 stands (example of R107). -/
theorem test_site_level : siteLevel 6800 5801 = (6754, false, false) ∧ siteLevel 6800 5800 = (6800, false, false) := by
  decide +kernel

/-- The response of 95.20 over 71.30 is 95.18, within 0.50 of 94.80: PASS (example of R136). -/
theorem test_response : (levelOf (subIntensity (levelIntensity 9520 1) (levelIntensity 7130 1))).1 = 9518
    ∧ judgedCode false 7130 9520 9480 50 38 = .pass := by decide +kernel

/-- The ranks of the table of R86. -/
theorem test_percentile_ranks : [450, 451, 452, 600, 900].map (fun v => [10, 50, 90].map (percentileRank v))
    = [[45, 225, 405], [46, 226, 406], [46, 226, 407], [60, 300, 540], [90, 450, 810]] := by decide

/-- Gain 2 on 2,000,000,000 saturates (example of R19). -/
theorem test_section_saturates :
    sectionStep { CoefSet.passThrough with b0 := 536870912 } SectionState.zero 2000000000
      = ({ SectionState.zero with s1 := 2000000000, y1 := 2147483647 }, 2147483647, true) := by decide

/-- 30-minute windows of a period from 420 to 490: the last is 28,800 to 29,400 and short (example of R100). -/
theorem test_aligned_window :
    alignedWindow { dayEntry with endMinute := 490, length := .m30 } 29000 = (28800, 29400, true) := by decide

/-- A held second after day 2, second-of-day 86,399 stays at it and waits at midnight of day 3 (R64, R73). -/
theorem test_held_midnight :
    let x := { TimeBase.reset with day := 2, second := 86399, trim := -1 }.secondBoundary .run
    x.time.here = { day := 2, second := 86399 } ∧ x.time.held = true ∧ x.handed = [.waited { day := 3, second := 0 }] := by
  decide +kernel

/-- A channel second is discarded when all its records are, emptied inside the second or not (R42). -/
theorem test_second_discarded : [(8, 8), (3, 3), (8, 7), (0, 0)].map (fun x =>
    ({ SecondForming.empty with records := x.1, discardedSlices := x.2 }.close 0).discarded) = [true, true, false, false] := by
  decide +kernel

/-- A window truncated by the disabling of its group closes under the entry the activation brings, whatever order is drawn
(R9, R14, R89). -/
theorem test_truncated_background :
    let op := (turning assessing ((joined.setGroup 0 { GroupEntry.default with correction := true }))).opening true
    let rings : BoundaryRings := { unactivated := Vector.replicate 16 [], after := Vector.replicate 16 [] }
    [true, false].map (fun b => assessing.backgroundAtBoundary { yes := fun _ => b, keys := [] } op rings 0
      { someWindow with flags := { someWindow.flags with truncated := true } }) = [(true, none), (true, none)] := by
  decide +kernel

/-- A window that takes the first second of a changed membership is flagged, whenever it opened (R102). -/
theorem test_window_membership : [true, false].map (fun first =>
    (opened.windowRecord (someSecond 0) first).openWindow.map (·.flags.membership)) = [some true, some false] := by
  decide +kernel

/-- An EXCLUDE ADD to the broadcast address adds its entry at a node whose outgoing queue is full, clipped as in the example of
R121, and enters no answer. -/
theorem test_broadcast_exclusion :
    leaves (.excludeAdd (shout (beSigned 4 (-1000) ++ beBytes 4 300 ++ [4, 3])))
        { full (excluding []) with time := { running.time with runningSecond := 50000 } } (fun t => decide (
      t.exclusions = [{ id := 0, mask := 4, start := 49100, stop := some 49300, reason := 3, clipped := true }]
        ∧ t.trunk.out.length = 8 ∧ t.trunk.lastFault = none)) = true := by decide +kernel

/-- An activation that disables the checked channel at the boundary that ends ENDING decides no second result (log 24). -/
theorem test_ending_keeps_result :
    (checkingAt .ending none).check.atBoundary (fun _ => none) oneChannel ChannelMap.default (fun _ => true) 5
      = .quiet (checkingAt .ending none).check.toIdle := by decide +kernel

/-- A held second is told to the window kept through it, due or open, and not to one opened as it ends (R73, R103, R104). -/
theorem test_held_tells_kept_window :
    let turned := { opened with
      dueWindows := [someWindow], openWindow := some { someWindow with start := 28800, firstSecond := 3 } }
    let told (n : Nat) (gr : Group) : Group := gr.windowRecord { someSecond n with position := none } false
    (told 2 turned).dueWindows.map (·.flags.trim) = [true] ∧ (told 2 turned).openWindow.map (·.flags.trim) = some false
      ∧ (told 3 turned).openWindow.map (·.flags.trim) = some true
      ∧ (told 0 opened).openWindow.map (·.flags.trim) = some true := by decide +kernel

/-- A due window takes the record of its last position, and one truncated that of the second that ends; one whose last
position was skipped has closed without it (R106). -/
theorem test_skipped_due_closes_at_once :
    let taken (n : Nat) (cut : Bool) : List Nat := (({ opened with
      openWindow := none, dueWindows := [{ someWindow with flags := { someWindow.flags with truncated := cut } }] }
        : Group).windowRecord (someSecond n) false).dueWindows.map (·.expected)
    taken 3599 false = [16] ∧ taken 3598 false = [8] ∧ taken 3598 true = [16] := by decide +kernel

/-- The second 28,799 ends under a forward trim of 2: a window due at the skipped 28,800 takes its record before 28,801 is
counted in the next window, even where the close comes last; where none waits, the close may come after both (R106). -/
theorem test_close_before_next_skip :
    let reaches : List Reach := [.skipped { day := 0, second := 28800 }, .skipped { day := 0, second := 28801 },
      .opened { day := 0, second := 28802 }].map fun h => { handed := h, schedule := oneEntry dayEntry, activated := none }
    let counted (gr : Group) : Group × List Emission := ({ gr with holdCount := (gr.openWindow.map (·.expected)).getD 0 }, [])
    [28799, 28798].map (fun q => (Group.turnSecond (meeting true true) counted (some { day := 0, second := q })
      (fun _ => false) 0 true reaches opened).1.holdCount) = [8, 16] := by decide +kernel

/-- An immediate activation at a held second that waits at an aligned start opens the window at once, and not late; one that
waits elsewhere opens it late (R101; log 54). -/
theorem test_waited_aligned_start : [28800, 28801].map (fun p => ((Group.reset.reach (meeting true true)
      { handed := .waited { day := 0, second := p }, schedule := oneEntry dayEntry, activated := some .immediate }
      true).1.openWindow.map fun w => (w.start, w.flags.lateStart))) = [some (28800, false), some (28801, true)] := by
  decide +kernel

/-- The onsets of the example of R115: indices 0 and 3 impulsive within one hold count one onset. -/
theorem test_hold_counts : holdAfter GroupEntry.default 0 true = (8, true)
    ∧ holdAfter GroupEntry.default 6 true = (8, false) ∧ holdAfter GroupEntry.default 8 false = (7, false) := by decide

end Sys2Proof.Tests
end

section
namespace Sys2Proof.Machine

/-! ### Taking a request -/

/-- Whatever holds of the state, and of every state its rule leaves on operands that can be read, holds of the reply's. -/
theorem takeAlways_state {α : Type} {Q : State → Prop} {s : State} {operands : Option α} {rule : α → Reply} (hs : Q s)
    (ha : ∀ a, operands = some a → Q (rule a).state) : Q (takeAlways s operands rule).state := by
  cases operands with
  | none => exact hs
  | some a => exact ha a rfl

/-- The same of a command that is not taken in BOOT. -/
theorem takeOutsideBoot_state {α : Type} {Q : State → Prop} {s : State} {operands : Option α} {rule : α → Reply}
    (hs : Q s) (ha : ∀ a, operands = some a → s.control.mode ≠ .boot → Q (rule a).state) :
    Q (takeOutsideBoot s operands rule).state := by
  refine takeAlways_state hs fun a h => ?_
  split
  · exact hs
  · exact ha a h ‹_›

/-- A property that records, answers and cell faults leave alone passes through a request from its rule. -/
theorem State.serve_keeps {Q : State → Prop} (hemit : ∀ u n l, Q u → Q (u.emit n l))
    (hanswer : ∀ u w code tag k p, Q u → Q (u.answer w code tag k p)) (hfault : ∀ u f, Q u → Q (u.cellFault f))
    {s : State} {code : Byte} {w b : Bool} {r : Request} {rule : State → Reply} (hs : Q s) (hr : Q (rule s).state) :
    Q (s.serve code w b r rule) := by
  unfold State.serve
  split
  · split
    · exact hemit _ _ _ hr
    · exact hs
  · split
    · exact hanswer _ _ _ _ _ _ (hemit _ _ _ hr)
    · exact hfault _ _ hs

/-! ### The laws of the tables -/

/-- The maps, the lock and the schedules obey their laws (R8, R10, R96, R97, R187). -/
def State.tablesLaw (s : State) : Prop := s.mapLaw ∧ s.scheduleLaw

/-- Two states with the same maps, schedules and lock. -/
def SameTables (s t : State) : Prop :=
  t.router = s.router ∧ t.schedules = s.schedules ∧ t.control.lock = s.control.lock ∧ t.control.locked = s.control.locked

/-- The laws of the tables read the maps, the schedules and the lock alone. -/
theorem State.tablesLaw.congr {s t : State} (h : s.tablesLaw) (e : SameTables s t) : t.tablesLaw := by
  obtain ⟨hr, hs, hl, hk⟩ := e
  unfold State.tablesLaw State.mapLaw State.scheduleLaw at *
  rwa [hr, hs, hl, hk]

theorem State.tablesLaw.emit {s : State} (n : Nat) (l : Chains) (h : s.tablesLaw) : (s.emit n l).tablesLaw :=
  h.congr (by simp [SameTables])

theorem State.tablesLaw.answer {s : State} (w : Bool) (code tag : Byte) (k : ResultCode) (p : List Byte) (h : s.tablesLaw) :
    (s.answer w code tag k p).tablesLaw := h.congr (by simp [SameTables])

theorem State.tablesLaw.cellFault {s : State} (f : CellFault) (h : s.tablesLaw) : (s.cellFault f).tablesLaw :=
  h.congr (by simp [SameTables])

/-- A request keeps the laws of the tables where its rule does. -/
theorem State.tablesLaw.serve {s : State} {code : Byte} {w b : Bool} {r : Request} {rule : State → Reply} (h : s.tablesLaw)
    (hr : (rule s).state.tablesLaw) : (s.serve code w b r rule).tablesLaw :=
  State.serve_keeps (fun _ n l h => h.emit n l) (fun _ w c t k p h => h.answer w c t k p) (fun _ f h => h.cellFault f) h hr

/-! ### Commits -/

/-- A map that passes the validation of R8 passes its tests 1 and 2. -/
theorem tableFault_of_validateMap {lock : Nat} {locked : Option (Vector LockedFields 16)} {m : ChannelMap}
    (h : validateMap lock locked m = none) : tableFault m = none := by
  unfold validateMap at h
  split at h
  · cases h
  · assumption

/-- A committed bank is a valid pending map (R7, R8). -/
theorem State.tablesLaw.commitMap {s : State} {k : Bank} (h : s.tablesLaw) (hk : tableFault (s.router.bank k) = none) :
    (s.commitMap k).tablesLaw := by
  obtain ⟨⟨ha, -, hl⟩, hs⟩ := h
  refine ⟨⟨ha, ?_, hl⟩, hs⟩
  rintro p ⟨⟩
  exact hk

/-- A committed staged schedule is a valid pending one (R96). -/
theorem State.tablesLaw.commitSchedule {s : State} {m : CommitMode} (h : s.tablesLaw)
    (hk : firstOverlap s.schedules.staged = none) : (s.commitSchedule m).tablesLaw := by
  obtain ⟨hm, ha, -⟩ := h
  refine ⟨hm, ha, ?_⟩
  rintro p ⟨⟩
  exact hk

/-- Writing a bank leaves the active and the pending map alone (R5, R6). -/
@[simp] theorem Router.setBank_active (r : Router) (k : Bank) (m : ChannelMap) : (r.setBank k m).active = r.active := by
  cases k <;> rfl
@[simp] theorem Router.setBank_pendingMap (r : Router) (k : Bank) (m : ChannelMap) :
    (r.setBank k m).pendingMap = r.pendingMap := by
  cases k <;> rfl

/-- The laws speak of the active and the pending tables, and not of the banks and the staged schedule. -/
theorem State.tablesLaw.of_inForce {s t : State} (h : s.tablesLaw) (hr : t.router.active = s.router.active)
    (hp : t.router.pendingMap = s.router.pendingMap) (hs : t.schedules.active = s.schedules.active)
    (hq : t.schedules.pendingSchedule = s.schedules.pendingSchedule) (hc : t.control = s.control) : t.tablesLaw := by
  unfold State.tablesLaw State.mapLaw State.scheduleLaw at *
  rwa [hr, hp, hs, hq, hc]

/-- A raised lock holds the locked fields of the active map (R187). -/
theorem State.tablesLaw.raiseLock {s : State} {level : Nat} (h : s.tablesLaw) : (s.raiseLock level).tablesLaw := by
  obtain ⟨⟨ha, hp, hl⟩, hs⟩ := h
  refine ⟨⟨ha, hp, fun _ => ?_⟩, hs⟩
  by_cases h0 : s.control.lock = 0
  · simp [State.raiseLock, h0]
  · simpa [State.raiseLock, h0] using hl (by omega)

/-- A RESTART drops the pending tables and keeps those in force (R186). -/
theorem State.tablesLaw.restart {s : State} (h : s.tablesLaw) : s.restart.tablesLaw := by
  obtain ⟨⟨ha, -, hl⟩, hs, -⟩ := h
  exact ⟨⟨ha, by rintro p ⟨⟩, hl⟩, hs, by rintro p ⟨⟩⟩

/-! ### The rules of the commands -/

section Rules
variable {s : State} (p : List Byte)

theorem setModeRule_tablesLaw (h : s.tablesLaw) : (setModeRule p s).state.tablesLaw := by
  refine takeOutsideBoot_state h fun m _ _ => ?_
  split_ifs <;> exact h

theorem setTimeRule_tablesLaw (h : s.tablesLaw) : (setTimeRule p s).state.tablesLaw := by
  refine takeAlways_state h fun t _ => ?_
  split_ifs <;> exact h

theorem trimTimeRule_tablesLaw (h : s.tablesLaw) : (trimTimeRule p s).state.tablesLaw := by
  refine takeOutsideBoot_state h fun t _ _ => ?_
  split_ifs <;> exact h

theorem restartRule_tablesLaw (h : s.tablesLaw) : (restartRule p s).state.tablesLaw := by
  refine takeOutsideBoot_state h fun _ _ _ => ?_
  split_ifs
  · exact h
  · exact h.restart

theorem lockRule_tablesLaw (h : s.tablesLaw) : (lockRule p s).state.tablesLaw := by
  refine takeOutsideBoot_state h fun level _ _ => ?_
  split_ifs
  · exact h
  · exact h
  · exact h.raiseLock

theorem mapChannelWriteRule_tablesLaw (h : s.tablesLaw) : (mapChannelWriteRule p s).state.tablesLaw :=
  takeOutsideBoot_state h fun _ _ _ => h.of_inForce (by simp [Reply.plain]) (by simp [Reply.plain]) rfl rfl rfl

theorem mapGroupWriteRule_tablesLaw (h : s.tablesLaw) : (mapGroupWriteRule p s).state.tablesLaw :=
  takeOutsideBoot_state h fun _ _ _ => h.of_inForce (by simp [Reply.plain]) (by simp [Reply.plain]) rfl rfl rfl

theorem mapChannelReadRule_tablesLaw (h : s.tablesLaw) : (mapChannelReadRule p s).state.tablesLaw := by
  refine takeOutsideBoot_state h fun a _ _ => ?_
  split <;> exact h

theorem mapGroupReadRule_tablesLaw (h : s.tablesLaw) : (mapGroupReadRule p s).state.tablesLaw := by
  refine takeOutsideBoot_state h fun a _ _ => ?_
  split <;> exact h

theorem mapCommitRule_tablesLaw (h : s.tablesLaw) : (mapCommitRule p s).state.tablesLaw := by
  refine takeOutsideBoot_state h fun k _ _ => ?_
  split
  · exact h
  · split
    · exact h
    · exact h.commitMap (tableFault_of_validateMap ‹_›)

theorem coefWriteRule_tablesLaw (h : s.tablesLaw) : (coefWriteRule p s).state.tablesLaw := by
  refine takeAlways_state h fun a _ => ?_
  split_ifs <;> exact h

theorem periodWriteRule_tablesLaw (h : s.tablesLaw) : (periodWriteRule p s).state.tablesLaw :=
  takeOutsideBoot_state h fun _ _ _ => h.of_inForce rfl rfl rfl rfl rfl

theorem periodReadRule_tablesLaw (h : s.tablesLaw) : (periodReadRule p s).state.tablesLaw := by
  refine takeOutsideBoot_state h fun a _ _ => ?_
  split <;> exact h

theorem limitWriteRule_tablesLaw (h : s.tablesLaw) : (limitWriteRule p s).state.tablesLaw :=
  takeOutsideBoot_state h fun _ _ _ => h.of_inForce rfl rfl rfl rfl rfl

theorem limitReadRule_tablesLaw (h : s.tablesLaw) : (limitReadRule p s).state.tablesLaw := by
  refine takeOutsideBoot_state h fun a _ _ => ?_
  split <;> exact h

theorem scheduleCommitRule_tablesLaw (h : s.tablesLaw) : (scheduleCommitRule p s).state.tablesLaw := by
  refine takeOutsideBoot_state h fun m _ _ => ?_
  split
  · exact h
  · split
    · exact h
    · exact h.commitSchedule ‹_›

theorem excludeAddRule_tablesLaw (h : s.tablesLaw) : (excludeAddRule p s).state.tablesLaw := by
  refine takeOutsideBoot_state h fun x _ _ => ?_
  split
  · exact h
  · split <;> exact h

theorem excludeEndRule_tablesLaw (h : s.tablesLaw) : (excludeEndRule p s).state.tablesLaw := by
  refine takeOutsideBoot_state h fun i _ _ => ?_
  split <;> exact h

theorem excludeClearRule_tablesLaw (h : s.tablesLaw) : (excludeClearRule p s).state.tablesLaw := by
  refine takeOutsideBoot_state h fun i _ _ => ?_
  split <;> exact h

theorem excludeReadRule_tablesLaw (h : s.tablesLaw) : (excludeReadRule p s).state.tablesLaw := by
  refine takeOutsideBoot_state h fun sel _ _ => ?_
  split
  · exact h
  · split <;> exact h

theorem checkStartRule_tablesLaw (h : s.tablesLaw) : (checkStartRule p s).state.tablesLaw := by
  refine takeOutsideBoot_state h fun mask _ _ => ?_
  split <;> exact h

theorem checkAbortRule_tablesLaw (h : s.tablesLaw) : (checkAbortRule p s).state.tablesLaw :=
  takeOutsideBoot_state h fun _ _ _ => h.congr (by simp [SameTables, Reply.plain, State.abortCheck])

theorem resultReadRule_tablesLaw (h : s.tablesLaw) : (resultReadRule p s).state.tablesLaw := by
  refine takeAlways_state h fun n _ => ?_
  split <;> exact h

theorem eventTakeRule_tablesLaw (h : s.tablesLaw) : (eventTakeRule p s).state.tablesLaw := by
  refine takeAlways_state h fun _ _ => ?_
  split <;> exact h

end Rules

/-- Every request, by its code, keeps the laws of the tables. -/
theorem State.tablesLaw.serveCode {s : State} (code : Byte) (r : Request) (h : s.tablesLaw) :
    (serveCode code r s).tablesLaw := by
  unfold Machine.serveCode
  split
  case h_1 => exact h.serve h
  case h_2 => exact h.serve (takeAlways_state h fun _ _ => h)
  case h_3 => exact h.serve (takeAlways_state h fun _ _ => h)
  case h_4 => exact h.serve (setModeRule_tablesLaw _ h)
  case h_5 => exact h.serve (setTimeRule_tablesLaw _ h)
  case h_6 => exact h.serve (trimTimeRule_tablesLaw _ h)
  case h_7 => exact h.serve (restartRule_tablesLaw _ h)
  case h_8 => exact h.serve (lockRule_tablesLaw _ h)
  case h_9 =>
    split
    · exact h.serve (mapChannelWriteRule_tablesLaw _ h)
    · exact h.serve (mapChannelReadRule_tablesLaw _ h)
  case h_10 =>
    split
    · exact h.serve (mapGroupWriteRule_tablesLaw _ h)
    · exact h.serve (mapGroupReadRule_tablesLaw _ h)
  case h_11 => exact h.serve (mapCommitRule_tablesLaw _ h)
  case h_12 =>
    split
    · exact h.serve (coefWriteRule_tablesLaw _ h)
    · exact h.serve (takeOutsideBoot_state h fun _ _ _ => h)
  case h_13 =>
    split
    · exact h.serve (periodWriteRule_tablesLaw _ h)
    · exact h.serve (periodReadRule_tablesLaw _ h)
  case h_14 =>
    split
    · exact h.serve (limitWriteRule_tablesLaw _ h)
    · exact h.serve (limitReadRule_tablesLaw _ h)
  case h_15 => exact h.serve (scheduleCommitRule_tablesLaw _ h)
  case h_16 => exact h.serve (excludeAddRule_tablesLaw _ h)
  case h_17 => exact h.serve (excludeEndRule_tablesLaw _ h)
  case h_18 => exact h.serve (excludeClearRule_tablesLaw _ h)
  case h_19 => exact h.serve (excludeReadRule_tablesLaw _ h)
  case h_20 => exact h.serve (checkStartRule_tablesLaw _ h)
  case h_21 => exact h.serve (checkAbortRule_tablesLaw _ h)
  case h_22 => exact h.serve (takeOutsideBoot_state h fun _ _ _ => h)
  case h_23 => exact h.serve (takeOutsideBoot_state h fun _ _ _ => h)
  case h_24 => exact h.serve (takeOutsideBoot_state h fun _ _ _ => h)
  case h_25 => exact h.serve (takeOutsideBoot_state h fun _ _ _ => h)
  case h_26 => exact h.serve (resultReadRule_tablesLaw _ h)
  case h_27 => exact h.serve (eventTakeRule_tablesLaw _ h)

end Sys2Proof.Machine
end

section
namespace Sys2Proof.Machine

/-! ### Requests by their code -/

/-- The code on the wire of a row that a request carries, and the request with the write flag of the row's form. -/
def codedRequest : Instr → Option (Byte × Request)
  | .unknownCommand code r => some (code, r)
  | .identify r => some (1, r)
  | .status r => some (2, r)
  | .setMode r => some (3, r)
  | .setTime r => some (4, r)
  | .trimTime r => some (5, r)
  | .restart r => some (6, r)
  | .lock r => some (7, r)
  | .mapChannelWrite r => some (10, { r with write := true })
  | .mapChannelRead r => some (10, { r with write := false })
  | .mapGroupWrite r => some (11, { r with write := true })
  | .mapGroupRead r => some (11, { r with write := false })
  | .mapCommit r => some (12, r)
  | .coefSectionWrite r => some (13, { r with write := true })
  | .coefSectionRead r => some (13, { r with write := false })
  | .periodEntryWrite r => some (20, { r with write := true })
  | .periodEntryRead r => some (20, { r with write := false })
  | .groupLimitWrite r | .groupLimitRemove r => some (21, { r with write := true })
  | .groupLimitRead r => some (21, { r with write := false })
  | .scheduleCommit r => some (22, r)
  | .excludeAdd r => some (30, r)
  | .excludeEnd r => some (31, r)
  | .excludeClear r => some (32, r)
  | .excludeRead r => some (33, r)
  | .checkStart r => some (40, r)
  | .checkAbort r => some (41, r)
  | .checkRead r => some (42, r)
  | .checkSummary r => some (43, r)
  | .levelRead r => some (50, r)
  | .statsRead r => some (51, r)
  | .resultRead r => some (60, r)
  | .eventTake r => some (61, r)
  | _ => none

/-- A row that a request carries runs as the request under its code (R174, R180). -/
theorem exec_coded {i : Instr} {code : Byte} {r : Request} (h : codedRequest i = some (code, r)) (s : State) :
    exec i s = .next (serveCode code r s) := by
  cases i <;> cases h <;> rfl
end Sys2Proof.Machine
end

section
namespace Sys2Proof.Machine

/-! ### The tables at a boundary -/

/-- The locked values equal the locked fields of a map in which no channel differs (R8, R10). -/
theorem lockedFields_eq_of_firstDiffering {l : Vector LockedFields 16} {m : ChannelMap}
    (h : firstDiffering l m = none) : l = m.lockedFields := by
  ext i hi : 1
  have he := List.find?_eq_none.mp h ⟨i, hi⟩ (List.mem_finRange _)
  rw [decide_eq_true_eq, ne_eq, not_not] at he
  simpa [ChannelMap.lockedFields] using he.symm

/-- An activation leaves the maps and the lock lawful (R9, R10). -/
theorem Router.activate_lawful {r : Router} {lock second : Nat} {locked : Option (Vector LockedFields 16)}
    (ha : tableFault r.active = none) (hp : ∀ p ∈ r.pendingMap, tableFault p.1 = none)
    (hl : 1 ≤ lock → locked = some r.active.lockedFields) :
    tableFault (r.activate lock locked second).1.active = none
      ∧ (r.activate lock locked second).1.pendingMap = none
      ∧ (1 ≤ lock → locked = some (r.activate lock locked second).1.active.lockedFields) := by
  unfold Router.activate
  split
  case h_1 hn => exact ⟨ha, hn, hl⟩
  case h_2 m k hs =>
    have hm : tableFault m = none := hp _ hs
    dsimp only
    split
    · exact ⟨ha, rfl, hl⟩
    · rename_i h2
      split
      · exact ⟨ha, rfl, hl⟩
      · rename_i hd
        refine ⟨hm, rfl, fun h1 => ?_⟩
        have h1' : lock = 1 := by omega
        rw [if_pos h1', hl h1, Option.bind_some] at hd
        rw [hl h1, lockedFields_eq_of_firstDiffering hd]

/-- The handed positions leave the schedules lawful (R97). -/
theorem reachAll_lawful (lock second : Nat) : ∀ (handed : List Handed) (s : Schedules),
    firstOverlap s.active = none → (∀ p ∈ s.pendingSchedule, firstOverlap p.1 = none) →
      firstOverlap (reachAll lock second handed s).1.active = none
        ∧ ∀ p ∈ (reachAll lock second handed s).1.pendingSchedule, firstOverlap p.1 = none
  | [], _, ha, hp => ⟨ha, hp⟩
  | h :: rest, s, ha, hp => by
    unfold reachAll
    refine reachAll_lawful lock second rest _ ?_ ?_
    all_goals
      split
      · unfold Schedules.activate
        split
        · assumption
        · split <;> simp_all
      · assumption

@[simp] theorem State.boundary_router (s : State) (b : Bool) : (s.boundary b).router = (s.opening b).router := by
  unfold State.boundary; dsimp only; split <;> simp [State.turnOver]

@[simp] theorem State.boundary_schedules (s : State) (b : Bool) : (s.boundary b).schedules =
    if b then (reachAll s.control.lock (s.opening b).time.runningSecond (s.opening b).handed s.schedules).1
    else s.schedules := by
  unfold State.boundary; dsimp only; split <;> simp [State.turnOver] <;> split <;> rfl

@[simp] theorem State.boundary_control (s : State) (b : Bool) : (s.boundary b).control =
    if s.autoRunStarts b then { s.control with restarted := false, mode := .run, autoRun := false }
    else { s.control with restarted := false } := by
  unfold State.boundary; dsimp only; split <;> simp [State.turnOver]

/-- A boundary keeps the laws of the tables. -/
theorem State.tablesLaw.boundary {s : State} (b : Bool) (h : s.tablesLaw) : (s.boundary b).tablesLaw := by
  obtain ⟨⟨ha, hp, hl⟩, hs, hq⟩ := h
  have hlock : (s.boundary b).control.lock = s.control.lock := by simp; split <;> rfl
  have hlocked : (s.boundary b).control.locked = s.control.locked := by simp; split <;> rfl
  unfold State.tablesLaw State.mapLaw State.scheduleLaw
  rw [hlock, hlocked, State.boundary_router, State.boundary_schedules]
  cases b with
  | false => exact ⟨⟨ha, hp, hl⟩, hs, hq⟩
  | true =>
    obtain ⟨ha', hp', hl'⟩ := Router.activate_lawful (second := (s.opening true).time.runningSecond) ha hp hl
    refine ⟨⟨ha', ?_, hl'⟩, reachAll_lawful _ _ _ _ hs hq⟩
    intro p hm
    exact absurd hm (by rw [show (s.opening true).router.pendingMap = none from hp']; simp)

/-! ### Frame periods and the link -/

/-- A declared link loss leaves the tables and the lock alone (R65). -/
theorem State.loseLink_sameTables (s : State) : SameTables s s.loseLink := by
  simp [SameTables, State.loseLink]

/-- A declared restoration leaves the tables and the lock alone (R66). -/
theorem State.regainLink_sameTables (s : State) : SameTables s s.regainLink := by
  simp [SameTables, State.regainLink]

theorem State.tablesLaw.advance {s : State} (h : s.tablesLaw) : s.advance.tablesLaw := by
  unfold State.advance
  dsimp only
  split
  · exact h.congr ⟨rfl, rfl, rfl, rfl⟩
  · exact State.tablesLaw.boundary _ (h.congr ⟨rfl, rfl, rfl, rfl⟩)

theorem State.tablesLaw.countRuns {s : State} (good : Bool) (h : s.tablesLaw) : (s.countRuns good).tablesLaw := by
  unfold State.countRuns
  split
  · exact h.congr s.loseLink_sameTables
  · dsimp only
    split
    · exact State.tablesLaw.congr (s := { s with time := s.time.countPeriod good }) h (State.regainLink_sameTables _)
    · exact h

/-! ### The boot image -/

/-- The records of an image write the staged schedule, and none in force (R189). -/
theorem BootTables.record_active {t u : BootTables} {code : Byte} {p : List Byte} (h : t.record code p = some u) :
    u.schedules.active = t.schedules.active := by
  unfold BootTables.record at h
  split at h
  case h_1 => split at h <;> cases h; rfl
  case h_2 => split at h <;> cases h; rfl
  case h_3 => obtain ⟨_, _, rfl⟩ := Option.map_eq_some_iff.mp h; rfl
  case h_4 => obtain ⟨_, _, rfl⟩ := Option.map_eq_some_iff.mp h; rfl
  case h_5 => obtain ⟨_, _, rfl⟩ := Option.map_eq_some_iff.mp h; rfl
  case h_6 => cases h

theorem takeRecords_active {fuel : Nat} {body : List Byte} {i : Nat} {t : BootTables} {u : BootTables × Nat}
    (h : takeRecords fuel body i t = .ok u) : u.1.schedules.active = t.schedules.active := by
  fun_induction takeRecords fuel body i t with
  | case1 | case2 => cases h; rfl
  | case3 | case4 | case5 => cases h
  | case6 _ _ _ _ _ _ _ _ hr ih => rw [ih h, BootTables.record_active hr]

/-- An accepted image gives a valid bank A and staged schedule, and leaves the schedule in force (R188). -/
theorem judgeImage_ok {m : MemoryRead} {t w : BootTables} (h : judgeImage m t = .ok w) :
    tableFault w.bankA = none ∧ firstOverlap w.schedules.staged = none ∧ w.schedules.active = t.schedules.active := by
  unfold judgeImage at h
  split_ifs at h
  split at h
  · cases h
  · rename_i n hr
    split_ifs at h
    split at h
    · cases h
    · rename_i hv
      split at h
      · cases h
      · cases h
        exact ⟨tableFault_of_validateMap hv, ‹_›, takeRecords_active hr⟩

theorem State.tablesLaw.discardImage {s : State} (why : BootOutcome) (h : s.tablesLaw) :
    (s.discardImage why).tablesLaw := h

/-- An accepted image's tables become the pending ones (R7, R96, R190). -/
theorem State.tablesLaw.acceptImage {s : State} {t : BootTables} (a : Bool) (h : s.tablesLaw)
    (hm : tableFault t.bankA = none) (hs : firstOverlap t.schedules.staged = none)
    (ha : t.schedules.active = s.schedules.active) : (s.acceptImage t a).tablesLaw := by
  obtain ⟨⟨hf, -, hl⟩, hq, -⟩ := h
  refine ⟨⟨hf, ?_, hl⟩, ha ▸ hq, ?_⟩ <;> rintro p ⟨⟩
  · exact hm
  · exact hs

theorem State.tablesLaw.endLoad {s : State} (m : MemoryRead) (h : s.tablesLaw) : (s.endLoad m).tablesLaw := by
  unfold State.endLoad
  dsimp only
  split
  · exact h
  · rename_i t hj
    obtain ⟨hm, hs, ha⟩ := judgeImage_ok hj
    have hacc : (State.acceptImage { s with control := { s.control with portLog := portActs m } } t
        (imageAutoRun m)).tablesLaw := State.tablesLaw.acceptImage _ h hm hs ha
    split
    · exact hacc
    · exact hacc

/-- At power-on the tables are lawful (R15, R98). -/
theorem State.tablesLaw_powerOn (s : State) (n : Fin 4) : (s.powerOn n).tablesLaw := by
  refine ⟨⟨?_, ?_, ?_⟩, ?_, ?_⟩
  · change tableFault ChannelMap.default = none
    decide +kernel
  · rintro p ⟨⟩
  · exact fun h => absurd h (Nat.not_succ_le_zero 0)
  · change firstOverlap Schedule.default = none
    decide +kernel
  · rintro p ⟨⟩

/-! ### Cells -/

theorem State.spoil_sameTables (s : State) (bytes : List Byte) (f : CellFault) : SameTables s (s.spoil bytes f) := by
  unfold State.spoil
  split
  · exact ⟨rfl, rfl, rfl, rfl⟩
  · split <;> exact ⟨rfl, rfl, rfl, rfl⟩

theorem State.tablesLaw.takeCell {s : State} (cell : Cell) (h : s.tablesLaw) : (s.takeCell cell).tablesLaw := by
  unfold State.takeCell
  dsimp only
  split
  · split
    · exact h.serveCode _ _
    · exact h.cellFault _
  · split
    · exact State.tablesLaw.serveCode _ _ h
    · exact State.tablesLaw.cellFault _ h
  · exact h

theorem State.tablesLaw.spoil {s : State} (bytes : List Byte) (f : CellFault) (h : s.tablesLaw) :
    (s.spoil bytes f).tablesLaw := h.congr (s.spoil_sameTables _ _)

theorem State.tablesLaw.receiveCell {s : State} (bytes : List Byte) (h : s.tablesLaw) : (s.receiveCell bytes).tablesLaw := by
  have received : ∀ u : State, u.tablesLaw → (match bytes with
      | _ :: _ :: _ :: n :: _ =>
        if 48 < n.toNat then (u.spoil bytes .length).withParser .hunting
        else if bytes.length < n.toNat + 5 then u.withParser (.inCell bytes)
        else (u.withParser .hunting).takeCell (bytes.take (n.toNat + 5))
      | few => u.withParser (.inCell few)).tablesLaw := by
    intro u hu
    split
    · split_ifs
      · exact hu.spoil _ _
      · exact hu
      · exact State.tablesLaw.takeCell (s := u.withParser .hunting) _ hu
    · exact hu
  unfold State.receiveCell
  refine received _ ?_
  split
  · exact h
  · exact h.spoil _ _

/-! ### The step -/

theorem State.tablesLaw.carryGood {s : State} (f : Frame) (h : s.tablesLaw) : (s.carryGood f).tablesLaw :=
  h.congr (by simp [SameTables])

/-- Every command keeps the laws of the tables. -/
theorem exec_tablesLaw {i : Instr} {s t : State} (h : s.tablesLaw) (hi : exec i s = .next t) : t.tablesLaw := by
  cases hc : codedRequest i with
  | some x =>
    rw [exec_coded hc] at hi
    obtain rfl := Host.Outcome.next.inj hi
    exact h.serveCode _ _
  | none =>
    cases i with
    | powerOn n => obtain rfl := Host.Outcome.next.inj hi; exact s.tablesLaw_powerOn n
    | bootLoadEnd m =>
      change execBootLoadEnd m s = _ at hi
      unfold execBootLoadEnd at hi
      split at hi <;> obtain rfl := Host.Outcome.next.inj hi
      · exact h.endLoad m
      · exact h
    | sampleFrame f =>
      obtain rfl := Host.Outcome.next.inj hi
      split
      · exact (h.advance.countRuns _).carryGood f
      · exact h.advance.countRuns _
    | framePeriod => obtain rfl := Host.Outcome.next.inj hi; exact h.advance.countRuns false
    | linkLoss =>
      change execLinkLoss s = _ at hi
      unfold execLinkLoss at hi
      split at hi <;> obtain rfl := Host.Outcome.next.inj hi
      · exact h.congr s.loseLink_sameTables
      · exact h
    | linkRestoration =>
      change execLinkRestoration s = _ at hi
      unfold execLinkRestoration at hi
      split at hi <;> obtain rfl := Host.Outcome.next.inj hi
      · exact h.congr s.regainLink_sameTables
      · exact h
    | sliceBoundary => obtain rfl := Host.Outcome.next.inj hi; exact (h.boundary _).congr ⟨rfl, rfl, rfl, rfl⟩
    | secondBoundary =>
      change execSecondBoundary s = _ at hi
      unfold execSecondBoundary at hi
      split at hi <;> obtain rfl := Host.Outcome.next.inj hi
      · exact h
      · exact h.boundary true
    | intervalTimerExpiry c =>
      change execIntervalTimerExpiry c s = _ at hi
      unfold execIntervalTimerExpiry at hi
      split at hi <;> obtain rfl := Host.Outcome.next.inj hi
      · exact State.tablesLaw.emit _ _ h
      · exact h
    | controlCell bytes => obtain rfl := Host.Outcome.next.inj hi; exact h.receiveCell _
    | cellTimeout arrived mark => obtain rfl := Host.Outcome.next.inj hi; exact h.spoil _ _
    | cellLengthFault arrived => obtain rfl := Host.Outcome.next.inj hi; exact h.spoil _ _
    | passThroughCell cell => obtain rfl := Host.Outcome.next.inj hi; exact h
    | forwardCellWindow => obtain rfl := Host.Outcome.next.inj hi; exact h
    | returnLaneSend => obtain rfl := Host.Outcome.next.inj hi; exact h
    | _ => cases hc

/-- Settles O55: every command keeps the laws of the tables, and an idle step changes nothing. -/
theorem tablesInForceStayValid : Obligations.TablesInForceStayValid := by
  intro s t hm hs h
  unfold step at h
  split at h
  · obtain rfl := Host.Outcome.next.inj h
    exact ⟨hm, hs⟩
  · rename_i c rest _
    exact exec_tablesLaw (s := { s with pending := rest }) ⟨hm, hs⟩ h

end Sys2Proof.Machine
end

section
/-! SUPPORT. The part at power-on (R183). -/
namespace Sys2Proof.Machine

/-! ### What stands at reset, item by item -/

@[simp] theorem State.reset_channels : State.reset.channels = Vector.replicate 16 Channel.reset := rfl
@[simp] theorem State.reset_groups : State.reset.groups = Vector.replicate 8 Group.reset := rfl
@[simp] theorem State.reset_coefs : State.reset.coefs = Vector.replicate 6 CoefSection.reset := rfl
@[simp] theorem State.reset_active_channels :
    State.reset.router.active.channels = Vector.ofFn ChannelEntry.default := rfl
@[simp] theorem State.reset_active_groups :
    State.reset.router.active.groups = Vector.replicate 8 GroupEntry.default := rfl

/-! ### Every law holds at reset -/

theorem State.reset_queueLaw : State.reset.queueLaw := by decide
theorem State.reset_eventLaw : State.reset.eventLaw := by decide
theorem State.reset_resultLaw : State.reset.resultLaw := by decide
theorem State.reset_exclusionLaw : State.reset.exclusionLaw := by decide
theorem State.reset_modeLaw : State.reset.modeLaw := by decide

theorem State.reset_timeLaw : State.reset.timeLaw := by
  refine ⟨by decide, by decide, by decide, by decide, by decide, by decide, ?_, by decide, by decide, ?_, fun _ => rfl⟩
  · rintro p ⟨⟩
  · exact fun h => absurd h (by decide)

theorem State.reset_balanceLaw : State.reset.balanceLaw := fun c => by
  simp [Channel.reset, CheckAccount.reset]

/-- No channel is CHECKING and no start is held at reset, and the stage is IDLE (R131, R148). -/
theorem State.reset_checkLaw : State.reset.checkLaw :=
  ⟨rfl, rfl, fun c => by simp [Channel.reset, Condition.reset]⟩

/-- Every channel is disabled, and OFF with nothing held, at reset (R15, R28, R46, R60). -/
theorem State.reset_channelLaw : State.reset.channelLaw := fun c => by
  simp [Channel.reset, Condition.reset, ChannelEntry.default]

theorem State.reset_ringLaw : State.reset.ringLaw :=
  ⟨fun c => by simp [Channel.reset, rising], fun g => by simp [Group.reset, rising]⟩

theorem State.reset_windowLaw : State.reset.windowLaw := fun g => by
  simp [Group.reset]

/-- The maps and schedules at reset are lawful: POWER_ON with straps 0 gives reset's. -/
theorem State.reset_tablesLaw : State.reset.tablesLaw := State.reset.tablesLaw_powerOn 0

/-- Settles O3: the values read off the definition of reset, and each law at it. -/
theorem powerOnGivesResetValues : Obligations.PowerOnGivesResetValues := by
  refine ⟨fun n s => rfl, rfl, rfl, rfl, rfl, rfl, rfl, rfl, rfl, rfl, rfl, rfl, rfl, rfl, rfl, ?_, ?_, ?_,
    rfl, rfl, rfl, rfl, rfl, rfl, rfl, rfl, rfl, rfl, rfl, rfl, rfl, rfl, rfl, rfl, ?_⟩
  · exact fun c => by simp [Channel.reset, Condition.reset, CheckAccount.reset]
  · exact fun g => by simp [Group.reset]
  · exact fun i => by simp [CoefSection.reset]
  · exact ⟨State.reset_queueLaw, State.reset_eventLaw, State.reset_resultLaw, State.reset_balanceLaw,
      State.reset_checkLaw, State.reset_tablesLaw.1, State.reset_tablesLaw.2, State.reset_channelLaw, State.reset_ringLaw,
      State.reset_windowLaw, State.reset_exclusionLaw, State.reset_timeLaw, State.reset_modeLaw⟩

end Sys2Proof.Machine
end

section
/-! SUPPORT. Numbers in bytes: the fields of a payload laid out as R175 gives, and a payload spelt by its fields. -/
namespace Sys2Proof.Machine

/-! ### Numbers and their bytes -/

theorem beBytes_one (n : Nat) : beBytes 1 n = [BitVec.ofNat 8 n] := by simp [beBytes]

theorem foldl_bytes (bs : List Byte) (acc : Nat) :
    bs.foldl (fun acc b => 256 * acc + b.toNat) acc = acc * 256 ^ bs.length + beNat bs := by
  unfold beNat
  induction bs generalizing acc with
  | nil => simp
  | cons b bs ih =>
    rw [List.foldl_cons, ih, List.foldl_cons, ih (256 * 0 + b.toNat), List.length_cons]
    ring

theorem beNat_cons (b : Byte) (bs : List Byte) : beNat (b :: bs) = b.toNat * 256 ^ bs.length + beNat bs := by
  rw [beNat, List.foldl_cons, foldl_bytes]
  ring

theorem beNat_lt (bs : List Byte) : beNat bs < 256 ^ bs.length := by
  induction bs with
  | nil => exact Nat.one_pos
  | cons b bs ih =>
    have hb := b.isLt
    rw [beNat_cons, List.length_cons, Nat.pow_succ]
    nlinarith

/-- A number taken from `w` bytes of it is its remainder. -/
theorem beNat_beBytes (w n : Nat) : beNat (beBytes w n) = n % 256 ^ w := by
  induction w with
  | zero => simp [beBytes, beNat, Nat.mod_one]
  | succ w ih =>
    have hm : n % 256 ^ (w + 1) = n % 256 ^ w + 256 ^ w * (n / 256 ^ w % 256) := Nat.mod_mul
    rw [beBytes, beNat_cons, ih, beBytes_length, BitVec.toNat_ofNat, hm]
    ring

/-- The last `w` bytes of a number do not see what stands above them. -/
theorem beBytes_add_mul (w m k : Nat) : beBytes w (m * 256 ^ w + k) = beBytes w k := by
  induction w generalizing m with
  | zero => rfl
  | succ w ih =>
    have hm : m * 256 ^ (w + 1) = (256 * m) * 256 ^ w := by ring
    have hd : ((256 * m) * 256 ^ w + k) / 256 ^ w = 256 * m + k / 256 ^ w := by
      rw [Nat.add_comm, Nat.add_mul_div_right _ _ (by positivity), Nat.add_comm]
    rw [beBytes, beBytes, hm, ih, hd]
    congr 1
    apply BitVec.eq_of_toNat_eq
    simp

/-- Bytes are those of the number they spell. -/
theorem beBytes_beNat (bs : List Byte) : beBytes bs.length (beNat bs) = bs := by
  induction bs with
  | nil => rfl
  | cons b bs ih =>
    have hd : (b.toNat * 256 ^ bs.length + beNat bs) / 256 ^ bs.length = b.toNat := by
      rw [Nat.add_comm, Nat.add_mul_div_right _ _ (by positivity), Nat.div_eq_of_lt (beNat_lt bs), Nat.zero_add]
    rw [List.length_cons, beBytes, beNat_cons, hd, beBytes_add_mul, ih]
    simp

/-! ### The fields of a payload -/

theorem field_lt (p : List Byte) (off w : Nat) (h : off + w ≤ p.length) : field p off w < 256 ^ w := by
  have hl : ((p.drop off).take w).length = w := by simp; omega
  have := beNat_beBytes ((p.drop off).take w).length (field p off w)
  rw [field, beBytes_beNat, hl] at this
  rw [field, this]
  exact Nat.mod_lt _ (by positivity)

/-- A field past the first part of a payload is one of its rest. -/
theorem field_append_right {a b : List Byte} {off w : Nat} (h : a.length ≤ off) :
    field (a ++ b) off w = field b (off - a.length) w := by
  simp [field, List.drop_append, List.drop_of_length_le h]

/-- A field inside the first part of a payload is one of that part. -/
theorem field_append_left {a b : List Byte} {off w : Nat} (h : off + w ≤ a.length) :
    field (a ++ b) off w = field a off w := by
  have ho : off ≤ a.length := by omega
  simp only [field, List.drop_append, Nat.sub_eq_zero_of_le ho, List.drop_zero]
  rw [List.take_append_of_le_length (by simp; omega)]

/-- A field that is the bytes of a number. -/
theorem field_beBytes (w n : Nat) : field (beBytes w n) 0 w = n % 256 ^ w := by
  rw [field, List.drop_zero, List.take_of_length_le (by simp), beNat_beBytes]

@[simp] theorem field_cons_zero (b : Byte) (l : List Byte) : field (b :: l) 0 1 = b.toNat := by
  simp [field, beNat]

@[simp] theorem field_cons_succ (b : Byte) (l : List Byte) (off w : Nat) : field (b :: l) (off + 1) w = field l off w := by
  simp [field]

/-- A payload up to a field, and the field's bytes, are the payload up to the field's end. -/
theorem take_append_field {p : List Byte} {off w : Nat} (h : off + w ≤ p.length) :
    p.take off ++ beBytes w (field p off w) = p.take (off + w) := by
  have hb : beBytes w (field p off w) = (p.drop off).take w := by
    have := beBytes_beNat ((p.drop off).take w)
    rwa [show ((p.drop off).take w).length = w by simp; omega] at this
  rw [hb, List.take_add]

theorem ofLength_eq_some {p : List Byte} {n : Nat} : ofLength p n = some () ↔ p.length = n := by
  simp [ofLength]

/-! ### Codes of enumerated fields -/

@[simp] theorem yesNoOf_code (b : Bool) : yesNoOf (yesNoCode b) = some b := by cases b <;> rfl
@[simp] theorem weightingOf_code (x : Weighting) : weightingOf (weightingCode x) = some x := by cases x <;> rfl
@[simp] theorem peakWeightingOf_code (x : PeakWeighting) : peakWeightingOf (peakWeightingCode x) = some x := by
  cases x <;> rfl
@[simp] theorem roleOf_code (x : Role) : roleOf (roleCode x) = some x := by cases x <;> rfl
@[simp] theorem fillModeOf_code (x : FillMode) : fillModeOf (fillModeCode x) = some x := by cases x <;> rfl
@[simp] theorem absentIntegrationOf_slices (x : AbsentIntegration) : absentIntegrationOf x.slices = some x := by
  cases x <;> rfl
@[simp] theorem bankOf_code (x : Bank) : bankOf (bankCode x) = some x := by cases x <;> rfl
@[simp] theorem commitModeOf_code (x : CommitMode) : commitModeOf (commitModeCode x) = some x := by cases x <;> rfl
@[simp] theorem windowLengthOf_code (x : WindowLength) : windowLengthOf (windowLengthCode x) = some x := by cases x <;> rfl
@[simp] theorem indexOf_val {k : Nat} (i : Fin k) : indexOf k i.val = some i := by simp [indexOf]

@[simp] theorem groupOf_code (x : Option Grp) : groupOf (groupCode x) = some x := by
  rcases x with _ | g
  · rfl
  · have := g.isLt
    simp [groupOf, groupCode, show g.val ≠ 255 by omega]

@[simp] theorem channelOf_code (x : Option Chan) : channelOf (channelCode x) = some x := by
  rcases x with _ | c
  · rfl
  · have := c.isLt
    simp [channelOf, channelCode, show c.val ≠ 255 by omega]

theorem yesNoCode_lt (b : Bool) : yesNoCode b < 256 := by cases b <;> decide
theorem weightingCode_lt (x : Weighting) : weightingCode x < 256 := by cases x <;> decide
theorem peakWeightingCode_lt (x : PeakWeighting) : peakWeightingCode x < 256 := by cases x <;> decide
theorem roleCode_lt (x : Role) : roleCode x < 256 := by cases x <;> decide
theorem fillModeCode_lt (x : FillMode) : fillModeCode x < 256 := by cases x <;> decide
theorem slices_lt (x : AbsentIntegration) : x.slices < 256 := by cases x <;> decide
theorem bankCode_lt (x : Bank) : bankCode x < 256 := by cases x <;> decide
theorem windowLengthCode_lt (x : WindowLength) : windowLengthCode x < 256 := by cases x <;> decide
theorem groupCode_lt (x : Option Grp) : groupCode x < 256 := by
  rcases x with _ | g
  · decide
  · have := g.isLt; simp [groupCode]; omega
theorem channelCode_lt (x : Option Chan) : channelCode x < 256 := by
  rcases x with _ | c
  · decide
  · have := c.isLt; simp [channelCode]; omega

/-! ### The code a value was read from -/

theorem yesNoOf_eq_some {n : Nat} {b : Bool} (h : yesNoOf n = some b) : n = yesNoCode b := by
  unfold yesNoOf at h; split at h <;> cases h <;> rfl
theorem weightingOf_eq_some {n : Nat} {x : Weighting} (h : weightingOf n = some x) : n = weightingCode x := by
  unfold weightingOf at h; split at h <;> cases h <;> rfl
theorem peakWeightingOf_eq_some {n : Nat} {x : PeakWeighting} (h : peakWeightingOf n = some x) :
    n = peakWeightingCode x := by
  unfold peakWeightingOf at h; split at h <;> cases h <;> rfl
theorem roleOf_eq_some {n : Nat} {x : Role} (h : roleOf n = some x) : n = roleCode x := by
  unfold roleOf at h; split at h <;> cases h <;> rfl
theorem fillModeOf_eq_some {n : Nat} {x : FillMode} (h : fillModeOf n = some x) : n = fillModeCode x := by
  unfold fillModeOf at h; split at h <;> cases h <;> rfl
theorem absentIntegrationOf_eq_some {n : Nat} {x : AbsentIntegration} (h : absentIntegrationOf n = some x) :
    n = x.slices := by
  unfold absentIntegrationOf at h; split at h <;> cases h <;> rfl
theorem bankOf_eq_some {n : Nat} {x : Bank} (h : bankOf n = some x) : n = bankCode x := by
  unfold bankOf at h; split at h <;> cases h <;> rfl
theorem windowLengthOf_eq_some {n : Nat} {x : WindowLength} (h : windowLengthOf n = some x) : n = windowLengthCode x := by
  unfold windowLengthOf at h; split at h <;> cases h <;> rfl
theorem indexOf_eq_some {k n : Nat} {i : Fin k} (h : indexOf k n = some i) : n = i.val := by
  unfold indexOf at h; split at h <;> cases h; rfl
theorem groupOf_eq_some {n : Nat} {x : Option Grp} (h : groupOf n = some x) : n = groupCode x := by
  unfold groupOf at h
  split_ifs at h <;> cases h
  · assumption
  · rfl
theorem channelOf_eq_some {n : Nat} {x : Option Chan} (h : channelOf n = some x) : n = channelCode x := by
  unfold channelOf at h
  split_ifs at h <;> cases h
  · assumption
  · rfl
theorem levelField_eq_some {n : Nat} {l : Level} : levelField n = some l ↔ n = l ∧ legalLevel n := by
  unfold levelField legalLevel
  split
  · simp_all
  · refine ⟨fun h => absurd h (by simp), ?_⟩
    rintro ⟨rfl, hl⟩
    contradiction

/-- A clamped value is the nearer end of its range, or the value inside it (Conventions). -/
theorem clamp_eq {lo hi : Nat} (h : lo ≤ hi) (n : Nat) : clamp lo hi n = max lo (min hi n) := by
  unfold clamp; omega

theorem clamp_of_mem {lo hi n : Nat} (h₁ : lo ≤ n) (h₂ : n ≤ hi) : clamp lo hi n = n := by
  unfold clamp; omega

end Sys2Proof.Machine
end

section
/-! SUPPORT. Map and schedule entries as payloads: what a payload that spells an entry is read as, and that nothing else is
read (R2, R3, R92 to R95, R175). -/
namespace Sys2Proof.Machine

/-- A level in its range is read back from its two bytes. -/
theorem levelField_mod {l : Level} (h : legalLevel l) : levelField (l % 65536) = some l :=
  levelField_eq_some.mpr ⟨Nat.mod_eq_of_lt (h.trans_lt (by decide)), (Nat.mod_le _ _).trans h⟩

theorem clamp_mem {lo hi : Nat} (n : Nat) (h : lo ≤ hi) : lo ≤ clamp lo hi n ∧ clamp lo hi n ≤ hi := by
  unfold clamp; omega

/-! ### Channel entries -/

/-- A channel entry whose fields have room in the payload, its levels in their range: what a payload can spell. -/
def ChannelEntry.spellable (e : ChannelEntry) : Prop :=
  legalLevel e.sensitivity ∧ e.absentThreshold ≤ 65535 ∧ e.overloadCount ≤ 255 ∧ e.checkInterval ≤ 65535
    ∧ legalLevel e.referenceResponse ∧ e.tolerance ≤ 65535 ∧ legalLevel e.quietLevel

/-- A channel entry with its clamped fields set to the nearer end of their ranges (R2). -/
def ChannelEntry.clamped (e : ChannelEntry) : ChannelEntry :=
  { e with
    overloadCount := clamp 1 255 e.overloadCount, checkInterval := clamp 60 1440 e.checkInterval
    tolerance := clamp 10 200 e.tolerance }

theorem channelEntryBytes_length (e : ChannelEntry) : (channelEntryBytes e).length = 22 := by
  simp [channelEntryBytes]

/-- The entry a payload spells is read with its fields clamped (R2, R175). -/
theorem channelEntryOf_bytes (m c : Byte) {e : ChannelEntry} (he : e.spellable) :
    channelEntryOf ([m, c] ++ channelEntryBytes e) = some e.clamped := by
  obtain ⟨hs, ha, ho, hi, hr, ht, hq⟩ := he
  have hslot := e.sourceSlot.isLt
  simp [channelEntryOf, channelEntryBytes, field_append_left, field_append_right, field_beBytes,
    Nat.mod_eq_of_lt (yesNoCode_lt _), Nat.mod_eq_of_lt (weightingCode_lt _), Nat.mod_eq_of_lt (peakWeightingCode_lt _),
    Nat.mod_eq_of_lt (roleCode_lt _), Nat.mod_eq_of_lt (fillModeCode_lt _), Nat.mod_eq_of_lt (slices_lt _),
    Nat.mod_eq_of_lt (groupCode_lt _), Nat.mod_eq_of_lt (show e.sourceSlot.val < 256 by omega), levelField_mod hs, levelField_mod hr,
    levelField_mod hq, Nat.mod_eq_of_lt (show e.absentThreshold < 65536 by omega),
    Nat.mod_eq_of_lt (show e.overloadCount < 256 by omega), Nat.mod_eq_of_lt (show e.checkInterval < 65536 by omega),
    Nat.mod_eq_of_lt (show e.tolerance < 65536 by omega), ChannelEntry.clamped]

/-- A payload that is read as a channel entry spells one, and the read clamps it (R2, R175). -/
theorem channelEntryOf_eq_some {p : List Byte} {x : ChannelEntry} (hp : p.length = 24) (h : channelEntryOf p = some x) :
    ∃ e : ChannelEntry, e.spellable ∧ p = p.take 2 ++ channelEntryBytes e ∧ x = e.clamped := by
  simp only [channelEntryOf, Option.bind_eq_bind, Option.bind_eq_some_iff] at h
  obtain ⟨enabled, h2, slot, h3, lw, h4, pw, h5, sens, h6, role, h8, group, h9, ai, h10, fill, h14, auto, h15, ref, h18,
    quiet, h22, hx⟩ := h
  obtain ⟨hs6, hs⟩ := levelField_eq_some.mp h6
  obtain ⟨hs18, hr⟩ := levelField_eq_some.mp h18
  obtain ⟨hs22, hq⟩ := levelField_eq_some.mp h22
  have room : ∀ off w, off + w ≤ 24 → field p off w < 256 ^ w := fun off w hw => field_lt p off w (hp ▸ hw)
  have r11 := room 11 2 (by decide)
  have r13 := room 13 1 (by decide)
  have r16 := room 16 2 (by decide)
  have r20 := room 20 2 (by decide)
  refine ⟨{ enabled, sourceSlot := slot, levelWeighting := lw, peakWeighting := pw, sensitivity := sens, role, group,
            absentIntegration := ai, absentThreshold := field p 11 2, overloadCount := field p 13 1, fillMode := fill
            autoCheck := auto, checkInterval := field p 16 2, referenceResponse := ref, tolerance := field p 20 2
            quietLevel := quiet }, ?_, ?_, ?_⟩
  · exact ⟨hs6 ▸ hs, Nat.le_of_lt_succ r11, Nat.le_of_lt_succ r13, Nat.le_of_lt_succ r16, hs18 ▸ hr,
      Nat.le_of_lt_succ r20, hs22 ▸ hq⟩
  · simp only [channelEntryBytes, ← yesNoOf_eq_some h2, ← indexOf_eq_some h3, ← weightingOf_eq_some h4,
      ← peakWeightingOf_eq_some h5, ← hs6, ← roleOf_eq_some h8, ← groupOf_eq_some h9, ← absentIntegrationOf_eq_some h10,
      ← fillModeOf_eq_some h14, ← yesNoOf_eq_some h15, ← hs18, ← hs22, ← List.append_assoc]
    simp [take_append_field, hp, List.take_of_length_le]
  · exact (Option.some.inj hx).symm

theorem ChannelEntry.clamped_legal {e : ChannelEntry} (h : e.spellable) : e.clamped.legal := by
  obtain ⟨hs, ha, -, -, hr, -, hq⟩ := h
  obtain ⟨o1, o2⟩ := clamp_mem (lo := 1) (hi := 255) e.overloadCount (by decide)
  obtain ⟨i1, i2⟩ := clamp_mem (lo := 60) (hi := 1440) e.checkInterval (by decide)
  obtain ⟨t1, t2⟩ := clamp_mem (lo := 10) (hi := 200) e.tolerance (by decide)
  exact ⟨hs, ha, o1, o2, i1, i2, hr, t1, t2, hq⟩

/-- An entry with every field in its range is stored as it stands. -/
theorem ChannelEntry.legal.clamped {e : ChannelEntry} (h : e.legal) : e.spellable ∧ e.clamped = e := by
  obtain ⟨hs, ha, o1, o2, i1, i2, hr, t1, t2, hq⟩ := h
  refine ⟨⟨hs, ha, o2, by omega, hr, by omega, hq⟩, ?_⟩
  simp [ChannelEntry.clamped, clamp_of_mem o1 o2, clamp_of_mem i1 i2, clamp_of_mem t1 t2]

/-- The two bytes before an entry: the bank and the channel or group it is written to (R5, R6, R175). -/
theorem take_two_eq {p : List Byte} {k : Bank} {i : Nat} (hp : 2 ≤ p.length) (hk : bankOf (field p 0 1) = some k)
    (hi : field p 1 1 = i) : p.take 2 = [BitVec.ofNat 8 (bankCode k), BitVec.ofNat 8 i] := by
  have h0 := take_append_field (p := p) (off := 0) (w := 1) (by omega)
  have h1 := take_append_field (p := p) (off := 1) (w := 1) (by omega)
  rw [← h1, ← h0, bankOf_eq_some hk, hi, beBytes_one, beBytes_one]
  rfl

/-- A MAP CHANNEL write that spells an entry is read as its bank, its channel and the entry clamped. -/
theorem mapChannelWriteOf_bytes (k : Bank) (c : Chan) {e : ChannelEntry} (he : e.spellable) :
    mapChannelWriteOf ([BitVec.ofNat 8 (bankCode k), BitVec.ofNat 8 c.val] ++ channelEntryBytes e)
      = some (k, c, e.clamped) := by
  have hc := c.isLt
  have hl : ofLength ([BitVec.ofNat 8 (bankCode k), BitVec.ofNat 8 c.val] ++ channelEntryBytes e) 24 = some () :=
    ofLength_eq_some.mpr (by simp [channelEntryBytes_length])
  rw [mapChannelWriteOf, channelEntryOf_bytes _ _ he, hl]
  simp [Nat.mod_eq_of_lt (bankCode_lt k), Nat.mod_eq_of_lt (show c.val < 256 by omega)]

/-- A MAP CHANNEL write is read only where it spells an entry. -/
theorem mapChannelWriteOf_eq_some {p : List Byte} {k : Bank} {c : Chan} {x : ChannelEntry}
    (h : mapChannelWriteOf p = some (k, c, x)) :
    ∃ e : ChannelEntry, e.spellable
      ∧ p = [BitVec.ofNat 8 (bankCode k), BitVec.ofNat 8 c.val] ++ channelEntryBytes e ∧ x = e.clamped := by
  simp only [mapChannelWriteOf, Option.bind_eq_bind, Option.bind_eq_some_iff] at h
  obtain ⟨_, hl, k', hk, c', hc, x', hx, he⟩ := h
  obtain ⟨rfl, rfl, rfl⟩ : k' = k ∧ c' = c ∧ x' = x := by simpa using Option.some.inj he
  have hp := ofLength_eq_some.mp hl
  obtain ⟨e, hs, hb, hxe⟩ := channelEntryOf_eq_some hp hx
  exact ⟨e, hs, by rw [← take_two_eq (by omega) hk (indexOf_eq_some hc)]; exact hb, hxe⟩

/-! ### Group entries -/

/-- A group entry whose fields have room in the payload, its level in its range: what a payload can spell. -/
def GroupEntry.spellable (e : GroupEntry) : Prop :=
  e.alertWindow ≤ 65535 ∧ e.crestThreshold ≤ 65535 ∧ legalLevel e.impulseFloor ∧ e.impulseHold ≤ 255

/-- A group entry with its clamped fields set to the nearer end of their ranges (R3). -/
def GroupEntry.clamped (e : GroupEntry) : GroupEntry :=
  { e with
    alertWindow := clamp 60 900 e.alertWindow, crestThreshold := clamp 0 4000 e.crestThreshold
    impulseHold := clamp 1 64 e.impulseHold }

theorem groupEntryBytes_length (e : GroupEntry) : (groupEntryBytes e).length = 10 := by
  simp [groupEntryBytes]

/-- The group entry a payload spells is read with its fields clamped (R3, R175). -/
theorem groupEntryOf_bytes (m c : Byte) {e : GroupEntry} (he : e.spellable) :
    groupEntryOf ([m, c] ++ groupEntryBytes e) = some e.clamped := by
  obtain ⟨ha, hc, hf, hi⟩ := he
  simp [groupEntryOf, groupEntryBytes, field_append_left, field_append_right, field_beBytes,
    Nat.mod_eq_of_lt (yesNoCode_lt _), Nat.mod_eq_of_lt (channelCode_lt _), levelField_mod hf,
    Nat.mod_eq_of_lt (show e.alertWindow < 65536 by omega), Nat.mod_eq_of_lt (show e.crestThreshold < 65536 by omega),
    Nat.mod_eq_of_lt (show e.impulseHold < 256 by omega), GroupEntry.clamped]

/-- A payload that is read as a group entry spells one, and the read clamps it (R3, R175). -/
theorem groupEntryOf_eq_some {p : List Byte} {x : GroupEntry} (hp : p.length = 12) (h : groupEntryOf p = some x) :
    ∃ e : GroupEntry, e.spellable ∧ p = p.take 2 ++ groupEntryBytes e ∧ x = e.clamped := by
  simp only [groupEntryOf, Option.bind_eq_bind, Option.bind_eq_some_iff] at h
  obtain ⟨enabled, h2, background, h3, correction, h4, floor, h9, hx⟩ := h
  obtain ⟨h9, hf⟩ := levelField_eq_some.mp h9
  have room : ∀ off w, off + w ≤ 12 → field p off w < 256 ^ w := fun off w hw => field_lt p off w (hp ▸ hw)
  refine ⟨{ enabled, background, correction, alertWindow := field p 5 2, crestThreshold := field p 7 2
            impulseFloor := floor, impulseHold := field p 11 1 }, ?_, ?_, ?_⟩
  · exact ⟨Nat.le_of_lt_succ (room 5 2 (by decide)), Nat.le_of_lt_succ (room 7 2 (by decide)), h9 ▸ hf,
      Nat.le_of_lt_succ (room 11 1 (by decide))⟩
  · simp only [groupEntryBytes, ← yesNoOf_eq_some h2, ← channelOf_eq_some h3, ← yesNoOf_eq_some h4, ← h9,
      ← List.append_assoc]
    simp [take_append_field, hp, List.take_of_length_le]
  · exact (Option.some.inj hx).symm

theorem GroupEntry.clamped_legal {e : GroupEntry} (h : e.spellable) : e.clamped.legal := by
  obtain ⟨-, -, hf, -⟩ := h
  obtain ⟨a1, a2⟩ := clamp_mem (lo := 60) (hi := 900) e.alertWindow (by decide)
  obtain ⟨i1, i2⟩ := clamp_mem (lo := 1) (hi := 64) e.impulseHold (by decide)
  exact ⟨a1, a2, (clamp_mem (lo := 0) (hi := 4000) e.crestThreshold (by decide)).2, hf, i1, i2⟩

/-- An entry with every field in its range is stored as it stands. -/
theorem GroupEntry.legal.clamped {e : GroupEntry} (h : e.legal) : e.spellable ∧ e.clamped = e := by
  obtain ⟨a1, a2, hc, hf, i1, i2⟩ := h
  refine ⟨⟨by omega, by omega, hf, by omega⟩, ?_⟩
  simp [GroupEntry.clamped, clamp_of_mem a1 a2, clamp_of_mem (Nat.zero_le _) hc, clamp_of_mem i1 i2]

/-- A MAP GROUP write that spells an entry is read as its bank, its group and the entry clamped. -/
theorem mapGroupWriteOf_bytes (k : Bank) (g : Grp) {e : GroupEntry} (he : e.spellable) :
    mapGroupWriteOf ([BitVec.ofNat 8 (bankCode k), BitVec.ofNat 8 g.val] ++ groupEntryBytes e)
      = some (k, g, e.clamped) := by
  have hg := g.isLt
  have hl : ofLength ([BitVec.ofNat 8 (bankCode k), BitVec.ofNat 8 g.val] ++ groupEntryBytes e) 12 = some () :=
    ofLength_eq_some.mpr (by simp [groupEntryBytes_length])
  rw [mapGroupWriteOf, groupEntryOf_bytes _ _ he, hl]
  simp [Nat.mod_eq_of_lt (bankCode_lt k), Nat.mod_eq_of_lt (show g.val < 256 by omega)]

/-- A MAP GROUP write is read only where it spells an entry. -/
theorem mapGroupWriteOf_eq_some {p : List Byte} {k : Bank} {g : Grp} {x : GroupEntry}
    (h : mapGroupWriteOf p = some (k, g, x)) :
    ∃ e : GroupEntry, e.spellable
      ∧ p = [BitVec.ofNat 8 (bankCode k), BitVec.ofNat 8 g.val] ++ groupEntryBytes e ∧ x = e.clamped := by
  simp only [mapGroupWriteOf, Option.bind_eq_bind, Option.bind_eq_some_iff] at h
  obtain ⟨_, hl, k', hk, g', hg, x', hx, he⟩ := h
  obtain ⟨rfl, rfl, rfl⟩ : k' = k ∧ g' = g ∧ x' = x := by simpa using Option.some.inj he
  have hp := ofLength_eq_some.mp hl
  obtain ⟨e, hs, hb, hxe⟩ := groupEntryOf_eq_some hp hx
  exact ⟨e, hs, by rw [← take_two_eq (by omega) hk (indexOf_eq_some hg)]; exact hb, hxe⟩

/-! ### Period entries -/

/-- A PERIOD ENTRY write that spells an entry is read as its index and the period fields, without limits (R94, R175). -/
theorem periodWriteOf_bytes (i : Per) {e : PeriodEntry} (he : e.legal) :
    periodWriteOf ([0, BitVec.ofNat 8 i.val] ++ periodBytes e) = some (i, { e with limits := Vector.replicate 8 none }) := by
  obtain ⟨h1, h2, h3, h4⟩ := he
  have hi := i.isLt
  have hd := e.days.isLt
  have hl : ofLength ([0, BitVec.ofNat 8 i.val] ++ periodBytes e) 9 = some () :=
    ofLength_eq_some.mpr (by simp [periodBytes])
  rw [periodWriteOf, hl]
  simp [periodBytes, field_append_left, field_append_right, field_beBytes, scheduleNameOf,
    Nat.mod_eq_of_lt (yesNoCode_lt _), Nat.mod_eq_of_lt (windowLengthCode_lt _),
    Nat.mod_eq_of_lt (show i.val < 256 by omega), Nat.mod_eq_of_lt (show e.days.toNat < 256 by omega),
    Nat.mod_eq_of_lt (show e.startMinute < 65536 by omega), Nat.mod_eq_of_lt (show e.endMinute < 65536 by omega), h1, h2, h3,
    h4]
  omega

/-- A PERIOD ENTRY write is read only where it spells a legal entry. -/
theorem periodWriteOf_eq_some {p : List Byte} {i : Per} {x : PeriodEntry} (h : periodWriteOf p = some (i, x)) :
    x.legal ∧ p = [0, BitVec.ofNat 8 i.val] ++ periodBytes x := by
  simp only [periodWriteOf, Option.bind_eq_bind, Option.bind_eq_some_iff] at h
  obtain ⟨_, hl, name, h0, i', h1, enabled, h2, length, h8, hx⟩ := h
  split at hx
  case isFalse => cases hx
  case isTrue hc =>
    obtain ⟨rfl, hd, hs, he, he', hse⟩ := hc
    obtain ⟨rfl, rfl⟩ : i' = i ∧ _ = x := by simpa using Option.some.inj hx
    have hp := ofLength_eq_some.mp hl
    have hname : field p 0 1 = 0 := by
      unfold scheduleNameOf at h0; split at h0 <;> first | assumption | cases h0
    refine ⟨⟨hs, he, he', hse⟩, ?_⟩
    have hdays : (BitVec.ofNat 7 (field p 3 1)).toNat = field p 3 1 := by simp; omega
    have hhead : [0, BitVec.ofNat 8 i'.val] = beBytes 1 (field p 0 1) ++ beBytes 1 (field p 1 1) := by
      rw [hname, indexOf_eq_some h1, beBytes_one, beBytes_one]; rfl
    have h01 := take_append_field (p := p) (off := 0) (w := 1) (by omega)
    rw [List.take_zero, List.nil_append] at h01
    simp only [periodBytes, hdays, hhead, h01, ← yesNoOf_eq_some h2, ← windowLengthOf_eq_some h8, ← List.append_assoc]
    simp [take_append_field, hp, List.take_of_length_le]

/-! ### Group limit records -/

/-- The 16 bytes of a GROUP LIMIT write: its head, its presence mask and its fields (R95, R175). -/
structure LimitPayload where
  schedule : Byte
  entry : Byte
  group : Byte
  action : Byte
  mask : Byte
  leq : Nat
  alert : Nat
  lmax : Nat
  peak : Nat
  penalty : Nat
  threshold : Byte

/-- Every two-byte field has room. -/
def LimitPayload.fits (x : LimitPayload) : Prop :=
  x.leq < 65536 ∧ x.alert < 65536 ∧ x.lmax < 65536 ∧ x.peak < 65536 ∧ x.penalty < 65536

def LimitPayload.bytes (x : LimitPayload) : List Byte :=
  [x.schedule, x.entry, x.group, x.action, x.mask] ++ beBytes 2 x.leq ++ beBytes 2 x.alert ++ beBytes 2 x.lmax
    ++ beBytes 2 x.peak ++ beBytes 2 x.penalty ++ [x.threshold]

/-- A level that is read lies above 199.99 dB (R95; a level without its presence bit is not read: log 15). -/
def LimitPayload.tooHigh (x : LimitPayload) : Prop :=
  19999 < x.leq ∨ (x.mask.getLsbD 0 = true ∧ 19999 < x.alert) ∨ (x.mask.getLsbD 1 = true ∧ 19999 < x.lmax)
    ∨ (x.mask.getLsbD 2 = true ∧ 19999 < x.peak)

/-- The record the payload stores (R93, R95). -/
def LimitPayload.record (x : LimitPayload) : LimitRecord where
  leq := x.leq
  alert := if x.mask.getLsbD 0 then some x.alert else none
  lmax := if x.mask.getLsbD 1 then some x.lmax else none
  peak := if x.mask.getLsbD 2 then some x.peak else none
  penalty := clamp 0 1000 x.penalty
  threshold := clamp 1 255 x.threshold.toNat

theorem LimitPayload.bytes_length (x : LimitPayload) : x.bytes.length = 16 := by simp [LimitPayload.bytes]

/-- An optional level is refused where it is present and above 199.99 dB (R95). -/
theorem optionalLevel_eq (b : Bool) (n : Nat) :
    optionalLevel b n = if b = true ∧ 19999 < n then none else some (if b then some n else none) := by
  cases b
  · rfl
  · by_cases h : 19999 < n
    · simp [optionalLevel, levelField, h]
    · simp [optionalLevel, levelField, h, Nat.le_of_not_lt h]

/-- The record of a GROUP LIMIT write: none where a level that is read is too high (R93, R95). -/
theorem limitRecordOf_bytes {x : LimitPayload} (hx : x.fits) :
    (x.tooHigh → limitRecordOf x.bytes = none) ∧ (¬x.tooHigh → limitRecordOf x.bytes = some x.record) := by
  obtain ⟨hl, ha, hm, hp, hn⟩ := hx
  have read : limitRecordOf x.bytes = (levelField x.leq).bind fun leq =>
      (optionalLevel (x.mask.getLsbD 0) x.alert).bind fun alert =>
      (optionalLevel (x.mask.getLsbD 1) x.lmax).bind fun lmax =>
      (optionalLevel (x.mask.getLsbD 2) x.peak).bind fun peak => some
        { leq, alert, lmax, peak, penalty := clamp 0 1000 x.penalty, threshold := clamp 1 255 x.threshold.toNat } := by
    simp [limitRecordOf, LimitPayload.bytes, field_append_left, field_append_right, field_beBytes, Nat.mod_eq_of_lt hl,
      Nat.mod_eq_of_lt ha, Nat.mod_eq_of_lt hm, Nat.mod_eq_of_lt hp, Nat.mod_eq_of_lt hn]
  rw [read]
  simp only [optionalLevel_eq, LimitPayload.tooHigh, levelField]
  constructor
  · rintro (h | h | h | h)
    · simp [Nat.not_le_of_lt h]
    all_goals
      simp only [h, and_self, if_true]
      split_ifs <;> simp
  · rintro h
    obtain ⟨h1, h2, h3, h4⟩ : ¬19999 < x.leq ∧ ¬(x.mask.getLsbD 0 = true ∧ 19999 < x.alert)
        ∧ ¬(x.mask.getLsbD 1 = true ∧ 19999 < x.lmax) ∧ ¬(x.mask.getLsbD 2 = true ∧ 19999 < x.peak) := by tauto
    rw [if_pos (Nat.le_of_not_lt h1), if_neg h2, if_neg h3, if_neg h4]
    rfl

theorem LimitPayload.record_legal {x : LimitPayload} (h : ¬x.tooHigh) : x.record.legal := by
  unfold LimitPayload.tooHigh at h
  have level : ∀ (b : Bool) (n : Nat), ¬(b = true ∧ 19999 < n) → ∀ l ∈ (if b then some n else none), legalLevel l := by
    rintro (_ | _) n hn l hl <;> simp_all [legalLevel]
  obtain ⟨t1, t2⟩ := clamp_mem (lo := 1) (hi := 255) x.threshold.toNat (by decide)
  exact ⟨Nat.le_of_not_lt fun h1 => h (.inl h1), level _ _ fun h1 => h (.inr (.inl h1)),
    level _ _ fun h1 => h (.inr (.inr (.inl h1))), level _ _ fun h1 => h (.inr (.inr (.inr h1))),
    (clamp_mem (lo := 0) (hi := 1000) x.penalty (by decide)).2, t1, t2⟩

/-- The tests of a GROUP LIMIT write in order: schedule, entry, group, action, and the record of action write (R95). -/
theorem limitWriteOf_bytes (x : LimitPayload) :
    limitWriteOf x.bytes = (scheduleNameOf x.schedule.toNat).bind fun name =>
      (indexOf 24 x.entry.toNat).bind fun i => (indexOf 8 x.group.toNat).bind fun g =>
        if name = .staged then
          match x.action.toNat with
          | 0 => (limitRecordOf x.bytes).map fun r => (i, g, some r)
          | 1 => some (i, g, none)
          | _ => none
        else none := by
  have hl : ofLength x.bytes 16 = some () := ofLength_eq_some.mpr x.bytes_length
  have head : ∀ off, off < 4 → field x.bytes off 1 = ([x.schedule, x.entry, x.group, x.action][off]?.getD 0).toNat := by
    intro off h
    interval_cases off <;> simp [LimitPayload.bytes]
  rw [limitWriteOf, hl, head 0 (by decide), head 1 (by decide), head 2 (by decide), head 3 (by decide)]
  rfl

end Sys2Proof.Machine
end

section
/-! SUPPORT. The table writes and reads as requests: O16 and O17 (R2 to R6, R92 to R95). -/
namespace Sys2Proof.Machine

/-! ### A rule that answers and hands over no record -/

/-- A request whose rule leaves a state and hands over no record: that state, with the answer (R163, R180). -/
theorem State.serve_plain {s t : State} {code : Byte} {w b : Bool} {r : Request} {rule : State → Reply} {k : ResultCode}
    {p : List Byte} (hr : Addressed r s) (h : rule s = Reply.plain t k p) :
    s.serve code w b r rule = t.answer w code r.tag k p := by
  rw [State.serve_addressed s code w b r rule hr.1 hr.2, h]
  rfl

theorem takeOutsideBoot_some {α : Type} {s : State} {operands : Option α} {rule : α → Reply} {a : α}
    (hm : s.control.mode ≠ .boot) (h : operands = some a) : takeOutsideBoot s operands rule = rule a := by
  simp [takeOutsideBoot, takeAlways, h, hm]

theorem takeOutsideBoot_none {α : Type} {s : State} {operands : Option α} {rule : α → Reply} (h : operands = none) :
    takeOutsideBoot s operands rule = Reply.plain s .badArgument [] := by
  simp [takeOutsideBoot, takeAlways, h, Reply.badArgument]

/-- An addressed request of a command not taken in BOOT whose operands cannot be read is BAD_ARGUMENT, and no more
(R180). -/
theorem State.serve_refused {α : Type} {s : State} {code : Byte} {w b : Bool} {r : Request} {operands : Option α}
    {rule : State → α → Reply} (hr : Addressed r s) (h : operands = none) :
    s.serve code w b r (fun s => takeOutsideBoot s operands (rule s)) = s.answer w code r.tag .badArgument [] :=
  State.serve_plain hr (takeOutsideBoot_none h)

/-- An addressed request of a command not taken in BOOT whose operands are read, and whose rule hands over no record. -/
theorem State.serve_taken {α : Type} {s t : State} {code : Byte} {w b : Bool} {r : Request} {operands : Option α}
    {rule : State → α → Reply} {a : α} {k : ResultCode} {p : List Byte} (hr : Addressed r s)
    (hm : s.control.mode ≠ .boot) (h : operands = some a) (hp : rule s a = Reply.plain t k p) :
    s.serve code w b r (fun s => takeOutsideBoot s operands (rule s)) = t.answer w code r.tag k p :=
  State.serve_plain hr ((takeOutsideBoot_some hm h).trans hp)

/-! ### MAP CHANNEL and MAP GROUP -/

/-- The two bytes that name a bank and an entry of it. -/
def entryHead (k : Bank) (i : Nat) : List Byte := [BitVec.ofNat 8 (bankCode k), BitVec.ofNat 8 i]

section Maps
variable {r : Request} {s : State}

/-- A MAP CHANNEL write that spells an entry stores it clamped and answers it as stored (R2, R5). -/
theorem exec_mapChannelWrite_bytes (hr : Addressed r s) (hm : s.control.mode ≠ .boot) {k : Bank} {c : Chan}
    {e : ChannelEntry} (he : e.spellable) (hp : r.payload = entryHead k c ++ channelEntryBytes e) :
    exec (.mapChannelWrite r) s = .next ((s.writeChannel k c e.clamped).answer true 10 r.tag .ok
      (entryHead k c ++ channelEntryBytes e.clamped)) :=
  congrArg Host.Outcome.next (State.serve_taken hr hm (hp ▸ mapChannelWriteOf_bytes k c he) (by simp [entryHead, beBytes_one]))

/-- A MAP CHANNEL write that spells no entry is BAD_ARGUMENT (R2, R180). -/
theorem exec_mapChannelWrite_refused (hr : Addressed r s)
    (h : ∀ k (c : Chan) (e : ChannelEntry), e.spellable → r.payload ≠ entryHead k c ++ channelEntryBytes e) :
    exec (.mapChannelWrite r) s = .next (s.answer true 10 r.tag .badArgument []) := by
  refine congrArg Host.Outcome.next (State.serve_refused hr (Option.eq_none_iff_forall_ne_some.mpr ?_))
  rintro ⟨k, c, x⟩ hx
  obtain ⟨e, he, hp, -⟩ := mapChannelWriteOf_eq_some hx
  exact h k c e he hp

/-- A MAP GROUP write that spells an entry stores it clamped and answers it as stored (R3, R6). -/
theorem exec_mapGroupWrite_bytes (hr : Addressed r s) (hm : s.control.mode ≠ .boot) {k : Bank} {g : Grp}
    {e : GroupEntry} (he : e.spellable) (hp : r.payload = entryHead k g ++ groupEntryBytes e) :
    exec (.mapGroupWrite r) s = .next ((s.writeGroup k g e.clamped).answer true 11 r.tag .ok
      (entryHead k g ++ groupEntryBytes e.clamped)) :=
  congrArg Host.Outcome.next (State.serve_taken hr hm (hp ▸ mapGroupWriteOf_bytes k g he) (by simp [entryHead, beBytes_one]))

/-- A MAP GROUP write that spells no entry is BAD_ARGUMENT (R3, R180). -/
theorem exec_mapGroupWrite_refused (hr : Addressed r s)
    (h : ∀ k (g : Grp) (e : GroupEntry), e.spellable → r.payload ≠ entryHead k g ++ groupEntryBytes e) :
    exec (.mapGroupWrite r) s = .next (s.answer true 11 r.tag .badArgument []) := by
  refine congrArg Host.Outcome.next (State.serve_refused hr (Option.eq_none_iff_forall_ne_some.mpr ?_))
  rintro ⟨k, g, x⟩ hx
  obtain ⟨e, he, hp, -⟩ := mapGroupWriteOf_eq_some hx
  exact h k g e he hp

/-- A MAP CHANNEL read answers the entry of the map it names, under the bytes that name it (R5). -/
theorem exec_mapChannelRead_some (hr : Addressed r s) (hm : s.control.mode ≠ .boot) {n : MapName} {c : Chan}
    {m : ChannelMap} (hp : mapChannelReadOf r.payload = some (n, c)) (hn : s.router.named n = some m) :
    exec (.mapChannelRead r) s = .next (s.answer false 10 r.tag .ok
      ([BitVec.ofNat 8 (mapNameCode n), BitVec.ofNat 8 c] ++ channelEntryBytes m.channels[c])) :=
  congrArg Host.Outcome.next (State.serve_taken hr hm hp (by simp [hn, beBytes_one]))

/-- A MAP CHANNEL read of a map that is not held is NOT_AVAILABLE (R5). -/
theorem exec_mapChannelRead_none (hr : Addressed r s) (hm : s.control.mode ≠ .boot) {n : MapName} {c : Chan}
    (hp : mapChannelReadOf r.payload = some (n, c)) (hn : s.router.named n = none) :
    exec (.mapChannelRead r) s = .next (s.answer false 10 r.tag .notAvailable []) :=
  congrArg Host.Outcome.next (State.serve_taken hr hm hp (by simp [hn]))

/-- A MAP GROUP read answers the entry of the map it names, under the bytes that name it (R6). -/
theorem exec_mapGroupRead_some (hr : Addressed r s) (hm : s.control.mode ≠ .boot) {n : MapName} {g : Grp}
    {m : ChannelMap} (hp : mapGroupReadOf r.payload = some (n, g)) (hn : s.router.named n = some m) :
    exec (.mapGroupRead r) s = .next (s.answer false 11 r.tag .ok
      ([BitVec.ofNat 8 (mapNameCode n), BitVec.ofNat 8 g] ++ groupEntryBytes m.groups[g])) :=
  congrArg Host.Outcome.next (State.serve_taken hr hm hp (by simp [hn, beBytes_one]))

/-- A MAP GROUP read of a map that is not held is NOT_AVAILABLE (R6). -/
theorem exec_mapGroupRead_none (hr : Addressed r s) (hm : s.control.mode ≠ .boot) {n : MapName} {g : Grp}
    (hp : mapGroupReadOf r.payload = some (n, g)) (hn : s.router.named n = none) :
    exec (.mapGroupRead r) s = .next (s.answer false 11 r.tag .notAvailable []) :=
  congrArg Host.Outcome.next (State.serve_taken hr hm hp (by simp [hn]))

end Maps

/-! ### The names of maps, and what a written bank holds -/

theorem mapNameOf_code (n : MapName) : mapNameOf (mapNameCode n) = some n := by cases n <;> rfl

theorem mapNameCode_lt (n : MapName) : mapNameCode n < 256 := by cases n <;> decide

/-- A bank by its name. -/
def Bank.name : Bank → MapName
  | .a => .bankA
  | .b => .bankB

theorem Bank.name_code (k : Bank) : mapNameCode k.name = bankCode k := by cases k <;> rfl

theorem Router.named_bank (r : Router) (k : Bank) : r.named k.name = some (r.bank k) := by cases k <;> rfl

theorem mapChannelReadOf_bytes (n : MapName) (c : Chan) :
    mapChannelReadOf [BitVec.ofNat 8 (mapNameCode n), BitVec.ofNat 8 c] = some (n, c) := by
  have hc := c.isLt
  simp [mapChannelReadOf, ofLength, Nat.mod_eq_of_lt (mapNameCode_lt n), Nat.mod_eq_of_lt (show c.val < 256 by omega),
    mapNameOf_code]

theorem mapGroupReadOf_bytes (n : MapName) (g : Grp) :
    mapGroupReadOf [BitVec.ofNat 8 (mapNameCode n), BitVec.ofNat 8 g] = some (n, g) := by
  have hg := g.isLt
  simp [mapGroupReadOf, ofLength, Nat.mod_eq_of_lt (mapNameCode_lt n), Nat.mod_eq_of_lt (show g.val < 256 by omega),
    mapNameOf_code]

@[simp] theorem Router.setBank_bank (r : Router) (k : Bank) (m : ChannelMap) : (r.setBank k m).bank k = m := by
  cases k <;> rfl

@[simp] theorem ChannelMap.setChannel_same (m : ChannelMap) (c : Chan) (e : ChannelEntry) :
    (m.setChannel c e).channels[c.val] = e := by simp [ChannelMap.setChannel]

@[simp] theorem ChannelMap.setGroup_same (m : ChannelMap) (g : Grp) (e : GroupEntry) :
    (m.setGroup g e).groups[g.val] = e := by simp [ChannelMap.setGroup]

theorem State.answer_length (s : State) (w : Bool) (code tag : Byte) (k : ResultCode) (p : List Byte) :
    (s.answer w code tag k p).trunk.out.length = s.trunk.out.length + 1 := by simp [State.answer]

/-- Settles O16: a legal entry is its own clamped form, so that it is stored and read back as it was spelt. -/
theorem mapEntriesWriteAndReadBack : Obligations.MapEntriesWriteAndReadBack := by
  intro rw rr s hw hb ho hm
  have hr : Addressed rr s := ⟨hb, by omega⟩
  refine ⟨fun k c e he hp hp' => ?_, fun k g e he hp hp' => ?_, fun c => ⟨fun hp => ?_, fun hp => ?_⟩,
    fun g => ⟨fun hp => ?_, fun hp => ?_⟩⟩
  · change rw.payload = entryHead k c ++ _ at hp
    obtain ⟨hs, hc⟩ := he.clamped
    have hx := exec_mapChannelWrite_bytes hw hm hs hp
    rw [hc, ← hp] at hx
    refine ⟨_, hx, rfl, by simp, ?_⟩
    have ht : Addressed rr ((s.writeChannel k c e).answer true 10 rw.tag .ok rw.payload) :=
      ⟨hb, by rw [State.answer_length]; exact Nat.succ_lt_succ ho⟩
    rw [exec_mapChannelRead_some ht hm (n := k.name) (c := c) (by rw [hp', ← k.name_code]; exact mapChannelReadOf_bytes ..)
      (Router.named_bank _ k), k.name_code, hp]
    simp [entryHead]
  · change rw.payload = entryHead k g ++ _ at hp
    obtain ⟨hs, hc⟩ := he.clamped
    have hx := exec_mapGroupWrite_bytes hw hm hs hp
    rw [hc, ← hp] at hx
    refine ⟨_, hx, rfl, by simp, ?_⟩
    have ht : Addressed rr ((s.writeGroup k g e).answer true 11 rw.tag .ok rw.payload) :=
      ⟨hb, by rw [State.answer_length]; exact Nat.succ_lt_succ ho⟩
    rw [exec_mapGroupRead_some ht hm (n := k.name) (g := g) (by rw [hp', ← k.name_code]; exact mapGroupReadOf_bytes ..)
      (Router.named_bank _ k), k.name_code, hp]
    simp [entryHead]
  · rw [hp]
    exact exec_mapChannelRead_some hr hm (n := .active) (hp ▸ mapChannelReadOf_bytes .active c) rfl
  · have hread : mapChannelReadOf rr.payload = some (.pendingMap, c) := hp ▸ mapChannelReadOf_bytes .pendingMap c
    split
    · rename_i p hn
      rw [hp]
      exact exec_mapChannelRead_some hr hm hread (by simp [Router.named, hn])
    · rename_i hn
      exact exec_mapChannelRead_none hr hm hread (by simp [Router.named, hn])
  · rw [hp]
    exact exec_mapGroupRead_some hr hm (n := .active) (hp ▸ mapGroupReadOf_bytes .active g) rfl
  · have hread : mapGroupReadOf rr.payload = some (.pendingMap, g) := hp ▸ mapGroupReadOf_bytes .pendingMap g
    split
    · rename_i p hn
      rw [hp]
      exact exec_mapGroupRead_some hr hm hread (by simp [Router.named, hn])
    · rename_i hn
      exact exec_mapGroupRead_none hr hm hread (by simp [Router.named, hn])

/-! ### PERIOD ENTRY and GROUP LIMIT -/

section Schedules
variable {r : Request} {s : State}

/-- A PERIOD ENTRY write that spells a legal entry replaces its period fields and keeps its limits (R94). -/
theorem exec_periodEntryWrite_bytes (hr : Addressed r s) (hm : s.control.mode ≠ .boot) {i : Per} {e : PeriodEntry}
    (he : e.legal) (hp : r.payload = [0, BitVec.ofNat 8 i] ++ periodBytes e) :
    exec (.periodEntryWrite r) s = .next ({ s with schedules := s.schedules.writePeriod i e }.answer true 20 r.tag .ok
      ([0, BitVec.ofNat 8 i] ++ periodBytes e)) :=
  congrArg Host.Outcome.next (State.serve_taken hr hm (hp ▸ periodWriteOf_bytes i he)
    (by simp [scheduleNameCode, beBytes_one, periodBytes, Schedules.writePeriod]))

/-- A PERIOD ENTRY write that spells no legal entry is BAD_ARGUMENT (R94, R180). -/
theorem exec_periodEntryWrite_refused (hr : Addressed r s)
    (h : ∀ (i : Per) (e : PeriodEntry), e.legal → r.payload ≠ [0, BitVec.ofNat 8 i] ++ periodBytes e) :
    exec (.periodEntryWrite r) s = .next (s.answer true 20 r.tag .badArgument []) := by
  refine congrArg Host.Outcome.next (State.serve_refused hr (Option.eq_none_iff_forall_ne_some.mpr ?_))
  rintro ⟨i, x⟩ hx
  obtain ⟨he, hp⟩ := periodWriteOf_eq_some hx
  exact h i x he hp

/-- Both rows of GROUP LIMIT with the write flag set are taken as one request. -/
theorem exec_groupLimit {c : Instr} (hc : c = .groupLimitWrite r ∨ c = .groupLimitRemove r) :
    exec c s = .next (serveLimitWrite r s) := by
  rcases hc with rfl | rfl <;> rfl

/-- A GROUP LIMIT that cannot be read is BAD_ARGUMENT (R95, R180). -/
theorem serveLimitWrite_refused (hr : Addressed r s) (h : limitWriteOf r.payload = none) :
    serveLimitWrite r s = s.answer true 21 r.tag .badArgument [] := State.serve_refused hr h

/-- A GROUP LIMIT of action write stores its record and answers it (R95). -/
theorem serveLimitWrite_some (hr : Addressed r s) (hm : s.control.mode ≠ .boot) {i : Per} {g : Grp} {x : LimitRecord}
    (h : limitWriteOf r.payload = some (i, g, some x)) :
    serveLimitWrite r s = { s with schedules := s.schedules.writeLimit i g (some x) }.answer true 21 r.tag .ok
      ([0, BitVec.ofNat 8 i, BitVec.ofNat 8 g] ++ limitBytes x) :=
  State.serve_taken hr hm h (by simp [limitHead, scheduleNameCode, beBytes_one])

/-- A GROUP LIMIT of action remove makes the record absent (R95). -/
theorem serveLimitWrite_none (hr : Addressed r s) (hm : s.control.mode ≠ .boot) {i : Per} {g : Grp}
    (h : limitWriteOf r.payload = some (i, g, none)) :
    serveLimitWrite r s = { s with schedules := s.schedules.writeLimit i g none }.answer true 21 r.tag .ok [] :=
  State.serve_taken hr hm h rfl

end Schedules

/-- The tests of a GROUP LIMIT that refuse it: its schedule, its indices, its action, and a level of action write (R95). -/
def LimitPayload.bad (x : LimitPayload) : Prop :=
  x.schedule ≠ 0 ∨ 23 < x.entry.toNat ∨ 7 < x.group.toNat ∨ 1 < x.action.toNat ∨ (x.action = 0 ∧ x.tooHigh)

theorem scheduleNameOf_staged (n : Nat) : scheduleNameOf n = some .staged ↔ n = 0 := by
  unfold scheduleNameOf; split <;> simp_all

theorem limitWriteOf_bad {x : LimitPayload} (hf : x.fits) (h : x.bad) : limitWriteOf x.bytes = none := by
  rw [limitWriteOf_bytes]
  refine Option.eq_none_iff_forall_ne_some.mpr fun a ha => ?_
  simp only [Option.bind_eq_some_iff] at ha
  obtain ⟨name, hn, i, hi, g, hg, ha⟩ := ha
  split at ha
  case isFalse => cases ha
  case isTrue hname =>
    subst hname
    have h0 : x.schedule.toNat = 0 := (scheduleNameOf_staged _).mp hn
    have hi' := indexOf_eq_some hi
    have hg' := indexOf_eq_some hg
    rcases h with h | h | h | h | ⟨h, ht⟩
    · exact h (BitVec.eq_of_toNat_eq h0)
    · omega
    · omega
    · split at ha
      · omega
      · omega
      · cases ha
    · rw [show x.action.toNat = 0 by rw [h]; rfl] at ha
      simp [(limitRecordOf_bytes hf).1 ht] at ha

theorem limitWriteOf_write {x : LimitPayload} (hf : x.fits) {i : Per} {g : Grp} (hs : x.schedule = 0)
    (hi : x.entry.toNat = i.val) (hg : x.group.toNat = g.val) (ha : x.action = 0) (ht : ¬x.tooHigh) :
    limitWriteOf x.bytes = some (i, g, some x.record) := by
  rw [limitWriteOf_bytes, hi, hg, hs, ha, (limitRecordOf_bytes hf).2 ht]
  simp [scheduleNameOf]

theorem limitWriteOf_remove {x : LimitPayload} {i : Per} {g : Grp} (hs : x.schedule = 0)
    (hi : x.entry.toNat = i.val) (hg : x.group.toNat = g.val) (ha : x.action = 1) :
    limitWriteOf x.bytes = some (i, g, none) := by
  rw [limitWriteOf_bytes, hi, hg, hs, ha]
  simp [scheduleNameOf]

/-- Settles O17: what a payload spells is what it is read as, clamped, and nothing else is read. -/
theorem tableWritesStoreLegalEntries : Obligations.TableWritesStoreLegalEntries := by
  intro r s hr hm refused between
  have hclamp : ∀ lo hi n, lo ≤ hi → between lo hi n = clamp lo hi n := fun lo hi n h => (clamp_eq h n).symm
  have hchannel : ∀ e : ChannelEntry, e.clamped = { e with
      overloadCount := between 1 255 e.overloadCount, checkInterval := between 60 1440 e.checkInterval
      tolerance := between 10 200 e.tolerance } := fun e => by
    simp [ChannelEntry.clamped, hclamp]
  have hgroup : ∀ e : GroupEntry, e.clamped = { e with
      alertWindow := between 60 900 e.alertWindow, crestThreshold := between 0 4000 e.crestThreshold
      impulseHold := between 1 64 e.impulseHold } := fun e => by
    simp [GroupEntry.clamped, hclamp]
  refine ⟨⟨?_, ?_⟩, ⟨?_, ?_⟩, ⟨?_, ?_⟩, ?_⟩
  · rintro k c e ⟨hp, he⟩
    intro stored
    rw [show stored = e.clamped from (hchannel e).symm]
    exact ⟨ChannelEntry.clamped_legal he, exec_mapChannelWrite_bytes hr hm he hp⟩
  · exact fun h => exec_mapChannelWrite_refused hr fun k c e he hp => h k c e ⟨hp, he⟩
  · rintro k g e ⟨hp, he⟩
    intro stored
    rw [show stored = e.clamped from (hgroup e).symm]
    exact ⟨GroupEntry.clamped_legal he, exec_mapGroupWrite_bytes hr hm he hp⟩
  · exact fun h => exec_mapGroupWrite_refused hr fun k g e he hp => h k g e ⟨hp, he⟩
  · rintro i e ⟨hp, he⟩
    exact exec_periodEntryWrite_bytes hr hm he hp
  · exact fun h => exec_periodEntryWrite_refused hr fun i e he hp => h i e ⟨hp, he⟩
  · intro put head c hc
    rw [exec_groupLimit hc]
    refine ⟨fun a i g act mask thr leq alert lmax peak penalty hl ha hx hk hn hp => ?_, fun hlen => ?_⟩
    · let x : LimitPayload :=
        { schedule := a, entry := i, group := g, action := act, mask, leq, alert, lmax, peak, penalty, threshold := thr }
      have hf : x.fits := ⟨hl, ha, hx, hk, hn⟩
      intro tooHigh stored
      have hstored : stored = x.record := by
        simp only [stored, x, LimitPayload.record, hclamp 0 1000 _ (by decide), hclamp 1 255 _ (by decide)]
      refine ⟨fun hbad => congrArg _ (serveLimitWrite_refused hr (hp ▸ limitWriteOf_bad hf hbad)), ?_⟩
      intro j h h0 hj hh
      refine ⟨fun hact ht => ?_, fun hact => ?_⟩
      · rw [hstored]
        exact ⟨LimitPayload.record_legal ht,
          congrArg _ (serveLimitWrite_some hr hm (hp ▸ limitWriteOf_write hf h0 hj hh hact ht))⟩
      · exact congrArg _ (serveLimitWrite_none hr hm (hp ▸ limitWriteOf_remove (x := x) h0 hj hh hact))
    · refine congrArg _ (serveLimitWrite_refused hr ?_)
      simp [limitWriteOf, ofLength, hlen]

end Sys2Proof.Machine
end

section
/-! SUPPORT. MAP COMMIT and SCHEDULE COMMIT: the first failure in order, and O18 (R7, R8, R96). -/
namespace Sys2Proof.Machine

/-! ### The first in order -/

/-- The first index at which a search finds something decides it. -/
theorem findSome?_finRange_eq_some {n : Nat} {β : Type} {f : Fin n → Option β} {i : Fin n} {y : β} (hi : f i = some y)
    (hlt : ∀ j < i, f j = none) : (List.finRange n).findSome? f = some y := by
  obtain ⟨z, hz⟩ := Option.ne_none_iff_exists'.mp fun h : (List.finRange n).findSome? f = none => by
    have := List.findSome?_eq_none_iff.mp h i (List.mem_finRange i)
    simp [hi] at this
  obtain ⟨before, a, after, hl, ha, hb⟩ := List.findSome?_eq_some_iff.mp hz
  have sorted : (before ++ a :: after).Pairwise (· < ·) := hl ▸ List.pairwise_lt_finRange n
  have hmem : i ∈ before ++ a :: after := hl ▸ List.mem_finRange i
  rcases List.mem_append.mp hmem with h | h
  · rw [hb i h] at hi; cases hi
  · rcases List.mem_cons.mp h with rfl | h
    · rw [hz, ← ha, hi]
    · have hai : a < i := (List.pairwise_cons.mp (List.pairwise_append.mp sorted).2.1).1 i h
      rw [hlt a hai] at ha; cases ha

theorem findSome?_finRange_eq_none {n : Nat} {β : Type} {f : Fin n → Option β} (h : ∀ i, f i = none) :
    (List.finRange n).findSome? f = none :=
  List.findSome?_eq_none_iff.mpr fun i _ => h i

/-! ### The tests of R8 -/

/-- What test 1 of R8 refuses: an enabled member without a group (reason 0), or a group of no member (reason 1). -/
def ChannelMap.channelFails (m : ChannelMap) (c : Chan) (reason : Byte) : Prop :=
  m.channels[c].enabled = true
    ∧ ((reason = 0 ∧ m.channels[c].role = .member ∧ m.channels[c].group = none)
      ∨ (reason = 1 ∧ m.channels[c].role ≠ .member ∧ m.channels[c].group ≠ none))

/-- What test 2 of R8 refuses: an enabled group whose background is no enabled reference. -/
def ChannelMap.groupFails (m : ChannelMap) (g : Grp) : Prop :=
  m.groups[g].enabled = true ∧ ∃ c : Chan, m.groups[g].background = some c
    ∧ ¬(m.channels[c].enabled = true ∧ m.channels[c].role = .reference)

/-- The fault of test 1 with its reason. -/
def channelFaultOf (c : Chan) (reason : Byte) : TableFault :=
  if reason = 0 then .memberNoGroup c else .groupNotMember c

theorem channelFault_eq_some {m : ChannelMap} {c : Chan} {reason : Byte} (h : m.channelFails c reason) :
    channelFault m c = some (channelFaultOf c reason) := by
  obtain ⟨he, ⟨rfl, hr, hg⟩ | ⟨rfl, hr, hg⟩⟩ := h
  · simp only [channelFault, he, hr, hg]; rfl
  · obtain ⟨g, hg⟩ := Option.ne_none_iff_exists'.mp hg
    unfold channelFault
    cases hrole : m.channels[c].role with
    | member => exact absurd hrole hr
    | reference => simp only [he, hrole, hg]; rfl
    | monitor => simp only [he, hrole, hg]; rfl

theorem channelFault_eq_none {m : ChannelMap} {c : Chan} (h : ∀ reason, ¬m.channelFails c reason) :
    channelFault m c = none := by
  cases hf : channelFault m c with
  | none => rfl
  | some f =>
    unfold channelFault at hf
    cases he : m.channels[c].enabled with
    | false => simp only [he] at hf; cases hf
    | true =>
      cases hr : m.channels[c].role <;> cases hg : m.channels[c].group
      case member.none => exact absurd ⟨he, .inl ⟨rfl, hr, hg⟩⟩ (h 0)
      case reference.some => exact absurd ⟨he, .inr ⟨rfl, by rw [hr]; simp, by rw [hg]; simp⟩⟩ (h 1)
      case monitor.some => exact absurd ⟨he, .inr ⟨rfl, by rw [hr]; simp, by rw [hg]; simp⟩⟩ (h 1)
      all_goals simp only [he, hr, hg] at hf; cases hf

theorem isReference_iff (m : ChannelMap) (c : Chan) :
    isReference m c = true ↔ m.channels[c].enabled = true ∧ m.channels[c].role = .reference := by
  simp [isReference]

theorem groupFault_eq_some {m : ChannelMap} {g : Grp} (h : m.groupFails g) : groupFault m g = some (.badBackground g) := by
  obtain ⟨he, c, hb, hc⟩ := h
  rw [← isReference_iff, Bool.not_eq_true] at hc
  simp only [groupFault, hb, he, hc]
  rfl

theorem groupFault_eq_none {m : ChannelMap} {g : Grp} (h : ¬m.groupFails g) : groupFault m g = none := by
  cases hb : m.groups[g].background with
  | none => simp only [groupFault, hb]
  | some c =>
    simp only [groupFault, hb]
    refine if_neg fun hc => ?_
    obtain ⟨he, hr⟩ := Bool.and_eq_true_iff.mp hc
    refine h ⟨he, c, hb, ?_⟩
    rw [← isReference_iff]
    simpa using hr

/-- Test 1 comes first: its first failing channel decides (R8). -/
theorem tableFault_channel {m : ChannelMap} {c : Chan} {reason : Byte} (h : m.channelFails c reason)
    (hlt : ∀ d < c, ∀ q, ¬m.channelFails d q) : tableFault m = some (channelFaultOf c reason) := by
  rw [tableFault, findSome?_finRange_eq_some (channelFault_eq_some h) fun d hd => channelFault_eq_none (hlt d hd)]

/-- Where test 1 passes, the first failing group of test 2 decides (R8). -/
theorem tableFault_group {m : ChannelMap} (hc : ∀ c reason, ¬m.channelFails c reason) {g : Grp} (h : m.groupFails g)
    (hlt : ∀ k < g, ¬m.groupFails k) : tableFault m = some (.badBackground g) := by
  rw [tableFault, findSome?_finRange_eq_none fun c => channelFault_eq_none (hc c)]
  exact findSome?_finRange_eq_some (groupFault_eq_some h) fun k hk => groupFault_eq_none (hlt k hk)

theorem tableFault_eq_none {m : ChannelMap} (hc : ∀ c reason, ¬m.channelFails c reason) (hg : ∀ g, ¬m.groupFails g) :
    tableFault m = none := by
  rw [tableFault, findSome?_finRange_eq_none fun c => channelFault_eq_none (hc c)]
  exact findSome?_finRange_eq_none fun g => groupFault_eq_none (hg g)

/-- A channel's locked fields differ from the locked values (R8, test 3; R10). -/
def lockDiffers (locked : Option (Vector LockedFields 16)) (m : ChannelMap) (c : Chan) : Prop :=
  ∃ l, locked = some l ∧ m.channels[c].lockedFields ≠ l[c]

theorem firstDiffering_eq_some {locked : Option (Vector LockedFields 16)} {m : ChannelMap} {c : Chan}
    (h : lockDiffers locked m c) (hlt : ∀ d < c, ¬lockDiffers locked m d) :
    (locked.bind fun l => firstDiffering l m) = some c := by
  obtain ⟨l, rfl, hc⟩ := h
  rw [Option.bind_some, firstDiffering, ← List.findSome?_guard]
  refine findSome?_finRange_eq_some (i := c) (by simpa using hc) fun d hd => ?_
  have hd : m.channels[d].lockedFields = l[d] := by_contra fun h => hlt d hd ⟨l, rfl, h⟩
  simp only [Fin.getElem_fin] at hd
  simp [hd]

theorem firstDiffering_eq_none {locked : Option (Vector LockedFields 16)} {m : ChannelMap}
    (h : ∀ c, ¬lockDiffers locked m c) : (locked.bind fun l => firstDiffering l m) = none := by
  cases locked with
  | none => rfl
  | some l =>
    refine List.find?_eq_none.mpr fun c _ => ?_
    rw [decide_eq_true_eq, ne_eq, not_not]
    exact by_contra fun hc => h c ⟨l, rfl, hc⟩

/-! ### The test of R96 -/

/-- Two staged entries overlap: both enabled, on a common day, each starting before the other ends (R96). -/
def overlapping (x y : PeriodEntry) : Prop :=
  x.enabled = true ∧ y.enabled = true ∧ (∃ d : Fin 7, x.days.getLsbD d.val = true ∧ y.days.getLsbD d.val = true)
    ∧ x.startMinute < y.endMinute ∧ y.startMinute < x.endMinute

/-- Two day masks have a common day exactly where their common part is not empty. -/
theorem commonDay_iff (a b : BitVec 7) :
    a &&& b ≠ 0 ↔ ∃ d : Fin 7, a.getLsbD d.val = true ∧ b.getLsbD d.val = true := by
  constructor
  · intro h
    by_contra hn
    refine h (BitVec.eq_of_getLsbD_eq fun i hi => ?_)
    rw [BitVec.getLsbD_and]
    have := not_exists.mp hn ⟨i, hi⟩
    simpa using this
  · rintro ⟨d, ha, hb⟩ h
    have hd : (a &&& b).getLsbD d.val = true := by rw [BitVec.getLsbD_and, ha, hb]; rfl
    rw [h] at hd
    simp at hd

theorem entriesOverlap_iff (x y : PeriodEntry) : entriesOverlap x y = true ↔ overlapping x y := by
  unfold entriesOverlap overlapping
  rw [← commonDay_iff]
  simp [and_assoc]

theorem firstOverlap_eq_none {s : Schedule} (h : ∀ i j : Per, i < j → ¬overlapping s[i] s[j]) : firstOverlap s = none := by
  refine findSome?_finRange_eq_none fun i => findSome?_finRange_eq_none fun j => if_neg ?_
  rw [entriesOverlap_iff]
  exact fun hc => h i j hc.1 hc.2

/-- The first overlapping pair, in order of `i` and then of `j` (R96). -/
theorem firstOverlap_eq_some {s : Schedule} {i j : Per} (hij : i < j) (h : overlapping s[i] s[j])
    (hlt : ∀ a b : Per, a < b → overlapping s[a] s[b] → i < a ∨ (i = a ∧ j ≤ b)) : firstOverlap s = some (.overlap i j) := by
  refine findSome?_finRange_eq_some (i := i) ?_ fun a ha => findSome?_finRange_eq_none fun b => if_neg ?_
  · refine findSome?_finRange_eq_some (i := j) (if_pos ⟨hij, (entriesOverlap_iff _ _).mpr h⟩) fun b hb => if_neg ?_
    rw [entriesOverlap_iff]
    rintro ⟨hib, hov⟩
    rcases hlt i b hib hov with h | ⟨-, h⟩
    · exact lt_irrefl i h
    · exact not_lt_of_ge h hb
  · rw [entriesOverlap_iff]
    rintro ⟨hab, hov⟩
    rcases hlt a b hab hov with h | ⟨rfl, -⟩
    · exact lt_asymm h ha
    · exact lt_irrefl _ ha

/-! ### The requests -/

/-- The one byte of a commit names what it commits, or is refused. -/
theorem bankOf_eq_none {b : Byte} (h0 : b ≠ 0) (h1 : b ≠ 1) : bankOf b.toNat = none := by
  unfold bankOf
  split
  · exact absurd (BitVec.eq_of_toNat_eq ‹_›) h0
  · exact absurd (BitVec.eq_of_toNat_eq ‹_›) h1
  · rfl

theorem commitModeOf_eq_none {b : Byte} (h0 : b ≠ 0) (h1 : b ≠ 1) : commitModeOf b.toNat = none := by
  unfold commitModeOf
  split
  · exact absurd (BitVec.eq_of_toNat_eq ‹_›) h0
  · exact absurd (BitVec.eq_of_toNat_eq ‹_›) h1
  · rfl

theorem mapCommitOf_bytes (b : Byte) : mapCommitOf [b] = bankOf b.toNat := by
  simp [mapCommitOf, ofLength]

theorem scheduleCommitOf_bytes (b : Byte) : scheduleCommitOf [b] = commitModeOf b.toNat := by
  simp [scheduleCommitOf, ofLength]

section Rules
variable {r : Request} {s : State} {p : List Byte}

/-- A commit at lock level 2 is LOCKED (R7). -/
theorem mapCommitRule_locked (hm : s.control.mode ≠ .boot) {k : Bank} (hp : mapCommitOf p = some k)
    (hl : 2 ≤ s.control.lock) : mapCommitRule p s = .plain s .locked [] := by
  rw [mapCommitRule, takeOutsideBoot_some hm hp, if_pos hl]

/-- A bank that fails a test of R8 is INVALID_TABLE with the failure. -/
theorem mapCommitRule_invalid (hm : s.control.mode ≠ .boot) {k : Bank} (hp : mapCommitOf p = some k)
    (hl : s.control.lock < 2) {f : TableFault}
    (hf : validateMap s.control.lock s.control.locked (s.router.bank k) = some f) :
    mapCommitRule p s = .plain s .invalidTable (tableFaultBytes f) := by
  rw [mapCommitRule, takeOutsideBoot_some hm hp, if_neg (by omega), hf]

/-- A bank that passes every test of R8 becomes the pending map (R7). -/
theorem mapCommitRule_pending (hm : s.control.mode ≠ .boot) {k : Bank} (hp : mapCommitOf p = some k)
    (hl : s.control.lock < 2) (hf : validateMap s.control.lock s.control.locked (s.router.bank k) = none) :
    mapCommitRule p s = .plain (s.commitMap k) .pendingResult (beBytes 1 (bankCode k)) := by
  rw [mapCommitRule, takeOutsideBoot_some hm hp, if_neg (by omega), hf]

/-- A schedule commit at lock level 2 is LOCKED (R96). -/
theorem scheduleCommitRule_locked (hm : s.control.mode ≠ .boot) {m : CommitMode} (hp : scheduleCommitOf p = some m)
    (hl : 2 ≤ s.control.lock) : scheduleCommitRule p s = .plain s .locked [] := by
  rw [scheduleCommitRule, takeOutsideBoot_some hm hp, if_pos hl]

/-- A staged schedule with an overlap is INVALID_TABLE with the first pair (R96). -/
theorem scheduleCommitRule_invalid (hm : s.control.mode ≠ .boot) {m : CommitMode} (hp : scheduleCommitOf p = some m)
    (hl : s.control.lock < 2) {f : TableFault} (hf : firstOverlap s.schedules.staged = some f) :
    scheduleCommitRule p s = .plain s .invalidTable (tableFaultBytes f) := by
  rw [scheduleCommitRule, takeOutsideBoot_some hm hp, if_neg (by omega), hf]

/-- A staged schedule without overlaps becomes the pending one (R96). -/
theorem scheduleCommitRule_pending (hm : s.control.mode ≠ .boot) {m : CommitMode} (hp : scheduleCommitOf p = some m)
    (hl : s.control.lock < 2) (hf : firstOverlap s.schedules.staged = none) :
    scheduleCommitRule p s = .plain (s.commitSchedule m) .pendingResult (beBytes 1 (commitModeCode m)) := by
  rw [scheduleCommitRule, takeOutsideBoot_some hm hp, if_neg (by omega), hf]

/-- A MAP COMMIT answers what its rule says. -/
theorem exec_mapCommit (hr : Addressed r s) {t : State} {code : ResultCode} (h : mapCommitRule r.payload s = .plain t code p) :
    exec (.mapCommit r) s = .next (t.answer r.write 12 r.tag code p) :=
  congrArg Host.Outcome.next (State.serve_plain hr h)

/-- A SCHEDULE COMMIT answers what its rule says. -/
theorem exec_scheduleCommit (hr : Addressed r s) {t : State} {code : ResultCode}
    (h : scheduleCommitRule r.payload s = .plain t code p) :
    exec (.scheduleCommit r) s = .next (t.answer r.write 22 r.tag code p) :=
  congrArg Host.Outcome.next (State.serve_plain hr h)

end Rules

theorem validateMap_eq_some {lock : Nat} {locked : Option (Vector LockedFields 16)} {m : ChannelMap} {f : TableFault}
    (h : tableFault m = some f) : validateMap lock locked m = some f := by
  simp [validateMap, h]

theorem validateMap_of_tableFault_eq_none {lock : Nat} {locked : Option (Vector LockedFields 16)} {m : ChannelMap}
    (h : tableFault m = none) : validateMap lock locked m =
      if lock = 0 then none else (locked.bind fun l => firstDiffering l m).map TableFault.lockedField := by
  simp [validateMap, h]

theorem tableFaultBytes_group (g : Grp) : tableFaultBytes (.badBackground g) = [2, BitVec.ofNat 8 g.val] := by
  simp [tableFaultBytes, beBytes_one]

theorem tableFaultBytes_locked (c : Chan) : tableFaultBytes (.lockedField c) = [3, BitVec.ofNat 8 c.val] := by
  simp [tableFaultBytes, beBytes_one]

theorem tableFaultBytes_overlap (i j : Per) :
    tableFaultBytes (.overlap i j) = [4, BitVec.ofNat 8 i.val, BitVec.ofNat 8 j.val] := by
  simp [tableFaultBytes, beBytes_one]

theorem tableFaultBytes_channel (c : Chan) {reason : Byte} (h : reason = 0 ∨ reason = 1) :
    tableFaultBytes (channelFaultOf c reason) = [reason, BitVec.ofNat 8 c.val] := by
  rcases h with rfl | rfl <;> simp [channelFaultOf, tableFaultBytes, beBytes_one]

/-- MAP COMMIT of a bank: the lock, then the tests of R8 in order, then the pending map (R7, R8). -/
theorem mapCommit_isValidated {r : Request} {s : State} (hr : Addressed r s) (hm : s.control.mode ≠ .boot) (k : Bank)
    (hp : r.payload = [BitVec.ofNat 8 (bankCode k)]) :
    let m := s.router.bank k
    let channelsPass : Prop := ∀ (c : Chan) (reason : Byte), ¬m.channelFails c reason
    let groupsPass : Prop := ∀ g : Grp, ¬m.groupFails g
    let lockFails (c : Chan) : Prop := 1 ≤ s.control.lock ∧ lockDiffers s.control.locked m c
    let invalid (reason : Byte) (index : Nat) : Prop :=
      exec (.mapCommit r) s = .next (s.answer r.write 12 r.tag .invalidTable [reason, BitVec.ofNat 8 index])
    (2 ≤ s.control.lock → exec (.mapCommit r) s = .next (s.answer r.write 12 r.tag .locked []))
    ∧ (s.control.lock < 2 → channelsPass → groupsPass → (∀ c : Chan, ¬lockFails c) → exec (.mapCommit r) s =
        .next ((s.commitMap k).answer r.write 12 r.tag .pendingResult r.payload))
    ∧ (s.control.lock < 2 → ∀ (c : Chan) (reason : Byte), m.channelFails c reason →
        (∀ d : Chan, d < c → ∀ q : Byte, ¬m.channelFails d q) → invalid reason c.val)
    ∧ (s.control.lock < 2 → channelsPass → ∀ g : Grp, m.groupFails g → (∀ h : Grp, h < g → ¬m.groupFails h) →
        invalid 2 g.val)
    ∧ (s.control.lock < 2 → channelsPass → groupsPass → ∀ c : Chan, lockFails c →
        (∀ d : Chan, d < c → ¬lockFails d) → invalid 3 c.val) := by
  intro m channelsPass groupsPass lockFails invalid
  have hk : mapCommitOf r.payload = some k := by rw [hp, mapCommitOf_bytes]; cases k <;> rfl
  refine ⟨fun hl => ?_, fun hl hc hg hlock => ?_, fun hl c reason hc hlt => ?_, fun hl hc g hg hlt => ?_,
    fun hl hc hg c hlock hlt => ?_⟩
  · exact exec_mapCommit hr (mapCommitRule_locked hm hk hl)
  · have hv : validateMap s.control.lock s.control.locked m = none := by
      rw [validateMap_of_tableFault_eq_none (tableFault_eq_none hc hg)]
      by_cases h0 : s.control.lock = 0
      · rw [if_pos h0]
      · rw [if_neg h0, firstDiffering_eq_none fun c hd => hlock c ⟨by omega, hd⟩]; rfl
    rw [hp, ← beBytes_one]
    exact exec_mapCommit hr (mapCommitRule_pending hm hk hl hv)
  · have hv := validateMap_eq_some (lock := s.control.lock) (locked := s.control.locked) (tableFault_channel hc hlt)
    have hx := exec_mapCommit hr (mapCommitRule_invalid hm hk hl hv)
    rwa [tableFaultBytes_channel c (hc.2.imp And.left And.left)] at hx
  · have hv := validateMap_eq_some (lock := s.control.lock) (locked := s.control.locked) (tableFault_group hc hg hlt)
    have hx := exec_mapCommit hr (mapCommitRule_invalid hm hk hl hv)
    rwa [tableFaultBytes_group] at hx
  · obtain ⟨h1, hd⟩ := hlock
    have hv : validateMap s.control.lock s.control.locked m = some (.lockedField c) := by
      rw [validateMap_of_tableFault_eq_none (tableFault_eq_none hc hg), if_neg (by omega),
        firstDiffering_eq_some hd fun d hlt' hdd => hlt d hlt' ⟨h1, hdd⟩]
      rfl
    have hx := exec_mapCommit hr (mapCommitRule_invalid hm hk hl hv)
    rwa [tableFaultBytes_locked] at hx

/-- Settles O18: each commit goes through its tests in order. -/
theorem commitsAreValidated : Obligations.CommitsAreValidated := by
  refine ⟨fun r s b hr hm hp => ⟨fun h0 h1 => ?_, fun k hb => ?_⟩, fun r s b hr hm hp => ?_⟩
  · exact congrArg Host.Outcome.next (State.serve_refused hr (by rw [hp, mapCommitOf_bytes]; exact bankOf_eq_none h0 h1))
  · have hk := mapCommit_isValidated hr hm k (hp.trans (congrArg (fun x => [x]) hb))
    rw [hp] at hk
    exact hk
  · intro overlap
    refine ⟨fun h0 h1 => ?_, fun m hb => ?_⟩
    · exact congrArg Host.Outcome.next
        (State.serve_refused hr (by rw [hp, scheduleCommitOf_bytes]; exact commitModeOf_eq_none h0 h1))
    · have hk : scheduleCommitOf r.payload = some m := by rw [hp, scheduleCommitOf_bytes, hb]; cases m <;> rfl
      refine ⟨fun hl => exec_scheduleCommit hr (scheduleCommitRule_locked hm hk hl), fun hl h => ?_,
        fun hl i j hij hov hlt => ?_⟩
      · rw [hb, ← beBytes_one]
        exact exec_scheduleCommit hr (scheduleCommitRule_pending hm hk hl (firstOverlap_eq_none h))
      · have hx := exec_scheduleCommit hr (scheduleCommitRule_invalid hm hk hl (firstOverlap_eq_some hij hov hlt))
        rwa [tableFaultBytes_overlap] at hx

end Sys2Proof.Machine
end

section
/-! SUPPORT. Frame periods: what a boundary leaves of the time record, how the frame index advances, what a good frame brings
to a channel; O30 (R1, R30, R63, R65, R66). -/
namespace Sys2Proof.Machine

/-! ### The time record at a boundary -/

@[simp] theorem State.boundary_time (s : State) (b : Bool) : (s.boundary b).time =
    if s.autoRunStarts b then { (s.opening b).time with pendingTime := none } else (s.opening b).time := by
  unfold State.boundary; dsimp only; split <;> simp [State.turnOver]

@[simp] theorem State.opening_true_time (s : State) :
    (s.opening true).time = (s.time.secondBoundary s.control.mode).time := rfl
@[simp] theorem State.opening_true_handed (s : State) :
    (s.opening true).handed = (s.time.secondBoundary s.control.mode).handed := rfl
@[simp] theorem State.opening_false_time (s : State) : (s.opening false).time = s.time.sliceBoundary := rfl

/-- A boundary moves neither the link nor its runs, and opens frame 0 (R63). -/
structure OpensPeriod (t u : TimeBase) : Prop where
  link : u.link = t.link
  startUp : u.startUp = t.startUp
  missingRun : u.missingRun = t.missingRun
  goodRun : u.goodRun = t.goodRun
  holdLength : u.holdLength = t.holdLength
  frameIndex : u.frameIndex = 0

theorem TimeBase.secondBoundary_opens (t : TimeBase) (mode : Mode) : OpensPeriod t (t.secondBoundary mode).time := by
  unfold TimeBase.secondBoundary
  dsimp only
  split
  · exact ⟨rfl, rfl, rfl, rfl, rfl, rfl⟩
  · split_ifs <;> exact ⟨rfl, rfl, rfl, rfl, rfl, rfl⟩

theorem State.opening_opens (s : State) (b : Bool) : OpensPeriod s.time (s.opening b).time := by
  cases b with
  | false => exact ⟨rfl, rfl, rfl, rfl, rfl, rfl⟩
  | true => exact s.time.secondBoundary_opens s.control.mode

theorem State.boundary_opens (s : State) (b : Bool) : OpensPeriod s.time (s.boundary b).time := by
  obtain ⟨h1, h2, h3, h4, h5, h6⟩ := s.opening_opens b
  rw [State.boundary_time]
  split <;> exact ⟨h1, h2, h3, h4, h5, h6⟩

/-- Nor does it mark a second boundary as taken: that is the slice boundary's mark (log 3). -/
theorem State.boundary_secondTaken (s : State) (b : Bool) :
    (s.boundary b).control.secondTaken = s.control.secondTaken := by
  rw [State.boundary_control]; split <;> rfl

/-! ### The frame index (R63) -/

/-- Inside a slice the frame index advances, and the mark of a boundary taken goes (R63; log 3). -/
theorem State.advance_inside {s : State} (h : s.time.frameIndex + 1 < 6000) : s.advance =
    { s with
      control := { s.control with secondTaken := false }
      time := { s.time with frameIndex := s.time.frameIndex + 1 } } := by
  simp [State.advance, h]

/-- The command that is the boundary falling in this period: the second boundary at slice index 7 (R63). -/
def boundaryCommand (s : State) : Instr := if 7 ≤ s.time.sliceIndex then .secondBoundary else .sliceBoundary

/-- At frame index 5,999 the period takes the boundary that falls there, as the command does (R63; log 2). -/
theorem State.advance_boundary {s : State} (h : s.time.frameIndex = 5999) (ht : s.control.secondTaken = false) :
    exec (boundaryCommand s) s = .next s.advance ∧ s.advance = s.boundary (decide (7 ≤ s.time.sliceIndex)) := by
  have unmarked : ∀ u : State, u.control.secondTaken = false →
      { u with control := { u.control with secondTaken := false } } = u := fun u hu => by
    rw [← hu]
  have hadv : s.advance = s.boundary (decide (7 ≤ s.time.sliceIndex)) := by
    simp [State.advance, h, unmarked s ht]
  refine ⟨?_, hadv⟩
  rw [hadv]
  unfold boundaryCommand
  split
  · rename_i h7
    change execSecondBoundary s = _
    simp [execSecondBoundary, ht, h7]
  · rename_i h7
    change execSliceBoundary s = _
    simp only [execSliceBoundary, h7, decide_false]
    rw [unmarked _ ((s.boundary_secondTaken false).trans ht)]

/-- The period whose boundary is taken counts as period 0 of what it opens, in the link's state as it stood. -/
theorem State.advance_opens {s : State} (h : s.time.frameIndex = 5999) (ht : s.control.secondTaken = false) :
    OpensPeriod s.time s.advance.time ∧ s.advance.control.secondTaken = false := by
  rw [(State.advance_boundary h ht).2]
  exact ⟨s.boundary_opens _, (s.boundary_secondTaken _).trans ht⟩

/-! ### The runs (R65, R66) -/

/-- A good frame declares no loss. -/
theorem TimeBase.loses_good (t : TimeBase) : t.loses true = false := by simp [TimeBase.loses]

/-- Short of the 48th in HOLD-OVER, a good frame declares nothing, and moves the runs alone. -/
theorem State.countRuns_good {s : State} (h : s.time.regains true = false) :
    s.countRuns true = { s with time := s.time.countPeriod true } := by
  simp [State.countRuns, TimeBase.loses_good, h]

/-- The 48th good frame in HOLD-OVER declares restoration after it is counted (R66). -/
theorem State.countRuns_regains {s : State} (h : s.time.regains true = true) :
    s.countRuns true = { s with time := s.time.countPeriod true }.regainLink := by
  simp [State.countRuns, TimeBase.loses_good, h]

theorem exec_sampleFrame_good {f : Frame} (hf : goodFrame f = true) (s : State) :
    exec (.sampleFrame f) s = .next ((s.advance.countRuns true).carryGood f) := by
  change execSampleFrame f s = _
  simp [execSampleFrame, hf]

theorem goodFrame_length {f : Frame} (hf : goodFrame f = true) : f.samples.length = f.count.toNat := by
  simp only [goodFrame, Bool.and_eq_true, decide_eq_true_eq] at hf
  exact hf.1.2

/-! ### The samples (R1, R21, R30) -/

/-- A channel takes the sample of its source slot (R1). -/
theorem State.routeSamples_taken {s : State} {samples : List Sample} {c : Chan} {x : Sample}
    (h : samples[s.router.active.channels[c].sourceSlot.val]? = some x) :
    (s.routeSamples samples).channels[c] = s.channels[c].takeSample s.coefs s.router.active.channels[c] x := by
  simp only [Fin.getElem_fin] at h
  simp [State.routeSamples, h]

/-- A channel whose source slot lies at or above the slot count takes none (R1, R21). -/
theorem State.routeSamples_untaken {s : State} {samples : List Sample} {c : Chan}
    (h : samples[s.router.active.channels[c].sourceSlot.val]? = none) :
    (s.routeSamples samples).channels[c] = s.channels[c] := by
  simp only [Fin.getElem_fin] at h
  simp [State.routeSamples, h]

/-- A channel without a slice in progress takes no sample. -/
theorem Channel.takeSample_none {ch : Channel} (h : ch.slice = none) (k : Vector CoefSection 6) (e : ChannelEntry)
    (x : Sample) : ch.takeSample k e x = ch := by
  simp [Channel.takeSample, h]

/-- A slice in progress takes the sample and the outputs of both paths (R30). -/
theorem Channel.takeSample_some {ch : Channel} {sl : Slice} (h : ch.slice = some sl) (k : Vector CoefSection 6)
    (e : ChannelEntry) (x : Sample) :
    let level := levelPathStep k e.levelWeighting ch.levelPath (pathInput x)
    let peak := peakPathStep k e.peakWeighting ch.peakPath (pathInput x)
    ch.takeSample k e x = { ch with
      levelPath := level.1, peakPath := peak.1
      slice := some (sl.take x.toInt level.2.1 peak.2.1 (level.2.2 || peak.2.2)) } := by
  simp [Channel.takeSample, h]

theorem isFullScale_iff (x : Int) : isFullScale x = true ↔ x = -8388608 ∨ x = 8388607 := by simp [isFullScale]

/-- The lowest and highest raw samples of a slice, once it takes one more (R30). -/
def lowerOf (m : Option Int) (x : Int) : Int := m.elim x fun m => if x < m then x else m
def higherOf (m : Option Int) (x : Int) : Int := m.elim x fun m => if m < x then x else m

/-- What a slice takes of a sample, field by field (R30). -/
theorem Slice.take_eq (sl : Slice) (x w p : Int) (a b : Bool) :
    sl.take x w p (a || b) = { sl with
      n := sl.n + 1
      energy := sl.energy + w.natAbs ^ 2
      peak := if sl.peak < p.natAbs then p.natAbs else sl.peak
      clipCount := if x = -8388608 ∨ x = 8388607 then sl.clipCount + 1 else sl.clipCount
      rawMin := some (lowerOf sl.rawMin x)
      rawMax := some (higherOf sl.rawMax x)
      saturated := sl.saturated || a || b } := by
  have hpeak : max sl.peak p.natAbs = if sl.peak < p.natAbs then p.natAbs else sl.peak := by split <;> omega
  have hmin : ∀ m : Int, min m x = if x < m then x else m := fun m => by split <;> omega
  have hmax : ∀ m : Int, max m x = if m < x then x else m := fun m => by split <;> omega
  unfold Slice.take lowerOf higherOf
  rw [hpeak, Bool.or_assoc]
  simp only [isFullScale_iff, hmin, hmax]
  cases sl.rawMin <;> cases sl.rawMax <;> rfl

/-- The run of a good frame, short of the 48th in HOLD-OVER (R65, R66). -/
theorem TimeBase.countPeriod_locked {t : TimeBase} (h : t.link = .locked) :
    t.countPeriod true = { t with missingRun := 0 } := by simp [TimeBase.countPeriod, h]

theorem TimeBase.countPeriod_holdOver {t : TimeBase} (h : t.link = .holdOver) (hr : t.goodRun < 48) :
    t.countPeriod true = { t with goodRun := t.goodRun + 1, holdLength := min 4294967295 (t.holdLength + 1) } := by
  have : min 48 (t.goodRun + 1) = t.goodRun + 1 := by omega
  simp [TimeBase.countPeriod, h, this]

/-- Settles O30: the boundary of index 5,999 comes first where it falls; then the runs move and the samples are routed. -/
theorem goodFrameReachesChannels : Obligations.GoodFrameReachesChannels := by
  intro s f hf hrun carries
  have counted : ∀ u t : State, t = (u.countRuns true).carryGood f → u.time.link = .locked ∨ u.time.goodRun < 47 →
      u.control.secondTaken = false → carries u t u.time.frameIndex := by
    intro u t ht hu hsec
    have hreg : u.time.regains true = false := by
      rcases hu with h | h
      · simp [TimeBase.regains, h]
      · simp [TimeBase.regains, show ¬48 ≤ u.time.goodRun + 1 by omega]
    rw [State.countRuns_good hreg] at ht
    subst ht
    refine ⟨?_, fun c => ⟨fun h => ?_, fun x sl hx hs => ⟨?_, fun hz => ?_⟩⟩⟩
    · have hcontrol : u.control = { u.control with secondTaken := false } := by rw [← hsec]
      rw [← hcontrol]
      cases hl : u.time.link with
      | locked => simp [State.carryGood, State.routeSamples, TimeBase.countPeriod_locked hl, hl]
      | holdOver =>
        have hg : u.time.goodRun < 48 := by
          rcases hu with h | h
          · rw [h] at hl; cases hl
          · omega
        simp [State.carryGood, State.routeSamples, TimeBase.countPeriod_holdOver hl hg, hl]
    · rw [State.carryGood_channels]
      rcases h with h | h
      · exact State.routeSamples_untaken (List.getElem?_eq_none (by rw [goodFrame_length hf]; exact h))
      · cases hx : f.samples[u.router.active.channels[c].sourceSlot.val]? with
        | none => exact State.routeSamples_untaken hx
        | some x => exact (State.routeSamples_taken hx).trans (Channel.takeSample_none h _ _ _)
    · rw [State.carryGood_channels]
      refine (State.routeSamples_taken hx).trans ((Channel.takeSample_some hs _ _ _).trans ?_)
      rw [Slice.take_eq]
      cases hmin : sl.rawMin <;> cases hmax : sl.rawMax <;> rfl
    · change levelPathStep u.coefs u.router.active.channels[c].levelWeighting _ _ = _
      exact congrArg (levelPathStep _ · _ _) hz
  refine ⟨fun hin => ⟨_, exec_sampleFrame_good hf s, ?_⟩, fun hlast ht => ?_⟩
  · exact counted { s with
      control := { s.control with secondTaken := false }
      time := { s.time with frameIndex := s.time.frameIndex + 1 } } _ (by rw [State.advance_inside hin]) hrun rfl
  · obtain ⟨hopens, hmark⟩ := State.advance_opens hlast ht
    refine ⟨s.advance, _, (State.advance_boundary hlast ht).1, hopens.frameIndex, hopens.link,
      exec_sampleFrame_good hf s, ?_⟩
    rw [← hopens.frameIndex]
    exact counted _ _ rfl (by rwa [hopens.link, hopens.goodRun]) hmark

end Sys2Proof.Machine
end

section
/-! SUPPORT. Records handed over: which they are, what they enter in the Event Queue; and link restoration, O34 (R55, R66,
R67, R140, R150, R155). -/
namespace Sys2Proof.Machine

/-! ### Records handed over (R150, R155) -/

/-- Handing over records stores all of them, once each, in some order, and may draw a free order. -/
theorem State.emit_perm (s : State) (n : Nat) (chains : Chains) : ∃ l k, l.Perm chains.flatten
    ∧ s.emit n chains = { s.emitAll n l with choices := s.choices + k } := by
  have live : ∀ l : Chains, (l.filter fun c => !c.isEmpty).flatten = l.flatten := by
    intro l
    induction l with
    | nil => rfl
    | cons c l ih => cases c <;> simp [ih]
  unfold State.emit
  split
  · rename_i h
    exact ⟨[], 0, by rw [← live, h]; exact .refl _, rfl⟩
  · rename_i l h
    refine ⟨l, 0, by rw [← live, h]; simp, ?_⟩
    have hc : (s.emitAll n l).choices = s.choices := s.emitAll_choices n l
    rw [Nat.add_zero, ← hc]
  · exact ⟨_, 1, handOver_perm _ _, rfl⟩

/-- Every event handed over is held afterwards, or the queue is full (R155). -/
theorem State.emit_raised (s : State) (n : Nat) (chains : Chains) {e : Event} (he : .event e ∈ chains.flatten) :
    (s.emit n chains).raised e := by
  obtain ⟨l, k, hl, h⟩ := s.emit_perm n chains
  rw [h]
  exact s.emitAll_raised n l e (hl.mem_iff.mpr he)

/-- An event is not a result: handing it over leaves the Result Store as it was. -/
theorem State.emitAll_event_results (n : Nat) : ∀ (es : List Event) (s : State),
    (s.emitAll n (es.map .event)).results = s.results
  | [], _ => rfl
  | e :: es, s => (State.emitAll_event_results n es (s.storeEvent n e)).trans (s.storeEvent_results n e)

/-- While there is room, events handed over enter the queue one after the other (R155). -/
theorem State.emitAll_event_queue (n : Nat) : ∀ (es : List Event) (s : State), s.events.queue.length + es.length ≤ 64 →
    (s.emitAll n (es.map .event)).events.queue.map (·.event) = s.events.queue.map (·.event) ++ es
  | [], s, _ => by simp [State.emitAll]
  | e :: es, s, h => by
    have hroom : s.events.queue.length < 64 := by simp only [List.length_cons] at h; omega
    have hstored : (s.storeEvent n e).events.queue = s.events.queue
        ++ [{ sequence := s.events.next, event := e, lostAfter := 0 }] := by
      rw [State.storeEvent_events, if_pos hroom]
    refine (State.emitAll_event_queue n es (s.storeEvent n e) ?_).trans ?_
    · rw [hstored]; simp only [List.length_append, List.length_cons] at h ⊢; simp; omega
    · rw [hstored]; simp

/-- Chains of events alone leave the Result Store, and where there is room enter the queue, each once (R155). -/
theorem State.emit_events {s : State} {n : Nat} {chains : Chains} {es : List Event}
    (h : chains.flatten = es.map .event) :
    (s.emit n chains).results = s.results
    ∧ (s.events.queue.length + es.length ≤ 64 →
      ((s.emit n chains).events.queue.map (·.event)).Perm (s.events.queue.map (·.event) ++ es)) := by
  obtain ⟨l, k, hl, hs⟩ := s.emit_perm n chains
  rw [h] at hl
  obtain ⟨es', rfl, hperm⟩ : ∃ es' : List Event, l = es'.map .event ∧ es'.Perm es := by
    have := congrFun (congrFun (List.eq_map_comp_perm Emission.event) l) es
    exact this.mpr hl
  rw [hs]
  refine ⟨State.emitAll_event_results n es' s, fun hroom => ?_⟩
  change ((s.emitAll n (es'.map .event)).events.queue.map (·.event)).Perm _
  rw [State.emitAll_event_queue n es' s (by rw [hperm.length_eq]; exact hroom)]
  exact hperm.append_left _

/-! ### Restoration declared (R55, R66, R67, R140) -/

/-- Whether an owed check raises a channel's balance from 5 to 6. -/
def State.overdue (s : State) (c : Chan) : Bool :=
  s.time.owesCheck && s.router.active.channels[c].autoCheck && (raiseBalance s.channels[c].account.balance).2

/-- The events of a restoration. -/
def State.restoredEvents (s : State) : List Event :=
  linkRestoredEvent s.time
    :: ((List.finRange 16).filter s.overdue).map fun c => Event.plain s.time.runningSecond .checkOverdue (.channel c)

theorem flatten_map_ite_singleton {α β : Type} (p : α → Bool) (f : α → β) : ∀ l : List α,
    (l.map fun x => if p x then [f x] else []).flatten = (l.filter p).map f
  | [] => rfl
  | x :: l => by
    have ih := flatten_map_ite_singleton p f l
    cases h : p x <;> simp [h, ih]

theorem State.restored_chains (s : State) :
    List.flatten ([.event (linkRestoredEvent s.time)] :: s.owedOverdue) = s.restoredEvents.map .event := by
  have h := flatten_map_ite_singleton s.overdue
    (fun c => Emission.event (Event.plain s.time.runningSecond .checkOverdue (.channel c))) (List.finRange 16)
  simp only [List.flatten_cons, State.restoredEvents, List.map_cons, List.map_map]
  exact congrArg (_ :: ·) h

theorem raiseBalance_fst (b : Int) : (raiseBalance b).1 = if b < 6 then b + 1 else b := by
  unfold raiseBalance; split <;> rfl

theorem raiseBalance_snd (b : Int) : (raiseBalance b).2 = decide (b = 5) := by
  unfold raiseBalance
  split
  · exact (Bool.beq_eq_decide_eq _ _)
  · simp; omega

/-- A restoration owes a check after 60 s of hold-over outside start-up (R66, R67). -/
theorem TimeBase.owesCheck_iff (t : TimeBase) : t.owesCheck = true ↔ 60 * 48000 ≤ t.holdLength ∧ t.startUp = false := by
  simp only [TimeBase.owesCheck, TimeBase.outage, Bool.and_eq_true, decide_eq_true_eq, Bool.not_eq_true',
    Nat.le_div_iff_mul_le (show 0 < 48000 by decide)]

@[simp] theorem State.regainLink_time (s : State) : s.regainLink.time = s.time.regain := by simp [State.regainLink]
@[simp] theorem State.regainLink_groups (s : State) : s.regainLink.groups = s.groups := by simp [State.regainLink]
@[simp] theorem State.regainLink_check (s : State) : s.regainLink.check = s.check := by simp [State.regainLink]
@[simp] theorem State.regainLink_router (s : State) : s.regainLink.router = s.router := by simp [State.regainLink]
@[simp] theorem State.regainLink_results (s : State) : s.regainLink.results = s.results :=
  (State.emit_events s.restored_chains).1
@[simp] theorem State.regainLink_channels (s : State) (c : Chan) : s.regainLink.channels[c.val] =
    s.channels[c].regainLink (s.time.owesCheck && s.router.active.channels[c].autoCheck) := by
  simp [State.regainLink]

/-- The events of a restoration are held, or the queue is full. -/
theorem State.regainLink_raised (s : State) {e : Event} (h : e ∈ s.restoredEvents) : s.regainLink.raised e :=
  State.emit_raised _ _ _ (by rw [s.restored_chains]; exact List.mem_map_of_mem h)

/-- Where the queue has room for them, the queue grows by those events and no others. -/
theorem State.regainLink_queue {s : State} (h : s.events.queue.length ≤ 47) :
    (s.regainLink.events.queue.map (·.event)).Perm (s.events.queue.map (·.event) ++ s.restoredEvents) := by
  refine (State.emit_events s.restored_chains).2 ?_
  have hlen : s.restoredEvents.length ≤ 17 := by
    simp only [State.restoredEvents, List.length_cons, List.length_map]
    have := List.length_filter_le s.overdue (List.finRange 16)
    rw [List.length_finRange] at this
    omega
  change s.events.queue.length + _ ≤ 64
  omega

/-- Samples reach neither a channel's condition nor its account. -/
theorem Channel.takeSample_kept (ch : Channel) (k : Vector CoefSection 6) (e : ChannelEntry) (x : Sample) :
    (ch.takeSample k e x).cond = ch.cond ∧ (ch.takeSample k e x).account = ch.account := by
  unfold Channel.takeSample
  split <;> exact ⟨rfl, rfl⟩

theorem Slice.take_n (sl : Slice) (x w p : Int) (b : Bool) : (sl.take x w p b).n = sl.n + 1 := rfl

/-- A sample is counted in the slice in progress (R30). -/
theorem Channel.takeSample_slice_n (ch : Channel) (k : Vector CoefSection 6) (e : ChannelEntry) (x : Sample) :
    (ch.takeSample k e x).slice.map (·.n) = ch.slice.map (·.n + 1) := by
  cases h : ch.slice with
  | none => rw [Channel.takeSample_none h, h]; rfl
  | some sl => rw [Channel.takeSample_some h]; rfl

/-- A good frame carries to a channel one sample where its slot lies below the slot count, and none elsewhere; neither
touches its condition or account (R1, R21). -/
theorem State.carryGood_channel {f : Frame} (hf : goodFrame f = true) (s : State) (c : Chan) :
    (s.carryGood f).channels[c].cond = s.channels[c].cond
    ∧ (s.carryGood f).channels[c].account = s.channels[c].account
    ∧ (s.carryGood f).channels[c].slice.map (·.n) = s.channels[c].slice.map fun sl =>
        if s.router.active.channels[c].sourceSlot.val < f.count.toNat then sl.n + 1 else sl.n := by
  rw [State.carryGood_channels, ← goodFrame_length hf]
  cases hx : f.samples[s.router.active.channels[c].sourceSlot.val]? with
  | none =>
    rw [State.routeSamples_untaken hx]
    have := List.getElem?_eq_none_iff.mp hx
    exact ⟨rfl, rfl, by simp only [Nat.not_lt.mpr this, if_false]⟩
  | some x =>
    rw [State.routeSamples_taken hx]
    have := (List.getElem?_eq_some_iff.mp hx).1
    obtain ⟨hc, ha⟩ := Channel.takeSample_kept s.channels[c] s.coefs s.router.active.channels[c] x
    exact ⟨hc, ha, by rw [Channel.takeSample_slice_n]; simp only [this, if_true]⟩

/-- Settles O34: what a restoration declared on a state with the runs counted leaves, and that the samples of the declaring
frame leave it so. -/
theorem restorationIsDeclared : Obligations.RestorationIsDeclared := by
  intro s declared
  have regained : ∀ (u v t : State), v = { u with time := v.time, control := v.control } →
      v.time.startUp = u.time.startUp → v.time.runningSecond = u.time.runningSecond →
      v.time.regain = { u.time with
        link := .locked, goodRun := 0, missingRun := 0, startUp := false
        holdLength := v.time.holdLength, frameIndex := v.time.frameIndex } →
      t.time = v.regainLink.time → t.groups = v.regainLink.groups → t.check = v.regainLink.check →
      t.router = v.regainLink.router → t.results = v.regainLink.results → t.events = v.regainLink.events →
      (∀ c : Chan, t.channels[c].cond = v.regainLink.channels[c].cond
        ∧ t.channels[c].account = v.regainLink.channels[c].account) →
      declared u t v.time.holdLength v.time.frameIndex := by
    intro u v t hv hstart hsec htime ttime tgroups tcheck trouter tresults tevents tchan
    have hrouter : v.router = u.router := by rw [hv]
    have hchannels : v.channels = u.channels := by rw [hv]
    have hevents : v.events = u.events := by rw [hv]
    have howed : ∀ c : Chan, (v.time.owesCheck && v.router.active.channels[c].autoCheck) = true ↔
        60 * 48000 ≤ v.time.holdLength ∧ u.time.startUp = false ∧ u.router.active.channels[c].autoCheck = true :=
      fun c => by rw [Bool.and_eq_true, TimeBase.owesCheck_iff, hstart, hrouter, and_assoc]
    have hover : ∀ c : Chan, v.overdue c = decide ((60 * 48000 ≤ v.time.holdLength ∧ u.time.startUp = false
        ∧ u.router.active.channels[c].autoCheck = true) ∧ u.channels[c].account.balance = 5) := fun c => by
      rw [State.overdue, raiseBalance_snd, hchannels, Bool.eq_iff_iff, Bool.and_eq_true, howed, decide_eq_true_iff,
        decide_eq_true_iff]
    have stored : ∀ e ∈ v.restoredEvents,
        t.raised e ∧ (u.events.queue.length ≤ 47 → ∃ x ∈ t.events.queue, x.event = e) := fun e he => by
      refine ⟨?_, fun hroom => ?_⟩
      · unfold State.raised
        rw [tevents]
        exact v.regainLink_raised he
      · rw [tevents]
        refine List.mem_map.mp (((State.regainLink_queue (by rwa [hevents])).mem_iff).mpr ?_)
        exact List.mem_append_right _ he
    refine ⟨?_, ?_, ?_, ?_, ?_, fun c => ⟨?_, ?_, fun ho h5 => stored _ ?_⟩, stored _ ?_, fun hroom => ?_⟩
    · rw [ttime, State.regainLink_time, htime]
    · rw [tgroups, State.regainLink_groups]; rw [hv]
    · rw [tcheck, State.regainLink_check]; rw [hv]
    · rw [trouter, State.regainLink_router, hrouter]
    · rw [tresults, State.regainLink_results]; rw [hv]
    · rw [(tchan c).1]
      simp [Channel.regainLink, hchannels]
    · rw [(tchan c).2]
      have hc := howed c
      simp only [Fin.getElem_fin] at hc ⊢
      simp only [State.regainLink_channels, Channel.regainLink, Fin.getElem_fin, hc, hchannels, raiseBalance_fst,
        ← ite_and]
    · refine List.mem_cons_of_mem _ (List.mem_map.mpr ⟨c, List.mem_filter.mpr ⟨List.mem_finRange c, ?_⟩, ?_⟩)
      · rw [hover]; exact decide_eq_true ⟨ho, h5⟩
      · rw [hsec]; rfl
    · rw [← hsec, ← hstart]
      exact List.mem_cons_self ..
    · have hq := (State.regainLink_queue (s := v) (by rwa [hevents])).length_eq
      have hcount : v.restoredEvents.length = 1 + (List.finRange 16).countP fun c : Chan => decide
          ((60 * 48000 ≤ v.time.holdLength ∧ u.time.startUp = false ∧ u.router.active.channels[c].autoCheck = true)
            ∧ u.channels[c].account.balance = 5) := by
        rw [State.restoredEvents, List.length_cons, List.length_map, ← List.countP_eq_length_filter, Nat.add_comm]
        exact congrArg (fun p => 1 + List.countP p (List.finRange 16)) (funext hover)
      rw [List.length_append, List.length_map, List.length_map, hevents, hcount, ← tevents, ← Nat.add_assoc] at hq
      exact hq
  refine ⟨fun hl => ?_, fun hl => ⟨s.regainLink, ?_, ?_, fun c => ?_⟩, fun f hf hl hrun => ?_⟩
  · change execLinkRestoration s = _
    simp [execLinkRestoration, hl]
  · change execLinkRestoration s = _
    simp [execLinkRestoration, hl]
  · exact regained s s _ rfl rfl rfl rfl rfl rfl rfl rfl rfl rfl fun _ => ⟨rfl, rfl⟩
  · simp [Channel.regainLink]
  · intro length sampled
    have carried : ∀ (u v t : State), v = { u with time := v.time, control := v.control } →
        v.time = { u.time with frameIndex := v.time.frameIndex } → v.time.link = .holdOver → v.time.goodRun = 47 →
        v.time.holdLength = s.time.holdLength →
        t = (v.countRuns true).carryGood f → declared u t length v.time.frameIndex ∧ sampled u t := by
      intro u v t hv htime hlink hgood hlen ht
      have hreg : v.time.regains true = true := by simp [TimeBase.regains, hlink, hgood]
      have hcount := TimeBase.countPeriod_holdOver hlink (by omega)
      rw [State.countRuns_regains hreg, hcount] at ht
      have hslice : ∀ c : Chan, (State.regainLink { v with time := { v.time with
          goodRun := v.time.goodRun + 1, holdLength := min 4294967295 (v.time.holdLength + 1) } }).channels[c].slice
            = u.channels[c].slice := fun c => by
        simp only [Fin.getElem_fin, State.regainLink_channels, Channel.regainLink]
        rw [hv]
      subst ht
      refine ⟨?_, fun c => ?_⟩
      · have := regained u { v with time := { v.time with
          goodRun := v.time.goodRun + 1, holdLength := min 4294967295 (v.time.holdLength + 1) } } _
          (by rw [hv]) (by rw [htime]) (by rw [htime]) (by rw [htime]; rfl)
          (State.carryGood_time _ f) (State.carryGood_groups _ f) (State.carryGood_check _ f)
          (State.carryGood_router _ f) (State.carryGood_results _ f) (State.carryGood_events _ f)
          fun c => ⟨(State.carryGood_channel hf _ c).1, (State.carryGood_channel hf _ c).2.1⟩
        simpa only [hlen] using this
      · rw [(State.carryGood_channel hf _ c).2.2, hslice, State.regainLink_router, hv]
    refine ⟨fun hin => ⟨_, exec_sampleFrame_good hf s, ?_⟩, fun hlast ht => ?_⟩
    · have hadv := State.advance_inside hin
      have hindex : s.advance.time.frameIndex = s.time.frameIndex + 1 := by rw [hadv]
      rw [← hindex]
      exact carried s s.advance _ (by rw [hadv]) (by rw [hadv]) (by rw [hadv]; exact hl) (by rw [hadv]; exact hrun)
        (by rw [hadv]) rfl
    · obtain ⟨hopens, hmark⟩ := State.advance_opens hlast ht
      have := carried s.advance s.advance _ rfl rfl (hopens.link.trans hl) (hopens.goodRun.trans hrun)
        hopens.holdLength rfl
      rw [hopens.frameIndex] at this
      exact ⟨s.advance, _, (State.advance_boundary hlast ht).1, exec_sampleFrame_good hf s, this⟩

end Sys2Proof.Machine
end

section
/-! SUPPORT. The handed positions of a second boundary: the schedule's activation, and what a group's windows do at one; O41
(R14, R73, R97, R99 to R106). -/
namespace Sys2Proof.Machine

/-! ### The schedule's activation among the handed positions (R97) -/

/-- A boundary of a schedule is midnight, or a start or end of an enabled entry of that day. -/
theorem isBoundary_iff (s : Schedule) (p : Pos) : isBoundary s p = true ↔ p.second = 0 ∨ ∃ i : Per, s[i].enabled = true
    ∧ s[i].days.getLsbD p.day = true ∧ (p.second = s[i].startMinute * 60 ∨ p.second = s[i].endMinute * 60) := by
  simp only [isBoundary, PeriodEntry.applies, Bool.or_eq_true, beq_iff_eq, List.any_eq_true, Bool.and_eq_true, and_assoc,
    Vector.mem_toList_iff, Vector.mem_iff_getElem]
  constructor
  · rintro (h | ⟨e, ⟨i, hi, rfl⟩, h⟩)
    · exact .inl h
    · exact .inr ⟨⟨i, hi⟩, h⟩
  · rintro (h | ⟨i, h⟩)
    · exact .inl h
    · exact .inr ⟨s[i], ⟨i.val, i.isLt, rfl⟩, h⟩

/-- A pending schedule is let in at any position in immediate mode, and in boundary mode at a boundary of the active schedule
that is reached. -/
theorem allowsActivation_iff {s : Schedules} {p : Schedule} {m : CommitMode} (hp : s.pendingSchedule = some (p, m))
    (h : Handed) : allowsActivation s h = true ↔ m = .immediate ∨ ∃ q : Pos, (h = .skipped q ∨ h = .opened q)
      ∧ (q.second = 0 ∨ ∃ i : Per, s.active[i].enabled = true ∧ s.active[i].days.getLsbD q.day = true
          ∧ (q.second = s.active[i].startMinute * 60 ∨ q.second = s.active[i].endMinute * 60)) := by
  cases m <;> cases h <;> simp [allowsActivation, hp, isBoundary_iff]

theorem allowsActivation_none {s : Schedules} (hp : s.pendingSchedule = none) (h : Handed) :
    allowsActivation s h = false := by
  simp [allowsActivation, hp]

/-- Positions that let no activation in pass with the schedule as it stands. -/
theorem reachAll_append {lock second : Nat} {s : Schedules} (l : List Handed) : ∀ before : List Handed,
    (∀ h ∈ before, allowsActivation s h = false) → reachAll lock second (before ++ l) s =
      ((reachAll lock second l s).1,
        before.map (fun h => { handed := h, schedule := s.active, activated := none }) ++ (reachAll lock second l s).2.1,
        (reachAll lock second l s).2.2)
  | [], _ => rfl
  | h :: before, hb => by
    have hh := hb h (List.mem_cons_self ..)
    simp [reachAll, hh, reachAll_append l before fun x hx => hb x (List.mem_cons_of_mem _ hx)]

theorem reachAll_same {lock second : Nat} {s : Schedules} {handed : List Handed}
    (h : ∀ x ∈ handed, allowsActivation s x = false) : reachAll lock second handed s =
      (s, handed.map (fun h => { handed := h, schedule := s.active, activated := none }), []) := by
  have := reachAll_append (lock := lock) (second := second) [] handed h
  simpa [reachAll] using this

/-! ### What a position does to the windows of a group (R99) -/

/-- Whether a handed position is reached: a held second only waits at one (R99). -/
def Handed.isReached : Handed → Bool
  | .skipped _ | .opened _ => true
  | .waited _ => false

/-- A position's window end, step 1 of R99. -/
def Reach.ends (r : Reach) (w : Window) : Prop := r.handed.isReached = true ∧ w.endsAt r.handed.pos = true

/-- What truncates an open window at a position: an immediate activation, or the group's disabling (R14, R97). -/
def ReachContext.cuts (x : ReachContext) (r : Reach) (first : Bool) : Prop :=
  r.activated = some .immediate ∨ (first = true ∧ x.wasEnabled = true ∧ x.enabled = false)

section
variable {gr : Group} {x : ReachContext} {r : Reach} {first : Bool} {w : Window}

theorem ReachContext.cuts_iff : x.cuts r first ↔
    (r.activated = some .immediate ∨ (first ∧ x.wasEnabled ∧ !x.enabled)) := by
  simp [ReachContext.cuts]

theorem Group.comeDue_none (h : gr.openWindow = none) : gr.comeDue x r first = gr := by simp [Group.comeDue, h]

/-- At its end a window comes due, marked "trim" where the position is skipped. -/
theorem Group.comeDue_ends (h : gr.openWindow = some w) (he : r.ends w) : gr.comeDue x r first =
    { gr with openWindow := none, dueWindows := gr.dueWindows
        ++ [{ w with flags := { w.flags with trim := w.flags.trim || r.handed.isSkipped } }] } := by
  obtain ⟨hr, hp⟩ := he
  cases hh : r.handed with
  | skipped p =>
    rw [hh] at hp
    simp [Group.comeDue, Group.due, h, hh, show w.endsAt p = true from hp, Handed.isSkipped]
  | opened p =>
    rw [hh] at hp
    simp [Group.comeDue, Group.due, h, hh, show w.endsAt p = true from hp, Handed.isSkipped]
  | waited p => rw [hh] at hr; cases hr

/-- Short of its end, what truncates a window makes it due. -/
theorem Group.comeDue_cut (h : gr.openWindow = some w) (he : ¬r.ends w) (hc : x.cuts r first) : gr.comeDue x r first =
    { gr with openWindow := none, dueWindows := gr.dueWindows
        ++ [{ w with flags := { w.flags with truncated := true } }] } := by
  have hc := ReachContext.cuts_iff.mp hc
  cases hh : r.handed with
  | skipped p =>
    have hp : ¬w.endsAt p = true := fun hp => he ⟨by rw [hh]; rfl, by rw [hh]; exact hp⟩
    simp only [Group.comeDue, h, hh, hp, if_pos hc]; simp [Group.due, h]
  | opened p =>
    have hp : ¬w.endsAt p = true := fun hp => he ⟨by rw [hh]; rfl, by rw [hh]; exact hp⟩
    simp only [Group.comeDue, h, hh, hp, if_pos hc]; simp [Group.due, h]
  | waited p => simp only [Group.comeDue, h, hh, if_pos hc]; simp [Group.due, h]

/-- Any other window stays open. -/
theorem Group.comeDue_kept (h : gr.openWindow = some w) (he : ¬r.ends w) (hc : ¬x.cuts r first) :
    gr.comeDue x r first = gr := by
  have hc := fun h => hc (ReachContext.cuts_iff.mpr h)
  cases hh : r.handed with
  | skipped p =>
    have hp : ¬w.endsAt p = true := fun hp => he ⟨by rw [hh]; rfl, by rw [hh]; exact hp⟩
    simp only [Group.comeDue, h, hh, hp, if_neg hc]; simp
  | opened p =>
    have hp : ¬w.endsAt p = true := fun hp => he ⟨by rw [hh]; rfl, by rw [hh]; exact hp⟩
    simp only [Group.comeDue, h, hh, hp, if_neg hc]; simp
  | waited p => simp only [Group.comeDue, h, hh, if_neg hc]

/-- A window that ends or is truncated leaves none open, and the alert as it was. -/
theorem Group.comeDue_free (h : ∀ w, gr.openWindow = some w → r.ends w ∨ x.cuts r first) :
    gr.comeDue x r first = { gr with openWindow := none, dueWindows := (gr.comeDue x r first).dueWindows } := by
  cases hw : gr.openWindow with
  | none => rw [Group.comeDue_none hw, ← hw]
  | some w =>
    by_cases he : r.ends w
    · rw [Group.comeDue_ends hw he]
    · rw [Group.comeDue_cut hw he ((h w hw).resolve_left he)]

@[simp] theorem Group.countSkipped_dueWindows (gr : Group) (h : Handed) : (gr.countSkipped h).dueWindows = gr.dueWindows := by
  cases h <;> rfl
@[simp] theorem Group.countSkipped_alertLevel (gr : Group) (h : Handed) : (gr.countSkipped h).alertLevel = gr.alertLevel := by
  cases h <;> rfl
@[simp] theorem Group.countSkipped_alertPeriod (gr : Group) (h : Handed) : (gr.countSkipped h).alertPeriod = gr.alertPeriod := by
  cases h <;> rfl
@[simp] theorem Group.countSkipped_alertOn (gr : Group) (h : Handed) : (gr.countSkipped h).alertOn = gr.alertOn := by
  cases h <;> rfl

/-- Step 4 of R99 on the open window. -/
theorem Group.countSkipped_openWindow (gr : Group) (h : Handed) : (gr.countSkipped h).openWindow =
    gr.openWindow.map fun w => if h.isSkipped && w.contains h.pos then w.skip else w := by
  cases h <;> simp [Group.countSkipped, Handed.isSkipped, Handed.pos]

/-- A hand-over moves the alert alone: its level is the record's, and without one it is OFF (R126, R129). -/
theorem Group.handLimit_eq (gr : Group) (g : Grp) (limit : Option LimitRecord) (period : Option Per) (second : Nat) :
    (gr.handLimit g limit period second).1 = { gr with
      alertOn := gr.alertOn && (limit.bind (·.alert)).isSome
      alertLevel := limit.bind (·.alert)
      alertPeriod := period } := by
  unfold Group.handLimit
  cases h : limit.bind (·.alert) with
  | none => cases gr.alertOn <;> simp
  | some l => simp

/-- A window that stays open keeps another from opening and is counted where the position is skipped. -/
theorem Group.reach_kept (h : gr.openWindow = some w) (he : ¬r.ends w) (hc : ¬x.cuts r first) :
    (gr.reach x r first).1 = gr.countSkipped r.handed := by
  have hno : (first && x.wasEnabled && !x.enabled) = false := by
    rw [Bool.eq_false_iff]
    intro hf
    exact hc (.inr (by simpa [and_assoc] using hf))
  simp [Group.reach, Group.comeDue_kept h he hc, Group.openHere, h, hno]

theorem Group.reach_opens (h : (gr.comeDue x r first).openHere x r first = some w) : (gr.reach x r first).1 =
    ({ gr.comeDue x r first with openWindow := some w }.handLimit x.group w.limit (some w.period) x.second).1.countSkipped
      r.handed := by
  simp only [Group.reach, h]

theorem Group.reach_dueWindows (gr : Group) (x : ReachContext) (r : Reach) (first : Bool) :
    (gr.reach x r first).1.dueWindows = (gr.comeDue x r first).dueWindows := by
  unfold Group.reach
  dsimp only
  split
  · simp [Group.handLimit_eq]
  · split <;> simp [Group.handLimit_eq]

/-- Where none is open and none opens, a window that came due leaves no alert (R129). -/
theorem Group.reach_closed (hfree : ∀ w, gr.openWindow = some w → r.ends w ∨ x.cuts r first)
    (h : (gr.comeDue x r first).openHere x r first = none) : (gr.reach x r first).1.openWindow = none
      ∧ (gr.openWindow.isSome = true → (gr.reach x r first).1.alertLevel = none
        ∧ (gr.reach x r first).1.alertPeriod = none ∧ (gr.reach x r first).1.alertOn = false) := by
  have hnone : (gr.comeDue x r first).openWindow = none := by rw [Group.comeDue_free hfree]
  refine ⟨?_, fun hs => ?_⟩
  · simp only [Group.reach, h]
    split <;> simp [Group.countSkipped_openWindow, Group.handLimit_eq, hnone]
  · simp [Group.reach, h, hs, hnone, Group.handLimit_eq]

/-- Where no window is open, that of the entry that applies opens, in RUN and for an enabled group, if its cause is met. -/
theorem Group.openHere_eq {i : Per} (h : gr.openWindow = none) (hrun : x.run = true) (hen : x.enabled = true)
    (hp : periodAt r.schedule r.handed.pos = some i) : gr.openHere x r first =
      if opensHere x r first r.schedule[i] then some (Window.opening r.schedule[i] i x.group r.handed.pos x.second)
      else none := by
  simp [Group.openHere, h, hrun, hen, hp]

/-- Nothing opens outside RUN, for a disabled group, or where no entry applies. -/
theorem Group.openHere_none (h : x.run = false ∨ x.enabled = false ∨ periodAt r.schedule r.handed.pos = none) :
    gr.openHere x r first = none := by
  rcases h with h | h | h <;> simp [Group.openHere, h]

/-- A window opens at an aligned start that is reached, or by its cause (R100, R101). -/
theorem opensHere_iff (hen : x.enabled = true) (e : PeriodEntry) : opensHere x r first e = true ↔
    (r.handed.isReached = true ∧ (alignedWindow e r.handed.pos.second).1 = r.handed.pos.second)
      ∨ (r.activated ≠ none ∨ (first = true ∧ x.wasEnabled = false)) := by
  have hact : r.activated.isSome = true ↔ r.activated ≠ none := by cases r.activated <;> simp
  unfold opensHere
  cases r.handed <;> simp [Handed.isReached, Handed.pos, hen, hact]

end

/-! ### The entry that applies, and the aligned window (R100) -/

theorem periodAt_eq_some {s : Schedule} {p : Pos} {i : Per} (hi : s[i].covers p = true)
    (hlt : ∀ j : Per, j < i → s[j].covers p = false) : periodAt s p = some i := by
  rw [periodAt, ← List.findSome?_guard]
  exact findSome?_finRange_eq_some (by rw [Option.guard, if_pos hi]) fun j hj => by
    rw [Option.guard, if_neg (by rw [hlt j hj]; decide)]

theorem periodAt_eq_none {s : Schedule} {p : Pos} (h : ∀ i : Per, s[i].covers p = false) : periodAt s p = none :=
  List.find?_eq_none.mpr fun i _ => by rw [h i]; decide

theorem alignedWindow_whole {e : PeriodEntry} (h : e.length.seconds = none) (n : Nat) :
    alignedWindow e n = (e.startMinute * 60, e.endMinute * 60, false) := by
  simp only [alignedWindow, h]

theorem alignedWindow_length {e : PeriodEntry} {l : Nat} (h : e.length.seconds = some l) (n : Nat) :
    alignedWindow e n = (e.startMinute * 60 + (n - e.startMinute * 60) / l * l,
      min (e.startMinute * 60 + (n - e.startMinute * 60) / l * l + l) (e.endMinute * 60),
      decide (e.endMinute * 60 < e.startMinute * 60 + (n - e.startMinute * 60) / l * l + l)) := by
  simp only [alignedWindow, h]

theorem WindowLength.seconds_pos {w : WindowLength} {l : Nat} (h : w.seconds = some l) : 0 < l := by
  cases w <;> cases h <;> decide

/-- An aligned window that starts where it stands starts at a multiple of its length. -/
theorem alignedWindow_start_iff {e : PeriodEntry} {l n : Nat} (h : e.length.seconds = some l) (hn : e.startMinute * 60 ≤ n) :
    (alignedWindow e n).1 = n ↔ (n - e.startMinute * 60) % l = 0 := by
  have := Nat.div_add_mod' (n - e.startMinute * 60) l
  rw [alignedWindow_length h]
  dsimp only
  omega

/-- A position inside the period lies before the end of its aligned window. -/
theorem lt_alignedWindow_stop {e : PeriodEntry} {n : Nat} (hs : e.startMinute * 60 ≤ n) (ht : n < e.endMinute * 60) :
    n < (alignedWindow e n).2.1 := by
  cases h : e.length.seconds with
  | none => rw [alignedWindow_whole h]; exact ht
  | some l =>
    rw [alignedWindow_length h]
    have hdiv := Nat.div_add_mod' (n - e.startMinute * 60) l
    have hmod := Nat.mod_lt (n - e.startMinute * 60) (WindowLength.seconds_pos h)
    dsimp only
    omega

theorem PeriodEntry.covers_bounds {e : PeriodEntry} {p : Pos} (h : e.covers p = true) :
    e.startMinute * 60 ≤ p.second ∧ p.second < e.endMinute * 60 := by
  simp only [PeriodEntry.covers, Bool.and_eq_true, decide_eq_true_eq] at h
  exact ⟨h.1.2, h.2⟩

/-- A window contains the position it opens at. -/
theorem Window.opening_contains {e : PeriodEntry} {p : Pos} (h : e.covers p = true) (i : Per) (g : Grp) (n : Nat) :
    (Window.opening e i g p n).contains p = true := by
  obtain ⟨hs, ht⟩ := PeriodEntry.covers_bounds h
  have := lt_alignedWindow_stop hs ht
  simp [Window.contains, Window.opening, this]

theorem Window.endsAt_iff (w : Window) (p : Pos) : w.endsAt p = true ↔
    (w.day = p.day ∧ w.stop = p.second) ∨ (w.stop = 86400 ∧ p.second = 0 ∧ p.day = (w.day + 1) % 7) := by
  simp [Window.endsAt, and_assoc]

section
variable {gr : Group} {x : ReachContext} {r : Reach} {first : Bool} {i : Per}

/-- Inside an entry, the group's window free to open: it opens if its cause is met, counted where the position is skipped,
with its record handed to the alert (R99 to R101, R104, R126). -/
theorem Group.reach_inside (hfree : ∀ w, gr.openWindow = some w → r.ends w ∨ x.cuts r first) (hrun : x.run = true)
    (hen : x.enabled = true) (hcov : r.schedule[i].covers r.handed.pos = true)
    (hlt : ∀ j : Per, j < i → r.schedule[j].covers r.handed.pos = false) (ho : opensHere x r first r.schedule[i] = true) :
    let w := Window.opening r.schedule[i] i x.group r.handed.pos x.second
    let t := (gr.reach x r first).1
    t.openWindow = some (if r.handed.isSkipped then w.skip else w)
      ∧ t.alertLevel = w.limit.bind (·.alert) ∧ t.alertPeriod = some i
      ∧ t.alertOn = (gr.alertOn && (w.limit.bind (·.alert)).isSome) := by
  have hgone := Group.comeDue_free hfree
  have hopen := Group.openHere_eq (gr := gr.comeDue x r first) (first := first) (by rw [hgone]) hrun hen
    (periodAt_eq_some hcov hlt)
  rw [if_pos ho] at hopen
  have hin := Window.opening_contains hcov i x.group x.second
  intro w t
  have ht : t = _ := Group.reach_opens hopen
  rw [Group.handLimit_eq] at ht
  refine ⟨?_, ?_, ?_, ?_⟩
  · rw [ht, Group.countSkipped_openWindow]
    simp only [Option.map_some, hin, Bool.and_true]
    rfl
  · rw [ht, Group.countSkipped_alertLevel]
  · rw [ht, Group.countSkipped_alertPeriod]; rfl
  · rw [ht, Group.countSkipped_alertOn, hgone]

/-- Inside an entry, no cause opens a window. -/
theorem Group.openHere_uncaused (hcov : r.schedule[i].covers r.handed.pos = true)
    (hlt : ∀ j : Per, j < i → r.schedule[j].covers r.handed.pos = false) (ho : ¬opensHere x r first r.schedule[i] = true) :
    gr.openHere x r first = none := by
  rw [Group.openHere, periodAt_eq_some hcov hlt, Option.bind_some, if_neg ho, ite_self]

end

/-! ### A record at the windows (R73, R102, R103, R106) -/

theorem Window.told_eq (w : Window) (r : GroupSecond) : w.told r =
    if w.firstSecond ≤ r.second then { w with flags := { w.flags with trim := true } } else w := by
  unfold Window.told
  split
  · rename_i h; simp [h]
  · rename_i h; simp [h]

/-- A record that an exclusion covers adds its slices to those expected and excluded. -/
theorem Window.taken_excluded {r : GroupSecond} (h : r.excluded = true) (w : Window) (first : Bool) :
    (w.takeRecord r).markMembership first = { w with
      expected := w.expected + 8, excluded := w.excluded + 8
      flags := { w.flags with membership := w.flags.membership || first } } := by
  simp [Window.takeRecord, Window.markMembership, h]

/-- Any other adds what it holds. -/
theorem Window.taken_included {r : GroupSecond} (h : r.excluded = false) (w : Window) (first : Bool) :
    (w.takeRecord r).markMembership first = { w with
      expected := w.expected + 8, data := w.data + r.data, sum := addIntensity w.sum r.sum
      onsets := w.onsets + r.onsets, overload := w.overload + r.overload
      maxLevel := maxOption w.maxLevel r.maxLevel, maxPeak := maxOption w.maxPeak r.maxPeak
      flags := { w.flags with
        suspect := w.flags.suspect || r.suspect, holdOver := w.flags.holdOver || r.holdOver
        membership := w.flags.membership || first } } := by
  simp [Window.takeRecord, Window.markMembership, h]

/-! ### O41 -/

/-- Settles O41: the schedule by the first position that lets it in; a group's windows by what ends, truncates and opens
them; a record by the position it carries. -/
theorem reachesActivateAndOpen : Obligations.ReachesActivateAndOpen := by
  refine ⟨?_, ?_, ?_⟩
  · intro lock second handed s r same allows
    refine ⟨fun hno => reachAll_same fun x hx => ?_, fun p m before h rest hp hh ha hno => ?_⟩
    · cases hp : s.pendingSchedule with
      | none => exact allowsActivation_none hp x
      | some q => exact Bool.eq_false_iff.mpr fun h => hno q.1 q.2 hp x hx ((allowsActivation_iff hp x).mp h)
    · have hbefore : ∀ x ∈ before, allowsActivation s x = false := fun x hx =>
        Bool.eq_false_iff.mpr fun h => hno x hx ((allowsActivation_iff hp x).mp h)
      have hat : allowsActivation s h = true := (allowsActivation_iff hp h).mpr ha
      have hafter : ∀ v : Schedules, v.pendingSchedule = none → ∀ x ∈ rest, allowsActivation v x = false :=
        fun v hv x _ => allowsActivation_none hv x
      intro active
      change reachAll lock second handed s = _
      rw [hh, reachAll_append _ _ hbefore]
      by_cases hl : 2 ≤ lock
      · simp [reachAll, hat, Schedules.activate, hp, hl, reachAll_same (hafter _ _), active, same, Event.plain]
      · simp [reachAll, hat, Schedules.activate, hp, hl, reachAll_same (hafter _ _), active, same, Event.plain]
  · intro gr x r first t p skipped reached ends cut free
    have hskipped : skipped = r.handed.isSkipped := by
      change (match r.handed with | .skipped _ => true | _ => false) = _
      cases r.handed <;> rfl
    have hreached : reached = r.handed.isReached := by
      change (match r.handed with | .waited _ => false | _ => true) = _
      cases r.handed <;> rfl
    have hends : ∀ w, ends w ↔ r.ends w := fun w => by
      change (reached = true ∧ _) ↔ _
      rw [hreached, Reach.ends, Window.endsAt_iff]
    have hfree : free ↔ ∀ w, gr.openWindow = some w → r.ends w ∨ x.cuts r first :=
      forall_congr' fun w => imp_congr_right fun _ => or_congr_left (hends w)
    have hdue : t.dueWindows = (gr.comeDue x r first).dueWindows := Group.reach_dueWindows gr x r first
    refine ⟨fun w hw => ⟨fun he => ?_, fun he hc => ?_, fun he hc => ?_⟩, fun hw => ?_, fun hf hno => ?_,
      fun i hf hrun hen hcov hlt => ?_⟩
    · rw [hdue, Group.comeDue_ends hw ((hends w).mp he), hskipped]
    · rw [hdue, Group.comeDue_cut hw (mt (hends w).mpr he) hc]
    · refine (Group.reach_kept hw (mt (hends w).mpr he) hc).trans ?_
      rw [hskipped]
      change gr.countSkipped r.handed = { gr with openWindow := some (if r.handed.isSkipped && w.contains r.handed.pos then
        w.skip else w) }
      cases r.handed <;> simp [Group.countSkipped, hw, Handed.isSkipped, Handed.pos] <;> rw [← hw]
    · rw [hdue, Group.comeDue_none hw]
    · refine Group.reach_closed (hfree.mp hf) (Group.openHere_none ?_)
      exact hno.imp_right (Or.imp_right periodAt_eq_none)
    · intro e start aligned cause
      obtain ⟨hstart, hend⟩ := PeriodEntry.covers_bounds hcov
      have haligned : aligned ↔ (alignedWindow e p.second).1 = p.second := by
        change (match e.length.seconds with
          | none => p.second = start
          | some l => (p.second - start) % l = 0) ↔ _
        cases hl : e.length.seconds with
        | none => rw [alignedWindow_whole hl]; exact eq_comm
        | some l => rw [alignedWindow_start_iff hl hstart]
      have hopens : opensHere x r first e = true ↔ (reached = true ∧ aligned) ∨ cause := by
        rw [opensHere_iff hen, haligned, hreached]
      refine ⟨fun ho => ?_, fun hna hnc => ?_⟩
      · obtain ⟨hw, hlevel, hperiod, hon⟩ := Group.reach_inside (hfree.mp hf) hrun hen hcov hlt (hopens.mpr ho)
        have hstop : (alignedWindow e p.second).2.1 = (match e.length.seconds with
            | none => e.endMinute * 60
            | some l => min (start + (p.second - start) / l * l + l) (e.endMinute * 60)) := by
          cases hl : e.length.seconds with
          | none => rw [alignedWindow_whole hl]
          | some l => rw [alignedWindow_length hl]
        have hshort : (alignedWindow e p.second).2.2 = true ↔ ∃ l, e.length.seconds = some l
            ∧ e.endMinute * 60 < start + (p.second - start) / l * l + l := by
          cases hl : e.length.seconds with
          | none => rw [alignedWindow_whole hl]; simp
          | some l => rw [alignedWindow_length hl]; simp [start]
        have hlate : decide (p.second ≠ (alignedWindow e p.second).1) = true ↔ ¬aligned := by
          rw [haligned, decide_eq_true_iff, ne_comm]
        refine ⟨_, hw, ?_⟩
        rw [hskipped, hperiod, hon, hlevel]
        cases r.handed.isSkipped
        · exact ⟨rfl, rfl, rfl, rfl, rfl, hstop, rfl, rfl, rfl, rfl, rfl, rfl, rfl, rfl, rfl, rfl, rfl, hlate, hshort, rfl,
            rfl, rfl, rfl⟩
        · exact ⟨rfl, rfl, rfl, rfl, rfl, hstop, rfl, rfl, rfl, rfl, rfl, rfl, rfl, rfl, rfl, rfl, rfl, hlate, hshort, rfl,
            rfl, rfl, rfl⟩
      · obtain ⟨hnone, halert⟩ := Group.reach_closed (hfree.mp hf) (Group.openHere_uncaused (gr := gr.comeDue x r first)
          hcov hlt (mt hopens.mp (not_or.mpr ⟨hna, hnc⟩)))
        exact ⟨hnone, fun hs => ⟨(halert hs).1, (halert hs).2.2⟩⟩
  · intro gr r first t told taken inside waits
    have htold : ∀ w, w.told r = told w := fun w => Window.told_eq w r
    have htaken : ∀ w, (w.takeRecord r).markMembership first = taken w := fun w => by
      change _ = if r.excluded then _ else _
      cases h : r.excluded with
      | true => exact Window.taken_excluded h w first
      | false => exact Window.taken_included h w first
    refine ⟨fun hp => ?_, fun p hp h24 => ?_⟩
    · rw [show t = _ from Group.windowRecord_held gr r first hp]
      simp only [htold]
    · have hinside : ∀ w, w.contains p = inside w p := fun w => by
        simp [Window.contains, inside, Bool.beq_eq_decide_eq, Bool.and_assoc]
      have hwaits : ∀ w, w.waitsFor p = waits w p := fun w => by
        rw [Bool.eq_iff_iff, Window.waitsFor_iff w p h24]
        simp [waits, inside]
      change gr.windowRecord r first = _
      simp only [Group.windowRecord, hp, htaken, hinside, hwaits]

end Sys2Proof.Machine
end

section
/-! SUPPORT. A second boundary: civil positions, the pending map, exclusions and auto-run; O38 (R9, R10, R63, R64, R69, R71 to
R73, R99, R120, R185). -/
namespace Sys2Proof.Machine

/-! ### What a boundary leaves, field by field -/

@[simp] theorem State.boundary_exclusions (s : State) (b : Bool) : (s.boundary b).exclusions =
    if b then expire s.exclusions (s.opening b).time.runningSecond else s.exclusions := by
  unfold State.boundary; dsimp only; split <;> simp [State.turnOver]

/-- The groups are those the turn leaves, or, where RUN starts, those of its entry. -/
theorem State.boundary_groups (s : State) (b : Bool) : (s.boundary b).groups =
    if s.autoRunStarts b then (s.turnOver (Config.order s.choices) b).1.enterRun.groups
    else (s.turnOver (Config.order s.choices) b).1.groups := by
  unfold State.boundary; dsimp only; split <;> simp

/-- Every event a boundary hands over is held afterwards, or the queue is full (R155). -/
theorem State.boundary_raised (s : State) (b : Bool) {e : Event}
    (h : .event e ∈ (s.turnOver (Config.order s.choices) b).2.flatten) : (s.boundary b).raised e :=
  State.emitAll_raised _ 0 _ e ((handOver_perm _ _).mem_iff.mpr h)

/-- The map's event is handed over. -/
theorem State.boundary_raises_mapEvent {s : State} {b : Bool} {e : Event} (h : (s.opening b).mapEvent = some e) :
    (s.boundary b).raised e :=
  s.boundary_raised b (List.mem_flatten.mpr ⟨_, List.mem_append_left _ (List.mem_append_left _ (List.mem_cons_self ..)), by
    simp [h]⟩)

/-- So is CLOCK SET, where a pending time takes effect. -/
theorem State.boundary_raises_clockSet {s : State} {b : Bool} (h : (s.opening b).clockSet = true) :
    (s.boundary b).raised (clockSetEvent (s.opening b).time) :=
  s.boundary_raised b (List.mem_flatten.mpr ⟨_, List.mem_append_left _ (List.mem_append_left _
    (List.mem_cons_of_mem _ (List.mem_cons_of_mem _ (List.mem_cons_self ..)))), by simp [h]⟩)

theorem exec_secondBoundary {s : State} (h : s.control.secondTaken = false) :
    exec .secondBoundary s = .next (s.boundary true) := by
  change execSecondBoundary s = _
  simp [execSecondBoundary, h]

/-! ### Civil positions as seconds of the week (R64, R71) -/

/-- A position as a second of the week. -/
def Pos.number (p : Pos) : Int := (p.day : Int) * 86400 + p.second

/-- A legal position is the one of its number. -/
theorem Pos.number_lt {p : Pos} (h : p.legal) : 0 ≤ p.number ∧ p.number < 604800 := by
  obtain ⟨hd, hs⟩ := h
  unfold Pos.number
  omega

theorem Pos.next_legal {p : Pos} (h : p.legal) : p.next.legal := by
  obtain ⟨hd, hs⟩ := h
  unfold Pos.next
  split
  · exact ⟨hd, by dsimp only; omega⟩
  · exact ⟨by dsimp only; omega, Nat.zero_le _⟩

theorem Pos.next_number {p : Pos} (h : p.legal) : p.next.number = (p.number + 1) % 604800 := by
  obtain ⟨hd, hs⟩ := h
  unfold Pos.next Pos.number
  split
  · dsimp only; omega
  · dsimp only; omega

theorem Pos.shift_legal (p : Pos) (b : Int) : (p.shift b).legal := by
  unfold Pos.shift Pos.legal
  dsimp only
  omega

theorem Pos.shift_number (p : Pos) (b : Int) : (p.shift b).number = (p.number + b) % 604800 := by
  unfold Pos.shift Pos.number
  dsimp only
  omega

/-- Skipped positions follow one another. -/
theorem skippedFrom_numbers : ∀ (n : Nat) (q : Pos), q.legal → ∃ skipped : List Pos,
    skippedFrom n q = skipped.map .skipped
      ∧ skipped.map Pos.number = (List.range n).map fun i : Nat => (q.number + (i : Int)) % 604800
  | 0, _, _ => ⟨[], rfl, rfl⟩
  | n + 1, q, h => by
    obtain ⟨l, hl, hn⟩ := skippedFrom_numbers n q.next (Pos.next_legal h)
    refine ⟨q :: l, by rw [skippedFrom, hl]; rfl, ?_⟩
    have hq := Pos.number_lt h
    rw [List.map_cons, hn, List.range_succ_eq_map, List.map_cons, List.map_map, Pos.next_number h]
    congr 1
    · simp only [Nat.cast_zero, add_zero]; omega
    · refine List.map_congr_left fun i _ => ?_
      simp only [Function.comp_apply, Nat.cast_succ]; omega

/-! ### The pending map (R9, R10) -/

theorem Router.activate_none {r : Router} (h : r.pendingMap = none) (lock : Nat) (locked : Option (Vector LockedFields 16))
    (n : Nat) : r.activate lock locked n = (r, none) := by
  simp [Router.activate, h]

/-- Below lock level 2, a pending map that meets the lock is activated. -/
theorem Router.activate_activated {r : Router} {m : ChannelMap} {k : Bank} (h : r.pendingMap = some (m, k)) {lock : Nat}
    {locked : Option (Vector LockedFields 16)} (hl : lock < 2) (hd : lock = 1 → ∀ c, ¬lockDiffers locked m c) (n : Nat) :
    r.activate lock locked n = ({ r with pendingMap := none, active := m },
      some { Event.plain n .mapChanged .none with value := some (.bank k) }) := by
  have hn : (if lock = 1 then locked.bind fun l => firstDiffering l m else none) = none := by
    split
    · exact firstDiffering_eq_none (hd ‹_›)
    · rfl
  simp only [Router.activate, h, hn, if_neg (Nat.not_le.mpr hl)]

/-- At level 1 the first channel whose locked fields differ discards it. -/
theorem Router.activate_differing {r : Router} {m : ChannelMap} {k : Bank} (h : r.pendingMap = some (m, k))
    {locked : Option (Vector LockedFields 16)} {c : Chan} (hc : lockDiffers locked m c)
    (hlt : ∀ d < c, ¬lockDiffers locked m d) (n : Nat) :
    r.activate 1 locked n = ({ r with pendingMap := none },
      some { Event.plain n .mapChanged (.channel c) with value := some (.bank k), discarded := true }) := by
  simp only [Router.activate, h, if_true, firstDiffering_eq_some hc hlt, if_neg (show ¬2 ≤ 1 by decide)]
  rfl

/-- Level 2 discards it. -/
theorem Router.activate_refused {r : Router} {m : ChannelMap} {k : Bank} (h : r.pendingMap = some (m, k)) {lock : Nat}
    (hl : 2 ≤ lock) (locked : Option (Vector LockedFields 16)) (n : Nat) :
    r.activate lock locked n = ({ r with pendingMap := none },
      some { Event.plain n .mapChanged .none with value := some (.bank k), discarded := true }) := by
  simp only [Router.activate, h, if_pos hl]

/-- No map is pending afterwards, and the banks stand. -/
theorem Router.activate_kept (r : Router) (lock : Nat) (locked : Option (Vector LockedFields 16)) (n : Nat) :
    (r.activate lock locked n).1.pendingMap = none ∧ (r.activate lock locked n).1.bankA = r.bankA
      ∧ (r.activate lock locked n).1.bankB = r.bankB := by
  cases hp : r.pendingMap with
  | none => rw [Router.activate_none hp]; exact ⟨hp, rfl, rfl⟩
  | some p =>
    simp only [Router.activate, hp]
    split
    · exact ⟨rfl, rfl, rfl⟩
    · split <;> exact ⟨rfl, rfl, rfl⟩

@[simp] theorem State.opening_true_router (s : State) : (s.opening true).router =
    (s.router.activate s.control.lock s.control.locked (s.opening true).time.runningSecond).1 := rfl
@[simp] theorem State.opening_true_mapEvent (s : State) : (s.opening true).mapEvent =
    (s.router.activate s.control.lock s.control.locked (s.opening true).time.runningSecond).2 := rfl
@[simp] theorem State.opening_true_clockSet (s : State) :
    (s.opening true).clockSet = (s.time.secondBoundary s.control.mode).clockSet := rfl

/-! ### The time record (R63, R64, R69, R71 to R73) -/

/-- The indices return to 0 and the running second goes up, whatever the civil position does. -/
theorem TimeBase.secondBoundary_indices (t : TimeBase) (mode : Mode) :
    (t.secondBoundary mode).time.sliceIndex = 0
      ∧ (t.secondBoundary mode).time.runningSecond = t.runningSecond + 1
      ∧ (t.secondBoundary mode).time.pendingTime = none := by
  cases hp : t.pendingTime with
  | some p => simp [TimeBase.secondBoundary, hp, TimeBase.moveTo, TimeBase.openSecond]
  | none =>
    simp only [TimeBase.secondBoundary, hp]
    split_ifs <;> exact ⟨rfl, rfl, hp⟩

/-- A pending time takes effect (R69). -/
theorem TimeBase.secondBoundary_pending {t : TimeBase} {p : Pos} (h : t.pendingTime = some p) (mode : Mode) :
    t.secondBoundary mode =
      { time := { t.openSecond.moveTo p with pendingTime := none, clockSet := true }, handed := [.opened p]
        clockSet := true } := by
  simp only [TimeBase.secondBoundary, h]

/-- Without a trim, or outside RUN, the position moves on by one second and the trim (R64, R71). -/
theorem TimeBase.secondBoundary_moved {t : TimeBase} (h : t.pendingTime = none) {mode : Mode}
    (ht : t.trim = 0 ∨ mode ≠ .run) (hl : t.here.legal) : ∃ q : Pos, t.secondBoundary mode =
      { time := t.openSecond.moveTo q, handed := [.opened q], clockSet := false }
      ∧ q.legal ∧ q.number = (t.here.number + 1 + t.trim) % 604800 := by
  have hq := Pos.next_number hl
  by_cases h0 : t.trim = 0
  · refine ⟨t.plainNext, by simp only [TimeBase.secondBoundary, h, h0, if_true], Pos.next_legal hl, ?_⟩
    rw [h0, add_zero]; exact hq
  · refine ⟨t.plainNext.shift t.trim, ?_, Pos.shift_legal _ _, ?_⟩
    · simp only [TimeBase.secondBoundary, h, h0, if_false, if_pos (ht.resolve_left h0)]
    · rw [Pos.shift_number, TimeBase.plainNext, hq, Int.emod_add_emod]

/-- In RUN a positive trim jumps forward over the skipped positions (R72). -/
theorem TimeBase.secondBoundary_jump {t : TimeBase} (h : t.pendingTime = none) (ht : 0 < t.trim) (hl : t.here.legal) :
    ∃ (q : Pos) (skipped : List Pos), t.secondBoundary .run =
      { time := t.openSecond.moveTo q, handed := skipped.map .skipped ++ [.opened q], clockSet := false }
      ∧ q.legal ∧ q.number = (t.here.number + 1 + t.trim) % 604800
      ∧ skipped.map Pos.number = (List.range t.trim.toNat).map fun i : Nat => (t.here.number + 1 + (i : Int)) % 604800 := by
  have hq : t.plainNext.number = (t.here.number + 1) % 604800 := Pos.next_number hl
  obtain ⟨l, hskip, hn⟩ := skippedFrom_numbers t.trim.toNat t.plainNext (Pos.next_legal hl)
  refine ⟨t.plainNext.shift t.trim, l, ?_, Pos.shift_legal _ _, ?_, ?_⟩
  · simp only [TimeBase.secondBoundary, h, if_neg (show ¬t.trim = 0 by omega), if_pos ht, hskip]
    simp
  · rw [Pos.shift_number, hq, Int.emod_add_emod]
  · rw [hn, hq]
    exact List.map_congr_left fun i _ => Int.emod_add_emod ..

/-- A negative one holds the second back (R73). -/
theorem TimeBase.secondBoundary_held {t : TimeBase} (h : t.pendingTime = none) (ht : t.trim < 0) :
    t.secondBoundary .run = { time := t.openSecond.hold, handed := [.waited t.plainNext], clockSet := false } := by
  simp only [TimeBase.secondBoundary, h, if_neg (show ¬t.trim = 0 by omega), if_neg (show ¬0 < t.trim by omega)]
  simp

/-- The time record of a second boundary is that of its step: an auto-run start has no pending time left to clear. -/
theorem State.boundary_true_time (s : State) : (s.boundary true).time = (s.time.secondBoundary s.control.mode).time := by
  have hnone := (s.time.secondBoundary_indices s.control.mode).2.2
  rw [State.boundary_time, State.opening_true_time]
  generalize (s.time.secondBoundary s.control.mode).time = u at hnone
  split
  · rw [← hnone]
  · rfl

/-- An auto-run start enters RUN at the position and on the schedule and map then in force (R183, R185). -/
theorem State.boundary_started {s : State} (h : s.autoRunStarts true = true) (g : Grp) :
    let now := s.boundary true
    let entered := ({ s with time := now.time, router := now.router, schedules := now.schedules }.enterRun).groups[g]
    now.groups[g].openWindow = entered.openWindow ∧ now.groups[g].dueWindows = [] ∧ now.groups[g].alertOn = false
      ∧ now.groups[g].alertLevel = entered.alertLevel ∧ now.groups[g].alertPeriod = entered.alertPeriod := by
  intro now entered
  have htime : (s.opening true).time.present = now.time.present
      ∧ (s.opening true).time.runningSecond = now.time.runningSecond := by
    rw [State.boundary_time, if_pos h]; exact ⟨rfl, rfl⟩
  have hgroups : now.groups = _ := State.boundary_groups s true
  rw [if_pos h] at hgroups
  have hschedules : now.schedules = _ := State.boundary_schedules s true
  rw [if_pos rfl] at hschedules
  have hrouter : now.router = _ := State.boundary_router s true
  simp only [hgroups, entered, State.enterRun, Vector.getElem_ofFn, Fin.getElem_fin, Group.enterRun, State.turnOver,
    hrouter, hschedules, ← htime, if_true, and_self]

/-- Settles O38. -/
theorem secondBoundaryTurnsTheSecond : Obligations.SecondBoundaryTurnsTheSecond := by
  intro s
  obtain ⟨hslice, hsecond, hpending⟩ := s.time.secondBoundary_indices s.control.mode
  have hopens := s.boundary_opens true
  have htime := s.boundary_true_time
  obtain ⟨hmap, hbankA, hbankB⟩ := s.router.activate_kept s.control.lock s.control.locked (s.opening true).time.runningSecond
  refine ⟨fun h => ?_, fun h hlaw => ⟨s.boundary true, exec_secondBoundary h, fun h7 => ?_, hopens.frameIndex,
    by rw [htime, hslice], by rw [htime, hsecond], hopens.link, by rw [htime, hpending], ?_, ?_,
    by rw [State.boundary_router]; exact hmap, by rw [State.boundary_router]; exact hbankA,
    by rw [State.boundary_router]; exact hbankB, fun hnone => ?_, fun m k hsome => ?_, ?_⟩⟩
  · change execSecondBoundary s = _
    simp [execSecondBoundary, h]
  · change execSliceBoundary s = _
    simp [execSliceBoundary, h7]
  · have hlegal : s.time.here.legal := hlaw.2.2.2.2.2.1
    have hclock : (s.boundary true).time.clockSet = (s.time.secondBoundary s.control.mode).time.clockSet := by rw [htime]
    rw [htime]
    refine ⟨fun p hp => ?_, fun hp => ?_⟩
    · have hstep := TimeBase.secondBoundary_pending hp s.control.mode
      have hset : (s.opening true).clockSet = true := by rw [State.opening_true_clockSet, hstep]
      have hraised := State.boundary_raises_clockSet hset
      rw [State.opening_true_time] at hraised
      rw [hstep] at hraised ⊢
      exact ⟨rfl, rfl, rfl, rfl, rfl, hraised⟩
    · by_cases hmoved : s.time.trim = 0 ∨ s.control.mode ≠ .run
      · obtain ⟨q, hstep, hq, hn⟩ := TimeBase.secondBoundary_moved hp hmoved hlegal
        rw [hstep]
        refine ⟨hq, rfl, fun _ => ⟨hn, rfl, rfl, rfl⟩, fun ht hm => ?_, fun ht hm => ?_⟩
        · exact absurd (hmoved.resolve_left ht.ne') (not_not.mpr hm)
        · exact absurd (hmoved.resolve_left ht.ne) (not_not.mpr hm)
      · obtain ⟨h0, hrun⟩ := not_or.mp hmoved
        rw [not_not] at hrun
        rw [hrun]
        rcases lt_or_gt_of_ne h0 with ht | ht
        · have hstep := TimeBase.secondBoundary_held hp ht
          rw [hstep]
          refine ⟨hlegal, rfl, fun h => absurd h (by rintro (h | h) <;> [exact h0 h; exact h rfl]),
            fun h _ => absurd h (by omega), fun _ _ => ⟨rfl, rfl, rfl, s.time.plainNext, rfl, Pos.next_number hlegal⟩⟩
        · obtain ⟨q, l, hstep, hq, hn, hl⟩ := TimeBase.secondBoundary_jump hp ht hlegal
          rw [hstep]
          refine ⟨hq, rfl, fun h => absurd h (by rintro (h | h) <;> [exact h0 h; exact h rfl]),
            fun _ _ => ⟨hn, rfl, rfl, l, rfl, ?_⟩, fun h _ => absurd h (by omega)⟩
          have hcast : (List.range s.time.trim.toNat).flatMap (fun i : Nat => [(i : Int)])
              = (List.range s.time.trim.toNat).map fun i : Nat => (i : Int) := List.map_eq_flatMap.symm
          refine hl.trans (Eq.trans ?_ (congrArg (List.map _) hcast.symm))
          rw [List.map_map]
          rfl
  · have hstarts : s.autoRunStarts true = true ↔
        s.control.autoRun = true ∧ s.control.mode = .config ∧ s.time.pendingTime.isSome = true := by
      simp [State.autoRunStarts, and_assoc]
    refine ⟨fun hno => ?_, fun hs => ⟨?_, State.boundary_started (hstarts.mpr hs)⟩⟩
    · rw [State.boundary_control, if_neg (mt hstarts.mp hno)]
    · rw [State.boundary_control, if_pos (hstarts.mpr hs)]
  · rw [State.boundary_router, State.opening_true_router, Router.activate_none hnone]
  · have moved : ∀ {r e}, s.router.activate s.control.lock s.control.locked (s.opening true).time.runningSecond = (r, some e) →
        (s.boundary true).router = r ∧ (s.boundary true).raised e := fun he => by
      refine ⟨by rw [State.boundary_router, State.opening_true_router, he], State.boundary_raises_mapEvent ?_⟩
      rw [State.opening_true_mapEvent, he]
    have hsecond' : (s.opening true).time.runningSecond = (s.boundary true).time.runningSecond := by
      rw [htime, State.opening_true_time]
    rw [← hsecond']
    refine ⟨fun h0 => ?_, fun h1 hd => ?_, fun h1 c hc hlt => ?_, fun h2 => ?_⟩
    · obtain ⟨hr, he⟩ := moved (Router.activate_activated hsome (by omega) (by omega) _)
      exact ⟨by rw [hr], he⟩
    · obtain ⟨hr, he⟩ := moved (Router.activate_activated hsome (by omega) (fun _ => hd) _)
      exact ⟨by rw [hr], he⟩
    · obtain ⟨hr, he⟩ := moved (by rw [h1]; exact Router.activate_differing hsome hc hlt _)
      exact ⟨by rw [hr], he⟩
    · obtain ⟨hr, he⟩ := moved (Router.activate_refused hsome h2 _ _)
      exact ⟨by rw [hr], he⟩
  · rw [State.boundary_exclusions, if_pos rfl, State.opening_true_time, hsecond]
    refine List.filter_congr fun x _ => ?_
    cases x.stop <;> rfl

end Sys2Proof.Machine
end

section
/-! SUPPORT. The turn of a boundary in named parts: the check's close, the rows of R48, the channel turns, the selection; what
each leaves of a channel and of the check (R48, R133 to R143). -/
namespace Sys2Proof.Machine

/-! ### Sets of channels -/

/-- The number with the bits of a predicate. -/
def bitsOf {n : Nat} (p : Fin n → Bool) : Nat :=
  (List.finRange n).foldl (fun acc c => if p c then acc + 2 ^ c.val else acc) 0

theorem bitsOf_succ {n : Nat} (p : Fin (n + 1) → Bool) : bitsOf p =
    if p (Fin.last n) then bitsOf (fun c : Fin n => p c.castSucc) + 2 ^ n else bitsOf fun c : Fin n => p c.castSucc := by
  simp [bitsOf, List.finRange_succ_last, List.foldl_append, List.foldl_map]

theorem bitsOf_spec : ∀ {n : Nat} (p : Fin n → Bool), bitsOf p < 2 ^ n ∧ ∀ c : Fin n, (bitsOf p).testBit c.val = p c
  | 0, _ => ⟨by simp [bitsOf], fun c => c.elim0⟩
  | n + 1, p => by
    obtain ⟨hlt, hbit⟩ := bitsOf_spec fun c : Fin n => p c.castSucc
    have hlast : (bitsOf fun c : Fin n => p c.castSucc).testBit n = false := Nat.testBit_lt_two_pow hlt
    rw [bitsOf_succ]
    cases hp : p (Fin.last n) with
    | false =>
      refine ⟨by simp only [Bool.false_eq_true, if_false, pow_succ]; omega, fun c => ?_⟩
      refine Fin.lastCases ?_ (fun d => ?_) c
      · simpa [hp] using hlast
      · simpa using hbit d
    | true =>
      refine ⟨by simp only [if_true, pow_succ]; omega, fun c => ?_⟩
      simp only [if_true, Nat.add_comm _ (2 ^ n)]
      refine Fin.lastCases ?_ (fun d => ?_) c
      · simp [Nat.testBit_two_pow_add_eq, hlast, hp]
      · rw [Fin.val_castSucc, Nat.testBit_two_pow_add_gt d.isLt]
        exact hbit d

/-- A set of channels holds those of its predicate. -/
theorem chanSetOf_getLsbD (p : Chan → Bool) (c : Chan) : (chanSetOf p).getLsbD c.val = p c := by
  change (BitVec.ofNat 16 (bitsOf p)).getLsbD c.val = p c
  rw [BitVec.getLsbD_ofNat, (bitsOf_spec p).2 c, decide_eq_true c.isLt, Bool.true_and]

theorem involvedSet_getLsbD (k : CheckEngine) (p : Chan → Bool) (c : Chan) :
    (k.involvedSet p).getLsbD c.val = (k.involved c && p c) := chanSetOf_getLsbD _ c

theorem sharers_getLsbD (m : ChannelMap) (c d : Chan) : (sharers m c).getLsbD d.val = true ↔
    d ≠ c ∧ m.channels[d].enabled = true ∧ m.channels[d].sourceSlot = m.channels[c].sourceSlot := by
  rw [sharers, chanSetOf_getLsbD]
  simp [and_assoc]

/-! ### The parts of a turn -/

/-- The check as the boundary finds it closed, before the states are decided. -/
@[irreducible] def State.closing (s : State) (b : Bool) : CheckClose := s.checkAtBoundary s.closedSlices (s.opening b)

/-- The row of R48 of a channel. -/
@[irreducible] def State.rowAt (s : State) (b : Bool) (c : Chan) : Row := (s.rows s.closedSlices (s.opening b) (s.closing b))[c]

/-- The check once the states are decided. -/
@[irreducible] def State.resolved (s : State) (b : Bool) : CheckClose :=
  (s.closing b).engine.resolveStart (fun c => decide (s.rowAt b c = .checkStart)) (s.opening b).time.runningSecond

/-- The result decided at the boundary, if any. -/
@[irreducible] def State.decidedAt (s : State) (b : Bool) : Option (Chan × CheckRecord) := (s.closing b).decided.or (s.resolved b).decided

/-- What the boundary has decided for a channel. -/
@[irreducible] def State.turnAt (s : State) (b : Bool) (c : Chan) : ChannelTurn :=
  s.channelTurn b s.closedSlices (s.rows s.closedSlices (s.opening b) (s.closing b)) (s.decidedAt b) c

/-- A channel as the turn leaves it, before the arbiter. -/
@[irreducible] def State.turnedChannel (s : State) (b : Bool) (c : Chan) : Channel :=
  s.channelAtBoundary (Config.order s.choices) b (s.opening b) (s.closing b) (s.resolved b) (s.turnAt b c) c

/-- The state after an auto-run start, before the arbiter. -/
@[irreducible] def State.started (s : State) (b : Bool) : State :=
  let t := (s.turnOver (Config.order s.choices) b).1
  if s.autoRunStarts b then t.enterRun else t

/-- The arbiter's selection at the boundary. -/
@[irreducible] def State.selection (s : State) (b : Bool) : Selection :=
  ((s.started b).arbiterView (Config.order s.choices) (s.groups.map (·.holdCount))).select (s.started b).check

theorem State.boundary_eq (s : State) (b : Bool) : s.boundary b =
    { ((s.started b).arbitrate (Config.order s.choices) b (s.groups.map (·.holdCount))).emitAll 0
        (handOver (Config.order s.choices) (s.turnOver (Config.order s.choices) b).2) with choices := s.choices + 1 } := by
  rw [State.started]; rfl

theorem State.started_channels (s : State) (b : Bool) (c : Chan) : (s.started b).channels[c] = s.turnedChannel b c := by
  have h : (s.turnOver (Config.order s.choices) b).1.channels[c] = s.turnedChannel b c := by
    unfold State.turnedChannel State.resolved State.turnAt State.decidedAt State.resolved State.rowAt State.closing
    simp [State.turnOver]
  unfold State.started
  dsimp only
  split
  · exact h
  · exact h

theorem State.started_check (s : State) (b : Bool) : (s.started b).check = (s.resolved b).engine := by
  unfold State.started State.resolved State.rowAt State.closing
  dsimp only
  split <;> rfl

theorem State.started_router (s : State) (b : Bool) : (s.started b).router = (s.opening b).router := by
  unfold State.started
  dsimp only
  split <;> rfl

theorem State.started_runningSecond (s : State) (b : Bool) :
    (s.started b).time.runningSecond = (s.opening b).time.runningSecond := by
  unfold State.started
  dsimp only
  split <;> rfl

/-- A channel after a boundary: as the turn leaves it, then as the arbiter's selection does. -/
theorem State.boundary_channel (s : State) (b : Bool) (c : Chan) : (s.boundary b).channels[c] =
    (s.turnedChannel b c).afterSelection (Config.order s.choices) b (s.opening b).router.active (s.selection b)
      (s.opening b).time.runningSecond c := by
  rw [State.boundary_eq, ← State.started_channels, ← State.started_router, ← State.started_runningSecond]
  simp [State.arbitrate, State.selection]

/-- The check after a boundary. -/
theorem State.boundary_check (s : State) (b : Bool) : (s.boundary b).check =
    (s.resolved b).engine.afterSelection (s.opening b).router.active (s.selection b) (s.opening b).time.runningSecond := by
  rw [State.boundary_eq, ← State.started_check, ← State.started_router, ← State.started_runningSecond]
  simp [State.arbitrate, State.selection]

/-! ### The arbiter's selection (R143) -/

/-- While a check is in progress the arbiter selects nothing. -/
theorem ArbiterView.select_busy (v : ArbiterView) {k : CheckEngine} (h : k.busy = true) :
    v.select k = { judged := [], chosen := none } := by
  simp [ArbiterView.select, h]

/-- Only channels of the sweep are judged on the way. -/
theorem ArbiterView.select_judged {v : ArbiterView} {k : CheckEngine} {c : Chan} (h : c ∈ (v.select k).judged) :
    k.sweep.getLsbD c.val = true := by
  have turn : c ∈ (channelsOf k.sweep).takeWhile (fun c => !v.ready c) → k.sweep.getLsbD c.val = true := fun h =>
    (List.mem_filter.mp ((List.takeWhile_sublist _).mem h)).2
  unfold ArbiterView.select at h
  split at h
  · cases h
  · split at h
    · cases h
    · dsimp only at h
      split at h
      · exact turn h
      · split at h
        · exact turn h
        · exact turn h

theorem ArbiterView.automatic_ready {v : ArbiterView} {c : Chan} (h : v.automatic c = true) : v.ready c = true := by
  simp only [ArbiterView.automatic, Bool.and_eq_true] at h
  exact h.2

/-- The due choice is a due candidate. -/
theorem ArbiterView.due_candidate {v : ArbiterView} {c : Chan} (h : v.due = some c) : v.dueCandidate c = true := by
  unfold ArbiterView.due at h
  refine List.foldlRecOn (motive := fun best => ∀ d, best = some d → v.dueCandidate d = true) _ _ (by simp)
    (fun best hb c _ d hd => ?_) c h
  split at hd
  · rename_i hc
    split at hd
    · split at hd
      · cases hd; exact hc
      · exact hb d hd
    · cases hd; exact hc
  · exact hb d hd

/-- The chosen channel is ready: it and its sharers are LIVE for the opening slice. -/
theorem ArbiterView.select_chosen {v : ArbiterView} {k : CheckEngine} {c : Chan} {kind : CheckKind}
    (h : (v.select k).chosen = some (c, kind)) : v.ready c = true := by
  unfold ArbiterView.select at h
  split at h
  · cases h
  · split at h
    · rename_i d hd
      cases h
      have := List.find?_some hd
      simp only [Bool.and_eq_true] at this
      exact ArbiterView.automatic_ready this.1
    · dsimp only at h
      split at h
      · rename_i d l hd
        cases h
        have := List.head?_dropWhile_not (fun c => !v.ready c) (channelsOf k.sweep)
        rw [hd] at this
        simpa using this
      · split at h
        · rename_i d hd
          cases h
          have := ArbiterView.due_candidate hd
          simp only [ArbiterView.dueCandidate, Bool.and_eq_true] at this
          exact ArbiterView.automatic_ready this.1.1.1
        · obtain ⟨d, hd, he⟩ := Option.map_eq_some_iff.mp h
          cases he
          have := List.find?_some hd
          simp only [Bool.and_eq_true] at this
          exact ArbiterView.automatic_ready this.1.1.1

theorem ArbiterView.ready_live {v : ArbiterView} {c d : Chan} (h : v.ready c = true)
    (hd : d = c ∨ (sharers v.map c).getLsbD d.val = true) : v.live[d] = true := by
  simp only [ArbiterView.ready, Bool.and_eq_true, List.all_eq_true] at h
  obtain ⟨hc, hs⟩ := h
  rcases hd with rfl | hd
  · exact hc
  · have := hs d (List.mem_finRange d)
    rw [hd] at this
    simpa using this

/-- A channel that a selection hands a start is LIVE as the turn leaves it. -/
theorem State.selection_starts {s : State} {b : Bool} {c : Chan}
    (h : (s.selection b).starts (s.opening b).router.active c = true) : (s.turnedChannel b c).cond.state = .live := by
  unfold Selection.starts at h
  split at h
  · rename_i d kind hd
    unfold State.selection at hd
    have hlive := ArbiterView.ready_live (d := c) (ArbiterView.select_chosen hd) (by
      rw [State.arbiterView, State.started_router]
      simpa only [Bool.or_eq_true, decide_eq_true_eq, eq_comm (a := c)] using h)
    rw [← State.started_channels]
    simpa [State.arbiterView] using hlive
  · cases h

/-- A channel that a selection judges on the way is one of the sweep. -/
theorem State.selection_judged {s : State} {b : Bool} {c : Chan} (h : c ∈ (s.selection b).judged) :
    (s.resolved b).engine.sweep.getLsbD c.val = true := by
  unfold State.selection at h
  rw [← State.started_check]
  exact ArbiterView.select_judged h

/-- While the check is in progress nothing is selected. -/
theorem State.selection_busy {s : State} {b : Bool} (h : (s.resolved b).engine.busy = true) :
    s.selection b = { judged := [], chosen := none } := by
  rw [← State.started_check] at h
  unfold State.selection
  exact ArbiterView.select_busy _ h

/-! ### What the arbiter leaves of a channel -/

/-- A result of "state" moves the record and the retry delay alone. -/
theorem CheckAccount.result_incomplete (a : CheckAccount) {r : CheckRecord} (h : r.code = .incomplete) :
    a.result r = { a with record := some r, retry := 60 } := by
  simp only [CheckAccount.result, h]

section
variable (ch : Channel) (o : Order) (b : Bool) (m : ChannelMap) (x : Selection) (n : Nat) (c : Chan)

/-- A selection moves a channel's request and account alone. -/
theorem Channel.afterSelection_frame : ch.afterSelection o b m x n c =
    { ch with
      cond := { ch.cond with request := if x.starts m c then .startHeld else ch.cond.request }
      account := (ch.afterSelection o b m x n c).account } := rfl

/-- Of the account it moves the record and the retry delay alone, of the channels judged on the way (R141). -/
theorem Channel.afterSelection_account : (ch.afterSelection o b m x n c).account =
    { ch.account with
      record := (ch.afterSelection o b m x n c).account.record
      retry := (ch.afterSelection o b m x n c).account.retry } := by
  unfold Channel.afterSelection
  dsimp only
  rw [CheckAccount.result_incomplete _ rfl]
  split
  · split
    · rcases either_cases (o.yes (.resultBeforeTimers c))
        { ch.account with record := some (CheckRecord.incomplete .state n .manual), retry := 60 }.tickRetry
        { ch.account with record := some (CheckRecord.incomplete .state n .manual), retry := 60 } with h | h
      · rw [h]; rfl
      · rw [h]
    · rfl
  · rfl

theorem Channel.afterSelection_unjudged (h : c ∉ x.judged) :
    (ch.afterSelection o b m x n c).account = ch.account := by
  simp [Channel.afterSelection, h]

end

/-! ### The check at a boundary (R133 to R139) -/

theorem removeChannel_getLsbD (s : ChanSet) (c d : Chan) :
    (removeChannel s c).getLsbD d.val = (s.getLsbD d.val && decide (d ≠ c)) := by
  have hd := d.isLt
  rw [removeChannel, BitVec.getLsbD_and, BitVec.getLsbD_not, BitVec.getLsbD_shiftLeft]
  rcases lt_trichotomy d.val c.val with h | h | h
  · have : d ≠ c := fun e => by rw [e] at h; exact lt_irrefl _ h
    simp [h, this]
  · simp [Fin.ext_iff, h]
  · have : d ≠ c := fun e => by rw [e] at h; exact lt_irrefl _ h
    have hz : (1#16).getLsbD (d.val - c.val) = false := by
      rw [BitVec.getLsbD_one]; simp; omega
    simp [hz, this]

/-- A result takes at most its channel out of the sweep, and moves nothing else but the summary (R137). -/
theorem CheckEngine.sweepResult_frame (k : CheckEngine) (c : Chan) (r : CheckRecord) : k.sweepResult c r =
    { k with sweep := (k.sweepResult c r).sweep, summary := (k.sweepResult c r).summary } := by
  unfold CheckEngine.sweepResult
  split <;> rfl

theorem CheckEngine.sweepResult_sweep (k : CheckEngine) (c : Chan) (r : CheckRecord) (d : Chan) :
    (k.sweepResult c r).sweep.getLsbD d.val = (k.sweep.getLsbD d.val && !(decide (r.kind = .manual) && decide (d = c))) := by
  unfold CheckEngine.sweepResult
  split
  · rename_i h
    dsimp only
    rw [removeChannel_getLsbD, h]
    simp
  · rename_i h
    simp [h]

/-- A phase's slice moves the phase alone. -/
theorem CheckEngine.takePhase_frame (k : CheckEngine) (r : SliceRecord) (slot : Fin 64) : (k.takePhase r slot).1 =
    { k with
      stage := (k.takePhase r slot).1.stage, phaseSlices := (k.takePhase r slot).1.phaseSlices
      preSum := (k.takePhase r slot).1.preSum, preOverload := (k.takePhase r slot).1.preOverload
      measureSum := (k.takePhase r slot).1.measureSum, measureOverload := (k.takePhase r slot).1.measureOverload
      drive := (k.takePhase r slot).1.drive } := by
  unfold CheckEngine.takePhase
  dsimp only
  split
  · split <;> rfl
  · split <;> rfl
  · rfl
  · rfl

section
variable (k : CheckEngine) (record : Chan → Option SliceRecord) (old new : ChannelMap) (disturbed : Chan → Bool) (second : Nat)

variable {c : Chan}

theorem CheckEngine.atBoundary_none (h : k.channel = none) :
    k.atBoundary record old new disturbed second = .quiet k := by
  simp only [CheckEngine.atBoundary, h]

/-- In STARTING a commit ends the check, its starts withdrawn, or nothing does yet. -/
theorem CheckEngine.atBoundary_starting (h : k.channel = some c) (hs : k.stage = .starting) :
    k.atBoundary record old new disturbed second =
      if k.commitEnds c old new disturbed then
        .ended k c (CheckRecord.incomplete .commit second k.kind) 0 (k.involvedSet fun _ => true)
      else .quiet k := by
  simp only [CheckEngine.atBoundary, h, hs]

/-- ENDING becomes IDLE. -/
theorem CheckEngine.atBoundary_ending (h : k.channel = some c) (hs : k.stage = .ending) :
    k.atBoundary record old new disturbed second = .quiet k.toIdle := by
  simp only [CheckEngine.atBoundary, h, hs]

/-- The stages in which a check takes slices. -/
def CheckEngine.takes (k : CheckEngine) : Prop := k.stage = .pre ∨ k.stage = .establish ∨ k.stage = .measure

/-- Without a CHECKING record of its channel the check takes no slice: a commit ends it, or it stands. -/
theorem CheckEngine.atBoundary_unrecorded (h : k.channel = some c) (hs : k.takes)
    (hr : (record c).filter (fun r => decide (r.takenIn = .checking)) = none) :
    k.atBoundary record old new disturbed second =
      if k.commitEnds c old new disturbed then
        .ended k c (CheckRecord.incomplete .commit second k.kind) (k.involvedSet fun d => !disturbed d) 0
      else .quiet k := by
  rcases hs with hs | hs | hs <;> simp only [CheckEngine.atBoundary, h, hs, hr]

/-- A CHECKING record of its channel without data where they count ends it; else a commit does; else its phase takes the
record, and the 18th slice has it judged. -/
theorem CheckEngine.atBoundary_recorded {r : SliceRecord} (h : k.channel = some c) (hs : k.takes)
    (hr : record c = some r) (ht : r.takenIn = .checking) :
    k.atBoundary record old new disturbed second =
      if k.losesData r then
        .ended k c (CheckRecord.incomplete .data second k.kind) (k.involvedSet fun _ => true) 0
      else if k.commitEnds c old new disturbed then
        .ended k c (CheckRecord.incomplete .commit second k.kind) (k.involvedSet fun d => !disturbed d) 0
      else
        let t := k.takePhase r old.channels[c].sourceSlot
        if t.2.2 then .ended t.1 c (t.1.judge old.channels[c] second) (k.involvedSet fun _ => true) 0
        else { CheckClose.quiet t.1 with cells := t.2.1 } := by
  have hf : (record c).filter (fun r => decide (r.takenIn = .checking)) = some r := by
    rw [hr]; simp [Option.filter, ht]
  rcases hs with hs | hs | hs <;> simp only [CheckEngine.atBoundary, h, hs, hf]

end

/-- A check that goes on, or becomes IDLE, without a result. -/
structure CheckClose.Undecided (x : CheckClose) (k : CheckEngine) : Prop where
  decided : x.decided = none
  channel : x.engine.channel = k.channel ∨ x.engine.channel = none
  sweep : x.engine.sweep = k.sweep

theorem CheckClose.Undecided.of_quiet (k : CheckEngine) : (CheckClose.quiet k).Undecided k := ⟨rfl, .inl rfl, rfl⟩

/-- A check of a channel that ends with a result: INCOMPLETE, unless the channel has a record. -/
def CheckClose.Ends (x : CheckClose) (k : CheckEngine) (c : Chan) (recorded : Prop) : Prop :=
  ∃ k' r ends withdrawn, x = .ended k' c r ends withdrawn ∧ k'.sweep = k.sweep ∧ (r.code = .incomplete ∨ recorded)

/-- At a boundary a check in progress goes on, undecided, or ends with a result; one without a record of its channel ends
INCOMPLETE if at all. -/
theorem CheckEngine.atBoundary_cases {k : CheckEngine} {c : Chan} (h : k.channel = some c)
    (record : Chan → Option SliceRecord) (old new : ChannelMap) (disturbed : Chan → Bool) (second : Nat) :
    (k.atBoundary record old new disturbed second).Undecided k
      ∨ (k.atBoundary record old new disturbed second).Ends k c (record c ≠ none) := by
  have unrecorded (hs : k.takes) (hr : (record c).filter (fun r => decide (r.takenIn = .checking)) = none) :
      (k.atBoundary record old new disturbed second).Undecided k
        ∨ (k.atBoundary record old new disturbed second).Ends k c (record c ≠ none) := by
    rw [CheckEngine.atBoundary_unrecorded k record old new disturbed second h hs hr]
    split
    · exact .inr ⟨k, _, _, _, rfl, rfl, .inl rfl⟩
    · exact .inl (.of_quiet k)
  have taken (hs : k.takes) : (k.atBoundary record old new disturbed second).Undecided k
      ∨ (k.atBoundary record old new disturbed second).Ends k c (record c ≠ none) := by
    obtain hr | ⟨r, hr⟩ := Option.eq_none_or_eq_some (record c)
    · exact unrecorded hs (by rw [hr]; rfl)
    · by_cases ht : r.takenIn = .checking
      · rw [CheckEngine.atBoundary_recorded k record old new disturbed second h hs hr ht]
        split
        · exact .inr ⟨k, _, _, _, rfl, rfl, .inl rfl⟩
        · split
          · exact .inr ⟨k, _, _, _, rfl, rfl, .inl rfl⟩
          · have hframe := k.takePhase_frame r old.channels[c].sourceSlot
            dsimp only
            split
            · exact .inr ⟨_, _, _, _, rfl, by rw [hframe], .inr (by simp [hr])⟩
            · exact .inl ⟨rfl, .inl (by simp only [CheckClose.quiet]; rw [hframe]),
                by simp only [CheckClose.quiet]; rw [hframe]⟩
      · exact unrecorded hs (by rw [hr]; simp [Option.filter, ht])
  cases hs : k.stage with
  | idle =>
    have : k.atBoundary record old new disturbed second = .quiet k := by simp only [CheckEngine.atBoundary, h, hs]
    exact .inl (by rw [this]; exact .of_quiet k)
  | starting =>
    rw [CheckEngine.atBoundary_starting k record old new disturbed second h hs]
    split
    · exact .inr ⟨k, _, _, _, rfl, rfl, .inl rfl⟩
    · exact .inl (.of_quiet k)
  | ending =>
    rw [CheckEngine.atBoundary_ending k record old new disturbed second h hs]
    exact .inl ⟨rfl, .inr rfl, rfl⟩
  | pre => exact taken (.inl hs)
  | establish => exact taken (.inr (.inl hs))
  | measure => exact taken (.inr (.inr hs))

/-- Once the states are decided, a check in STARTING goes on or ends INCOMPLETE, the taken starts handed an end; any other
stands (R133). -/
theorem CheckEngine.resolveStart_cases (k : CheckEngine) (taken : Chan → Bool) (second : Nat) :
    ((k.resolveStart taken second).Undecided k ∧ (k.resolveStart taken second).ends = 0)
      ∨ ∃ c, k.channel = some c ∧ (k.resolveStart taken second).decided = some (c, CheckRecord.incomplete .state second k.kind)
        ∧ (k.resolveStart taken second).ends = k.involvedSet taken
        ∧ (k.resolveStart taken second).engine = { k with stage := .ending }.sweepResult c
            (CheckRecord.incomplete .state second k.kind) := by
  unfold CheckEngine.resolveStart
  split
  · rename_i c _ hc
    split
    · exact .inl ⟨⟨rfl, .inl rfl, rfl⟩, rfl⟩
    · exact .inr ⟨c, hc, rfl, rfl, rfl⟩
  · exact .inl ⟨.of_quiet k, rfl⟩

theorem CheckEngine.resolveStart_withdrawn (k : CheckEngine) (taken : Chan → Bool) (second : Nat) :
    (k.resolveStart taken second).withdrawn = 0 := by
  unfold CheckEngine.resolveStart
  split
  · split <;> rfl
  · rfl

/-! ### The result of a boundary -/

theorem State.closing_none {s : State} (h : s.check.channel = none) (b : Bool) : s.closing b = .quiet s.check := by
  rw [State.closing]
  exact CheckEngine.atBoundary_none _ _ _ _ _ _ h

theorem State.closing_cases {s : State} {c : Chan} (h : s.check.channel = some c) (b : Bool) :
    (s.closing b).Undecided s.check ∨ (s.closing b).Ends s.check c (s.closedSlices[c] ≠ none) := by
  rw [State.closing]
  exact CheckEngine.atBoundary_cases h _ _ _ _ _

/-- A result at a boundary is one of the channel under check; without a slice in progress it is INCOMPLETE. -/
theorem State.decidedAt_some {s : State} {b : Bool} {d : Chan} {r : CheckRecord} (h : s.decidedAt b = some (d, r)) :
    s.check.channel = some d ∧ (r.code = .incomplete ∨ s.closedSlices[d] ≠ none) := by
  have resolved : (s.resolved b).decided = some (d, r) → (s.closing b).engine.channel = some d ∧ r.code = .incomplete := by
    intro hr
    rcases (s.closing b).engine.resolveStart_cases (fun c => decide (s.rowAt b c = .checkStart))
      (s.opening b).time.runningSecond with ⟨hu, _⟩ | ⟨c, hc, hd, _⟩
    · rw [State.resolved, hu.decided] at hr; cases hr
    · rw [State.resolved, hd] at hr
      cases hr
      exact ⟨hc, rfl⟩
  cases hc : s.check.channel with
  | none =>
    rw [State.decidedAt, State.closing_none hc] at h
    rw [State.closing_none hc] at resolved
    have := (resolved h).1
    rw [show (CheckClose.quiet s.check).engine.channel = s.check.channel from rfl, hc] at this
    cases this
  | some c =>
    rcases State.closing_cases hc b with hu | ⟨k', r', ends, withdrawn, he, _, hcode⟩
    · rw [State.decidedAt, hu.decided] at h
      obtain ⟨hd, hi⟩ := resolved h
      refine ⟨?_, .inl hi⟩
      rcases hu.channel with h' | h' <;> rw [h'] at hd
      · rw [← hc, hd]
      · cases hd
    · rw [State.decidedAt, he] at h
      cases h
      exact ⟨rfl, hcode⟩

/-- Nor does a boundary add a channel to the sweep before the arbiter. -/
theorem State.resolved_sweep {s : State} {b : Bool} {d : Chan} (h : (s.resolved b).engine.sweep.getLsbD d.val = true) :
    s.check.sweep.getLsbD d.val = true := by
  have closing : (s.closing b).engine.sweep.getLsbD d.val = true → s.check.sweep.getLsbD d.val = true := by
    cases hc : s.check.channel with
    | none => rw [State.closing_none hc]; exact id
    | some c =>
      rcases State.closing_cases hc b with hu | ⟨k', r', ends, withdrawn, he, hk, _⟩
      · rw [hu.sweep]; exact id
      · rw [he]
        intro hs
        change (k'.toIdle.sweepResult c r').sweep.getLsbD d.val = true at hs
        rw [CheckEngine.sweepResult_sweep, Bool.and_eq_true] at hs
        rw [← hk]
        exact hs.1
  rcases (s.closing b).engine.resolveStart_cases (fun c => decide (s.rowAt b c = .checkStart))
    (s.opening b).time.runningSecond with ⟨hu, _⟩ | ⟨c, _, _, _, he⟩
  · rw [State.resolved, hu.sweep] at h; exact closing h
  · rw [State.resolved, he, CheckEngine.sweepResult_sweep, Bool.and_eq_true] at h
    exact closing h.1

/-- After the states only starts that were taken are handed an end. -/
theorem State.resolved_ends {s : State} {b : Bool} {d : Chan} (h : (s.resolved b).ends.getLsbD d.val = true) :
    s.rowAt b d = .checkStart := by
  rcases (s.closing b).engine.resolveStart_cases (fun c => decide (s.rowAt b c = .checkStart))
    (s.opening b).time.runningSecond with ⟨_, he⟩ | ⟨c, _, _, he, _⟩
  · rw [State.resolved, he] at h; simp at h
  · rw [State.resolved, he, involvedSet_getLsbD, Bool.and_eq_true, decide_eq_true_eq] at h
    exact h.2

theorem State.resolved_withdrawn (s : State) (b : Bool) : (s.resolved b).withdrawn = 0 := by
  rw [State.resolved]
  exact CheckEngine.resolveStart_withdrawn ..

end Sys2Proof.Machine
end

section
/-! SUPPORT. A channel at a boundary: its row of R48, its condition, second, ring and account; O39 (R11 to R13, R22, R40, R48,
R84, R85, R140 to R142). -/
namespace Sys2Proof.Machine

/-! ### The row of R48 -/

theorem State.closedSlices_get (s : State) (c : Chan) : s.closedSlices[c] = s.channels[c].slice.map fun sl =>
    sl.close s.time.runningSecond s.time.sliceIndex s.router.active.channels[c] := by
  simp [State.closedSlices]

/-- A channel's condition with the closing slice counted and the check's requests handed. -/
@[irreducible] def State.counted (s : State) (b : Bool) (c : Chan) : Condition :=
  countedCondition c s.channels[c].cond s.closedSlices[c] (s.closing b)

theorem State.rowAt_eq (s : State) (b : Bool) (c : Chan) : s.rowAt b c =
    decideRow (s.disturbed (s.opening b) c) (s.closedSlices[c].map (·.takenIn))
      s.router.active.channels[c].absentIntegration.slices
      (s.control.restarted && (s.opening b).router.active.channels[c].enabled) (s.counted b c) := by
  simp [State.rowAt, State.rows, State.counted]

/-- Rows 1 to 4 come first. -/
theorem State.rowAt_disturbed {s : State} {b : Bool} {c : Chan} {r : Row} (h : s.disturbed (s.opening b) c = some r) :
    s.rowAt b c = r := by
  rw [State.rowAt_eq, h]; rfl

/-- The other rows neither clear the ring nor empty the second. -/
theorem decideRow_undisturbed (t : Option ChannelState) (n : Nat) (restart : Bool) (c : Condition) :
    (decideRow none t n restart c).clearsRing = false ∧ (decideRow none t n restart c).emptiesSecond = false
      ∧ decideRow none t n restart c ≠ .disabled := by
  unfold decideRow
  dsimp only
  split_ifs <;> exact ⟨rfl, rfl, by decide⟩

theorem State.rowAt_undisturbed {s : State} {b : Bool} {c : Chan} (h : s.disturbed (s.opening b) c = none) :
    (s.rowAt b c).clearsRing = false ∧ (s.rowAt b c).emptiesSecond = false ∧ s.rowAt b c ≠ .disabled := by
  rw [State.rowAt_eq, h]
  exact decideRow_undisturbed _ _ _ _

/-- A channel without a slice that nothing disturbs keeps its state, short of a RESTART. -/
theorem State.rowAt_unsliced {s : State} {b : Bool} {c : Chan} (h : s.disturbed (s.opening b) c = none)
    (hs : s.channels[c].slice = none) (hr : s.control.restarted = false) : s.rowAt b c = .kept := by
  rw [State.rowAt_eq, h, State.closedSlices_get, hs, hr]
  simp [decideRow]

/-! ### What a row does to a channel -/

theorem Condition.apply_state (k : Condition) (r : Row) (t : Option ChannelState) (p : Nat × Nat) :
    (k.apply r t p).state = r.state k.state := by cases r <;> rfl

theorem Condition.count_state (k : Condition) (r : SliceRecord) : (k.count r).state = k.state := by
  unfold Condition.count
  split
  · split <;> rfl
  all_goals rfl

@[simp] theorem Channel.takeSecond_slice (ch : Channel) (x : Option ChannelSecond) : (ch.takeSecond x).slice = ch.slice := by
  cases x <;> rfl
@[simp] theorem Channel.takeSecond_cond (ch : Channel) (x : Option ChannelSecond) : (ch.takeSecond x).cond = ch.cond := by
  cases x <;> rfl
@[simp] theorem Channel.takeSecond_account (ch : Channel) (x : Option ChannelSecond) :
    (ch.takeSecond x).account = ch.account := by cases x <;> rfl
@[simp] theorem Channel.takeSecond_levelPath (ch : Channel) (x : Option ChannelSecond) :
    (ch.takeSecond x).levelPath = ch.levelPath := by cases x <;> rfl
@[simp] theorem Channel.takeSecond_peakPath (ch : Channel) (x : Option ChannelSecond) :
    (ch.takeSecond x).peakPath = ch.peakPath := by cases x <;> rfl
@[simp] theorem Channel.takeSecond_latestSlice (ch : Channel) (x : Option ChannelSecond) :
    (ch.takeSecond x).latestSlice = ch.latestSlice := by cases x <;> rfl

theorem Channel.takeSecond_forming (ch : Channel) (x : Option ChannelSecond) :
    (ch.takeSecond x).forming = x.elim ch.forming fun _ => some SecondForming.empty := by cases x <;> rfl
theorem Channel.takeSecond_latestSecond (ch : Channel) (x : Option ChannelSecond) :
    (ch.takeSecond x).latestSecond = x.elim ch.latestSecond some := by cases x <;> rfl
theorem Channel.takeSecond_ring (ch : Channel) (x : Option ChannelSecond) :
    (ch.takeSecond x).ring = x.elim ch.ring fun x => enterRing x.entry ch.ring := by cases x <;> rfl

/-- A channel with the record of its closing slice, if it has one. -/
def Channel.recorded (ch : Channel) (x : Option SliceRecord) : Channel := x.elim ch ch.takeRecord

theorem Channel.recorded_frame (ch : Channel) (x : Option SliceRecord) : ch.recorded x =
    { ch with
      latestSlice := (ch.recorded x).latestSlice, forming := x.elim ch.forming fun r => ch.forming.map (·.take r)
      cond := x.elim ch.cond ch.cond.count } := by
  cases x <;> rfl

section
variable (s : State) (o : Order) (b : Bool) (op : Opening) (x1 x2 : CheckClose) (t : ChannelTurn) (c : Chan)

/-- The condition that a channel's row meets: the closing slice counted, the requests handed, the result judged. -/
def State.metCondition : Condition :=
  let k := t.record.elim s.channels[c].cond s.channels[c].cond.count
  { k with
    request := requestAfter x1.ends x1.withdrawn c k.request
    suspect := t.result.elim k.suspect fun r => suspectAfter r.code k.suspect }

/-- A channel at a boundary: its record taken, its second closed, its row applied, and the requests of the states handed. -/
theorem State.channelAtBoundary_eq : s.channelAtBoundary o b op x1 x2 t c =
    (let a := (({ s.channels[c].recorded t.record with
        cond := s.metCondition x1 t c, account := (s.accountAtBoundary o b op t c).1 } : Channel).takeSecond t.closed).apply t.row
      (t.record.map (·.takenIn)) (op.time.runningSecond, op.time.sliceIndex) (decide (op.time.link = .holdOver)) op.time.held
      s.trunk.lastSent[op.router.active.channels[c].sourceSlot]
    { a with cond := { a.cond with request := requestAfter x2.ends x2.withdrawn c a.cond.request } }) := by
  obtain ⟨record, row, result, closed⟩ := t
  cases record <;> cases result <;> rfl

end

theorem State.channelTurn_closed (s : State) (b : Bool) (records : Vector (Option SliceRecord) 16) (rows : Vector Row 16)
    (decided : Option (Chan × CheckRecord)) (c : Chan) : (s.channelTurn b records rows decided c).closed =
      closingSecond b rows[c] (records[c].elim s.channels[c].forming fun r => s.channels[c].forming.map (·.take r))
        s.time.runningSecond := by
  unfold State.channelTurn
  dsimp only
  cases records[c] <;> rfl

/-! ### The channel a turn leaves -/

section
variable (s : State) (b : Bool) (c : Chan)

theorem State.turnAt_record : (s.turnAt b c).record = s.closedSlices[c] := by rw [State.turnAt]; rfl
theorem State.turnAt_row : (s.turnAt b c).row = s.rowAt b c := by rw [State.turnAt, State.rowAt]; rfl
theorem State.turnAt_result : (s.turnAt b c).result = resultFor c (s.decidedAt b) := by rw [State.turnAt]; rfl
theorem State.turnAt_closed : (s.turnAt b c).closed = closingSecond b (s.rowAt b c)
    (s.closedSlices[c].elim s.channels[c].forming fun r => s.channels[c].forming.map (·.take r)) s.time.runningSecond := by
  rw [State.turnAt, State.channelTurn_closed, State.rowAt]

end

/-- The second that closes for a channel at a boundary. -/
@[irreducible] def State.closedSecond (s : State) (b : Bool) (c : Chan) : Option ChannelSecond := (s.turnAt b c).closed

/-- The account of a channel at a boundary, before its row. -/
@[irreducible] def State.accountAt (s : State) (b : Bool) (c : Chan) : CheckAccount × Bool :=
  s.accountAtBoundary (Config.order s.choices) b (s.opening b) (s.turnAt b c) c

/-- The condition a channel's row meets. -/
@[irreducible] def State.metAt (s : State) (b : Bool) (c : Chan) : Condition := s.metCondition (s.closing b) (s.turnAt b c) c

/-- A channel as its row meets it. -/
@[irreducible] def State.metChannel (s : State) (b : Bool) (c : Chan) : Channel :=
  ({ s.channels[c].recorded s.closedSlices[c] with
      cond := s.metAt b c, account := (s.accountAt b c).1 } : Channel).takeSecond (s.closedSecond b c)

/-- The channel of a turn: its row applied to the channel as it meets it, then the requests of the states. -/
theorem State.turnedChannel_eq (s : State) (b : Bool) (c : Chan) : s.turnedChannel b c =
    (let op := s.opening b
     let a := (s.metChannel b c).apply (s.rowAt b c) (s.closedSlices[c].map (·.takenIn))
      (op.time.runningSecond, op.time.sliceIndex) (decide (op.time.link = .holdOver)) op.time.held
      s.trunk.lastSent[op.router.active.channels[c].sourceSlot]
    { a with cond := { a.cond with
        request := requestAfter (s.resolved b).ends (s.resolved b).withdrawn c a.cond.request } }) := by
  rw [State.turnedChannel, State.channelAtBoundary_eq, State.turnAt_record, State.turnAt_row, State.metChannel, State.metAt,
    State.accountAt, State.closedSecond]

theorem State.metCondition_state (s : State) (x : CheckClose) (t : ChannelTurn) (c : Chan) :
    (s.metCondition x t c).state = s.channels[c].cond.state := by
  obtain ⟨record, row, result, closed⟩ := t
  cases record with
  | none => rfl
  | some r => exact Condition.count_state _ r

section
variable (s : State) (b : Bool) (c : Chan)

theorem State.turnedChannel_state :
    (s.turnedChannel b c).cond.state = (s.rowAt b c).state s.channels[c].cond.state := by
  rw [State.turnedChannel_eq]
  simp only [Channel.apply, Condition.apply_state, State.metChannel, Channel.takeSecond_cond, State.metAt,
    State.metCondition_state]

theorem State.turnedChannel_levelPath : (s.turnedChannel b c).levelPath =
    if (s.rowAt b c).settles then PathState.zero else s.channels[c].levelPath := by
  rw [State.turnedChannel_eq]
  simp only [Channel.apply, State.metChannel, Channel.takeSecond_levelPath]
  rw [Channel.recorded_frame]

theorem State.turnedChannel_peakPath : (s.turnedChannel b c).peakPath =
    if (s.rowAt b c).settles then PathState.zero else s.channels[c].peakPath := by
  rw [State.turnedChannel_eq]
  simp only [Channel.apply, State.metChannel, Channel.takeSecond_peakPath]
  rw [Channel.recorded_frame]

theorem State.turnedChannel_slice : (s.turnedChannel b c).slice =
    if (s.turnedChannel b c).cond.state = .off then none
    else some (Slice.opening (s.turnedChannel b c).cond.state (decide ((s.opening b).time.link = .holdOver))
      (s.opening b).time.held) := by
  rw [State.turnedChannel_state, State.turnedChannel_eq]
  simp only [Channel.apply, Condition.apply_state, State.metChannel, Channel.takeSecond_cond, State.metAt,
    State.metCondition_state]

theorem State.turnedChannel_latestSlice : (s.turnedChannel b c).latestSlice =
    if s.rowAt b c = .disabled then none else (s.channels[c].recorded s.closedSlices[c]).latestSlice := by
  rw [State.turnedChannel_eq]
  simp only [Channel.apply, State.metChannel, Channel.takeSecond_latestSlice]

theorem State.turnedChannel_forming : (s.turnedChannel b c).forming = formingAfter (s.rowAt b c)
    ((s.closedSecond b c).elim (s.channels[c].recorded s.closedSlices[c]).forming fun _ => some SecondForming.empty) := by
  rw [State.turnedChannel_eq]
  simp only [Channel.apply, State.metChannel, Channel.takeSecond_forming]

theorem State.turnedChannel_latestSecond : (s.turnedChannel b c).latestSecond =
    if (s.rowAt b c).clearsRing then none else (s.closedSecond b c).elim s.channels[c].latestSecond some := by
  rw [State.turnedChannel_eq]
  simp only [Channel.apply, State.metChannel, Channel.takeSecond_latestSecond]
  rw [Channel.recorded_frame]

theorem State.turnedChannel_ring : (s.turnedChannel b c).ring =
    if (s.rowAt b c).clearsRing then []
    else (s.closedSecond b c).elim s.channels[c].ring fun x => enterRing x.entry s.channels[c].ring := by
  rw [State.turnedChannel_eq]
  simp only [Channel.apply, State.metChannel, Channel.takeSecond_ring]
  rw [Channel.recorded_frame]

theorem State.turnedChannel_account : (s.turnedChannel b c).account =
    if (s.rowAt b c).emptiesSecond then { (s.accountAt b c).1 with quiet := 0 } else (s.accountAt b c).1 := by
  rw [State.turnedChannel_eq]
  simp only [Channel.apply, State.metChannel, Channel.takeSecond_account]

theorem State.turnedChannel_cond : (s.turnedChannel b c).cond =
    (let k := (s.metAt b c).apply (s.rowAt b c) (s.closedSlices[c].map (·.takenIn))
      ((s.opening b).time.runningSecond, (s.opening b).time.sliceIndex)
    { k with request := requestAfter (s.resolved b).ends (s.resolved b).withdrawn c k.request }) := by
  rw [State.turnedChannel_eq]
  simp only [Channel.apply, State.metChannel, Channel.takeSecond_cond]

/-- At a second boundary a channel's second closes unless its row empties it (R40, R85). -/
theorem State.closedSecond_true : s.closedSecond true c =
    if (s.rowAt true c).emptiesSecond then none
    else (s.channels[c].recorded s.closedSlices[c]).forming.map (·.close s.time.runningSecond) := by
  have hforming : (s.channels[c].recorded s.closedSlices[c]).forming = s.closedSlices[c].elim s.channels[c].forming
      fun r => s.channels[c].forming.map (·.take r) := by rw [Channel.recorded_frame]
  rw [hforming, State.closedSecond, State.turnAt_closed, closingSecond, Bool.true_and]
  cases (s.rowAt true c).emptiesSecond with
  | true => simp
  | false => cases s.closedSlices[c] <;> simp

/-- No second closes at a slice boundary. -/
theorem State.closedSecond_false : s.closedSecond false c = none := by
  rw [State.closedSecond, State.turnAt_closed]; rfl

end

/-! ### The check account at a second boundary (R140 to R142) -/

/-- Whatever orders are drawn, the account takes its causes in one of the eight. -/
theorem CheckAccount.atSecond_cases (a : CheckAccount) (o : Order) (c : Chan) (mode : Mode) (old new : ChannelEntry)
    (result : Option CheckRecord) (cs : Option ChannelSecond) : ∃ x y z,
      a.atSecond o c mode old new result cs = a.secondInOrder mode old new result cs x y z := by
  have at2 (x y : Bool) : ∃ z, either (o.yes (.resetBeforeResult c)) (a.secondInOrder mode old new result cs x y true)
      (a.secondInOrder mode old new result cs x y false) = a.secondInOrder mode old new result cs x y z :=
    (either_cases ..).elim (fun h => ⟨_, h⟩) fun h => ⟨_, h⟩
  unfold CheckAccount.atSecond
  dsimp only
  obtain ⟨z1, h1⟩ := at2 true true
  obtain ⟨z2, h2⟩ := at2 true false
  obtain ⟨z3, h3⟩ := at2 false true
  obtain ⟨z4, h4⟩ := at2 false false
  rw [h1, h2, h3, h4]
  have at1 (x : Bool) (p q : Bool) : ∃ y z, either (o.yes (.resultBeforeTimers c)) (a.secondInOrder mode old new result cs x true p)
      (a.secondInOrder mode old new result cs x false q) = a.secondInOrder mode old new result cs x y z :=
    (either_cases ..).elim (fun h => ⟨_, _, h⟩) fun h => ⟨_, _, h⟩
  obtain ⟨y1, w1, h1⟩ := at1 true z1 z2
  obtain ⟨y2, w2, h2⟩ := at1 false z3 z4
  rw [h1, h2]
  exact (either_cases ..).elim (fun h => ⟨_, _, _, h⟩) fun h => ⟨_, _, _, h⟩

/-- What a second boundary's count does to an account: the timer and the balance by the timer's expiry, the retry delay, and
the quiet run by the second that closes. -/
theorem CheckAccount.countSecond_eq (a : CheckAccount) (mode : Mode) (old now : ChannelEntry) (cs : Option ChannelSecond) :
    a.countSecond mode old now cs =
      ({ a with
          balance := (a.tickTimer now (timerRuns mode now)).1.balance
          timer := (a.tickTimer now (timerRuns mode now)).1.timer
          retry := a.retry - 1
          quiet := cs.elim a.quiet fun x => (a.quietSecond old.quietLevel x).quiet },
        (a.tickTimer now (timerRuns mode now)).2) := by
  have hquiet : ∀ (d : CheckAccount) (x : ChannelSecond), d.quiet = a.quiet →
      d.quietSecond old.quietLevel x = { d with quiet := (a.quietSecond old.quietLevel x).quiet } := fun d x hd => by
    unfold CheckAccount.quietSecond
    rw [hd]
    split
    · split <;> rfl
    · rfl
  have htick : (a.tickTimer now (timerRuns mode now)).1 = { a with
      balance := (a.tickTimer now (timerRuns mode now)).1.balance
      timer := (a.tickTimer now (timerRuns mode now)).1.timer } := by
    unfold CheckAccount.tickTimer
    split
    · split <;> rfl
    · rfl
  unfold CheckAccount.countSecond
  dsimp only
  rw [htick]
  cases cs with
  | none => rfl
  | some x => exact congrArg (·, _) (hquiet _ x rfl)

theorem CheckAccount.tickTimer_stopped (a : CheckAccount) (e : ChannelEntry) : a.tickTimer e false = (a, false) := rfl

theorem CheckAccount.tickTimer_counts (a : CheckAccount) {e : ChannelEntry} (h : ¬e.checkInterval * 60 ≤ a.timer + 1) :
    a.tickTimer e true = ({ a with timer := a.timer + 1 }, false) := by
  simp [CheckAccount.tickTimer, h]

theorem CheckAccount.tickTimer_expires (a : CheckAccount) {e : ChannelEntry} (h : e.checkInterval * 60 ≤ a.timer + 1) :
    a.tickTimer e true = ({ a with
      timer := 0, balance := if a.balance < 6 then a.balance + 1 else a.balance }, decide (a.balance = 5)) := by
  simp [CheckAccount.tickTimer, h, raiseBalance_fst, raiseBalance_snd]

theorem timerRuns_iff (mode : Mode) (e : ChannelEntry) :
    timerRuns mode e = true ↔ mode = .run ∧ e.enabled = true ∧ e.autoCheck = true := by
  simp [timerRuns, and_assoc]

/-- The settings of an account that an activation leaves as they are. -/
structure SameChecking (old new : ChannelEntry) : Prop where
  enabled : old.enabled = new.enabled
  autoCheck : old.autoCheck = new.autoCheck
  checkInterval : old.checkInterval = new.checkInterval
  quietLevel : old.quietLevel = new.quietLevel

theorem CheckAccount.activate_same {old new : ChannelEntry} (h : SameChecking old new) (a : CheckAccount) :
    a.activate old new = a := by
  obtain ⟨he, ha, hi, hq⟩ := h
  have hf : checkStartsAfresh old new = false := by
    rw [checkStartsAfresh, ← he, ← ha]
    cases old.enabled <;> cases old.autoCheck <;> rfl
  simp [CheckAccount.activate, hf, he, hi, hq]

theorem CheckAccount.countSecond_same {old new : ChannelEntry} (h : SameChecking old new) (a : CheckAccount) (mode : Mode)
    (cs : Option ChannelSecond) : a.countSecond mode old old cs = a.countSecond mode old new cs := by
  have hr : timerRuns mode old = timerRuns mode new := by rw [timerRuns, timerRuns, h.enabled, h.autoCheck]
  have ht : a.tickTimer old (timerRuns mode old) = a.tickTimer new (timerRuns mode new) := by
    rw [CheckAccount.tickTimer, CheckAccount.tickTimer, hr, h.checkInterval]
  rw [CheckAccount.countSecond_eq, CheckAccount.countSecond_eq, ht]

/-- Without an activation or a result to meet it, the count is all that happens. -/
theorem CheckAccount.atSecond_count {old new : ChannelEntry} (h : SameChecking old new) (a : CheckAccount) (o : Order) (c : Chan)
    (mode : Mode) (cs : Option ChannelSecond) : a.atSecond o c mode old new none cs = a.countSecond mode old new cs := by
  obtain ⟨x, y, z, he⟩ := a.atSecond_cases o c mode old new none cs
  rw [he]
  cases x <;> cases y <;> cases z <;>
    simp only [CheckAccount.secondInOrder, CheckAccount.activate_same h, CheckAccount.countSecond_same h, if_true,
      Bool.false_eq_true, if_false]

/-- A channel newly checked starts afresh, its timer at most one second on (R11, R140, R141). -/
theorem CheckAccount.atSecond_afresh {old new : ChannelEntry} (hold : old.enabled = false) (hnew : new.enabled = true)
    (hauto : new.autoCheck = true) (hinterval : 1 ≤ new.checkInterval) {result : Option CheckRecord}
    (hresult : ∀ r, result = some r → r.code = .incomplete) (a : CheckAccount) (o : Order) (c : Chan) (mode : Mode)
    (cs : Option ChannelSecond) :
    (a.atSecond o c mode old new result cs).1.balance = 0 ∧ (a.atSecond o c mode old new result cs).1.timer ≤ 1 := by
  have hfresh : checkStartsAfresh old new = true := by simp [checkStartsAfresh, hold, hnew, hauto]
  have hbalance (d : CheckAccount) : (d.activate old new).balance = 0 := by simp [CheckAccount.activate, hfresh]
  have htimer (d : CheckAccount) : (d.activate old new).timer = 0 := by simp [CheckAccount.activate, hfresh]
  have hcount (d : CheckAccount) (hb : d.balance = 0) (ht : d.timer = 0) :
      (d.countSecond mode old new cs).1.balance = 0 ∧ (d.countSecond mode old new cs).1.timer ≤ 1 := by
    rw [CheckAccount.countSecond_eq]
    cases timerRuns mode new with
    | false => exact ⟨hb, by rw [CheckAccount.tickTimer_stopped, ht]; decide⟩
    | true => rw [d.tickTimer_counts (by omega)]; exact ⟨hb, by rw [ht]⟩
  obtain ⟨x, y, z, he⟩ := a.atSecond_cases o c mode old new result cs
  rw [he]
  cases result with
  | none => cases x <;> cases y <;> cases z <;> simp [CheckAccount.secondInOrder, hbalance, htimer, hcount]
  | some r =>
    have hkept (d : CheckAccount) : (d.result r).balance = d.balance ∧ (d.result r).timer = d.timer := by
      rw [d.result_incomplete (hresult r rfl)]; exact ⟨rfl, rfl⟩
    cases x <;> cases y <;> cases z <;> simp [CheckAccount.secondInOrder, hbalance, htimer, hcount, hkept]

/-! ### The second that closes (R33, R35, R40) -/

/-- A closing slice qualifies if it was taken in LIVE, with data and without the discarded mark. -/
def Slice.qualifies (sl : Slice) : Bool :=
  decide (sl.takenIn = .live ∧ 4500 ≤ sl.n ∧ sl.holdOver = false ∧ sl.discarded = false)

theorem Slice.close_qualifying (sl : Slice) (second index : Nat) (e : ChannelEntry) :
    (sl.close second index e).qualifying = if sl.qualifies then some (levelIntensity e.sensitivity sl.meanSquare) else none := by
  have hdata : sl.hasData = decide (4500 ≤ sl.n ∧ sl.holdOver = false) := by simp [Slice.hasData]
  simp only [SliceRecord.qualifying, Slice.close, Slice.qualifies, hdata, decide_eq_true_eq]
  by_cases h1 : sl.takenIn = .live <;> by_cases h2 : sl.discarded = false <;>
    by_cases h3 : 4500 ≤ sl.n ∧ sl.holdOver = false <;> simp_all [Slice.levels]

/-- The second in formation takes a record: what qualifies is counted and summed. -/
theorem SecondForming.take_close (f : SecondForming) (sl : Slice) (second index : Nat) (e : ChannelEntry) :
    f.take (sl.close second index e) =
      { qualifying := if sl.qualifies then f.qualifying + 1 else f.qualifying
        sum := if sl.qualifies then addIntensity f.sum (levelIntensity e.sensitivity sl.meanSquare) else f.sum
        overload := f.overload || (sl.qualifies && sl.overloaded e.overloadCount)
        records := f.records + 1
        discardedSlices := f.discardedSlices + sl.discarded.toNat } := by
  unfold SecondForming.take
  rw [Slice.close_qualifying]
  cases sl.qualifies <;> simp [Slice.close]

/-- The channel second of a formation that has taken a record (R40). -/
theorem SecondForming.close_eq (f : SecondForming) (h : 0 < f.records) (second : Nat) : f.close second =
    (let level := if 4 ≤ f.qualifying then some (levelOf (meanIntensity f.sum f.qualifying)) else none
    { second := second, qualifying := f.qualifying, level := level.map (·.1), under := (level.map (·.2)).getD false
      overload := decide (4 ≤ f.qualifying) && f.overload
      discarded := decide (f.discardedSlices = f.records) }) := by
  unfold SecondForming.close
  by_cases h4 : 4 ≤ f.qualifying <;> simp [h4, h]

theorem enterRing_eq {α : Type} (x : α) (ring : List α) : enterRing x ring = ring.drop (ring.length - 899) ++ [x] := by
  unfold enterRing
  split
  · rfl
  · rw [show ring.length - 899 = 0 by omega, List.drop_zero]

/-! ### A channel after a second boundary -/

theorem usesAffected_quiet {s : State} (h : ∀ i : Fin 6, s.coefs[i].waiting = none) (lock : Nat) (e : ChannelEntry) :
    usesAffected (affectedA lock s.coefs) (affectedC lock s.coefs) e = false := by
  have ha : affectedA lock s.coefs = false := by
    have h0 := h 0; have h1 := h 1; have h2 := h 2
    simp_all [affectedA]
  have hc : affectedC lock s.coefs = false := by
    have h0 := h 3; have h1 := h 4; have h2 := h 5
    simp_all [affectedC]
  rw [usesAffected, ha, hc]
  cases e.levelWeighting <;> cases e.peakWeighting <;> rfl

section
variable {s : State} {b : Bool} {c : Chan}

theorem State.disturbed_eq : s.disturbed (s.opening b) c =
    disturbance s.router.active.channels[c] (s.opening b).router.active.channels[c]
      (usesAffected (affectedA s.control.lock s.coefs) (affectedC s.control.lock s.coefs)
        (s.opening b).router.active.channels[c]) s.channels[c].cond.state := rfl

theorem calibrationDiffers_iff (old new : ChannelEntry) : calibrationDiffers old new = true ↔
    old.sourceSlot ≠ new.sourceSlot ∨ old.levelWeighting ≠ new.levelWeighting
      ∨ old.peakWeighting ≠ new.peakWeighting ∨ old.sensitivity ≠ new.sensitivity := by
  simp [calibrationDiffers, or_assoc]

/-- The result of a boundary is another channel's, where this one is not under check. -/
theorem State.resultFor_unchecked (h : s.check.channel ≠ some c) : resultFor c (s.decidedAt b) = none := by
  cases hd : s.decidedAt b with
  | none => rfl
  | some x =>
    obtain ⟨d, r⟩ := x
    have hne : d ≠ c := fun e => h (by rw [(State.decidedAt_some hd).1, e])
    simp [resultFor, hne]

/-- Without a slice in progress the result of a channel is INCOMPLETE. -/
theorem State.resultFor_unsliced (h : s.channels[c].slice = none) :
    ∀ r, resultFor c (s.decidedAt b) = some r → r.code = .incomplete := by
  intro r hr
  cases hd : s.decidedAt b with
  | none => rw [hd] at hr; cases hr
  | some x =>
    obtain ⟨d, q⟩ := x
    rw [hd] at hr
    simp only [resultFor] at hr
    split at hr
    · rename_i hdc
      cases hr
      refine (State.decidedAt_some hd).2.resolve_right fun hn => hn ?_
      rw [hdc, State.closedSlices_get, h]; rfl
    · cases hr

theorem State.accountAt_true : s.accountAt true c =
    s.channels[c].account.atSecond (Config.order s.choices) c s.control.mode s.router.active.channels[c]
      (s.opening true).router.active.channels[c] (resultFor c (s.decidedAt true)) (s.closedSecond true c) := by
  rw [State.accountAt, State.accountAtBoundary, if_pos rfl, State.turnAt_result, State.closedSecond]

/-- The chains of a boundary hold those of its channels. -/
theorem State.turnOver_chains (s : State) (b : Bool) : ∃ before after : Chains,
    (s.turnOver (Config.order s.choices) b).2 = before
      ++ (List.finRange 16).flatMap (fun c => s.channelEvents (s.opening b) (s.turnAt b c) (s.accountAt b c).2 c) ++ after := by
  unfold State.accountAt State.turnAt State.decidedAt State.resolved State.rowAt State.closing
  exact ⟨_, _, rfl⟩

/-- An event of a channel is handed over at the boundary. -/
theorem State.boundary_raises_channelEvent {e : Event}
    (h : .event e ∈ (s.channelEvents (s.opening b) (s.turnAt b c) (s.accountAt b c).2 c).flatten) :
    (s.boundary b).raised e := by
  obtain ⟨l, hl, he⟩ := List.mem_flatten.mp h
  obtain ⟨before, after, hchains⟩ := s.turnOver_chains b
  refine s.boundary_raised b (List.mem_flatten.mpr ⟨l, ?_, he⟩)
  rw [hchains]
  exact List.mem_append_left _ (List.mem_append_right _ (List.mem_flatMap.mpr ⟨c, List.mem_finRange c, hl⟩))

theorem State.boundary_raises_overdue (h : (s.accountAt b c).2 = true) :
    (s.boundary b).raised (Event.plain (s.opening b).time.runningSecond .checkOverdue (.channel c)) :=
  State.boundary_raises_channelEvent (List.mem_flatten.mpr ⟨_, List.mem_cons_of_mem _ (List.mem_cons_of_mem _
    (List.mem_cons_self ..)), by rw [if_pos h]; exact List.mem_cons_self ..⟩)

end

end Sys2Proof.Machine
end

section
/-! SUPPORT. What a second boundary makes of a channel that an activation reaches and of one it does not; O39 (R11 to R13, R39,
R40, R84, R140 to R142). -/
namespace Sys2Proof.Machine

section
variable (s : State) (b : Bool) (c : Chan)

/-- The request and the account that the arbiter leaves. -/
theorem State.boundary_channel_frame : (s.boundary b).channels[c] = { s.turnedChannel b c with
    cond := { (s.turnedChannel b c).cond with request := (s.boundary b).channels[c].cond.request }
    account := (s.boundary b).channels[c].account } := by
  rw [State.boundary_channel]
  exact Channel.afterSelection_frame ..

theorem State.boundary_channel_state : (s.boundary b).channels[c].cond.state = (s.turnedChannel b c).cond.state := by
  rw [State.boundary_channel_frame]

/-- The arbiter moves no balance, timer or quiet run. -/
theorem State.boundary_channel_account : (s.boundary b).channels[c].account = { (s.turnedChannel b c).account with
    record := (s.boundary b).channels[c].account.record, retry := (s.boundary b).channels[c].account.retry } := by
  rw [State.boundary_channel]
  exact Channel.afterSelection_account ..

end

section
variable {s : State} {c : Chan}

/-- Outside the sweep the arbiter leaves the account whole. -/
theorem State.boundary_account_unswept {b : Bool} (h : s.check.sweep.getLsbD c.val = false) :
    (s.boundary b).channels[c].account = (s.turnedChannel b c).account := by
  rw [State.boundary_channel]
  refine Channel.afterSelection_unjudged _ _ _ _ _ _ _ fun hj => ?_
  rw [State.resolved_sweep (State.selection_judged hj)] at h
  cases h

theorem State.opening_true_time_fields (s : State) : (s.opening true).time.runningSecond = s.time.runningSecond + 1
    ∧ (s.opening true).time.sliceIndex = 0 ∧ (s.opening true).time.link = s.time.link
    ∧ (s.opening true).time.held = (s.boundary true).time.held := by
  obtain ⟨h1, h2, _⟩ := s.time.secondBoundary_indices s.control.mode
  refine ⟨h2, h1, (s.opening_opens true).link, ?_⟩
  rw [State.boundary_true_time, State.opening_true_time]

/-- A row of an activation that settles the channel clears it and opens a slice in SETTLING (R11, R12, R22). -/
theorem State.boundary_settles (h : s.rowAt true c = .enabled ∨ s.rowAt true c = .remapped) :
    let now := (s.boundary true).channels[c]
    now.cond.state = .settling ∧ now.cond.settleCount = 0 ∧ now.cond.enteredAt = some (s.time.runningSecond + 1, 0)
      ∧ now.levelPath = PathState.zero ∧ now.peakPath = PathState.zero
      ∧ now.ring = [] ∧ now.latestSecond = none ∧ now.forming = some SecondForming.empty ∧ now.account.quiet = 0
      ∧ now.slice = some (Slice.opening .settling (decide (s.time.link = .holdOver)) (s.boundary true).time.held) := by
  obtain ⟨hsecond, hindex, hlink, hheld⟩ := s.opening_true_time_fields
  have hstate : (s.turnedChannel true c).cond.state = .settling := by
    rw [State.turnedChannel_state]; rcases h with h | h <;> rw [h] <;> rfl
  intro now
  rw [show now = _ from State.boundary_channel_frame s true c, State.boundary_channel_account]
  refine ⟨hstate, ?_, ?_, ?_, ?_, ?_, ?_, ?_, ?_, ?_⟩
  · rw [State.turnedChannel_cond]; rcases h with h | h <;> rw [h] <;> rfl
  · rw [State.turnedChannel_cond, hsecond, hindex]; rcases h with h | h <;> rw [h] <;> rfl
  · rw [State.turnedChannel_levelPath]; rcases h with h | h <;> rw [h] <;> rfl
  · rw [State.turnedChannel_peakPath]; rcases h with h | h <;> rw [h] <;> rfl
  · rw [State.turnedChannel_ring]; rcases h with h | h <;> rw [h] <;> rfl
  · rw [State.turnedChannel_latestSecond]; rcases h with h | h <;> rw [h] <;> rfl
  · rw [State.turnedChannel_forming]; rcases h with h | h <;> rw [h] <;> rfl
  · rw [State.turnedChannel_account]; rcases h with h | h <;> rw [h] <;> rfl
  · rw [State.turnedChannel_slice, hstate, hlink, hheld]; rfl

/-- One newly mapped has neither silent nor restore count left (R12). -/
theorem State.boundary_remapped (h : s.rowAt true c = .remapped) :
    (s.boundary true).channels[c].cond.silentCount = 0 ∧ (s.boundary true).channels[c].cond.restoreCount = 0 := by
  rw [State.boundary_channel_frame, State.turnedChannel_cond, h]
  exact ⟨rfl, rfl⟩

/-- A channel in OFF holds no slice, and no selection starts a check of it. -/
theorem State.boundary_off {b : Bool} (h : (s.turnedChannel b c).cond.state = .off) :
    (s.boundary b).channels[c].cond.state = .off ∧ (s.boundary b).channels[c].slice = none
      ∧ (s.boundary b).channels[c].cond.request = (s.turnedChannel b c).cond.request := by
  have hno : (s.selection b).starts (s.opening b).router.active c = false := by
    rw [Bool.eq_false_iff]
    intro hs
    rw [State.selection_starts hs] at h
    cases h
  rw [State.boundary_channel, Channel.afterSelection_frame, hno]
  exact ⟨h, by rw [State.turnedChannel_slice, if_pos h], rfl⟩

/-- One that the activation disables holds nothing (R11, R14, R44, R85). -/
theorem State.boundary_disabled (h : s.rowAt true c = .disabled) :
    let now := (s.boundary true).channels[c]
    now.cond.state = .off ∧ now.slice = none ∧ now.forming = none ∧ now.latestSlice = none
      ∧ now.latestSecond = none ∧ now.ring = [] ∧ now.cond.request = .none := by
  have hoff : (s.turnedChannel true c).cond.state = .off := by rw [State.turnedChannel_state, h]; rfl
  obtain ⟨hstate, hslice, hrequest⟩ := State.boundary_off hoff
  intro now
  refine ⟨hstate, hslice, ?_, ?_, ?_, ?_, ?_⟩
  · rw [show now = _ from State.boundary_channel_frame s true c, State.turnedChannel_forming, h]; rfl
  · rw [show now = _ from State.boundary_channel_frame s true c, State.turnedChannel_latestSlice, h]; rfl
  · rw [show now = _ from State.boundary_channel_frame s true c, State.turnedChannel_latestSecond, h]; rfl
  · rw [show now = _ from State.boundary_channel_frame s true c, State.turnedChannel_ring, h]; rfl
  · have hends : (s.resolved true).ends.getLsbD c.val = false := by
      rw [Bool.eq_false_iff]
      intro he
      rw [State.resolved_ends he] at h
      cases h
    refine hrequest.trans ?_
    rw [State.turnedChannel_cond, h, State.resolved_withdrawn]
    simp only [requestAfter, hends]
    simp [Condition.apply]

/-- One that nothing disturbs enters the second it closes in its ring, and forms the next (R40, R84). -/
theorem State.boundary_closes {sl : Slice} {f : SecondForming} (h : s.disturbed (s.opening true) c = none)
    (hs : s.channels[c].slice = some sl) (hf : s.channels[c].forming = some f) :
    let second := (f.take (sl.close s.time.runningSecond s.time.sliceIndex s.router.active.channels[c])).close
      s.time.runningSecond
    let now := (s.boundary true).channels[c]
    s.closedSecond true c = some second ∧ now.forming = some SecondForming.empty ∧ now.latestSecond = some second
      ∧ now.ring = enterRing second.entry s.channels[c].ring := by
  obtain ⟨hring, hempty, hoff⟩ := State.rowAt_undisturbed h
  intro second now
  have hclosed : s.closedSecond true c = some second := by
    rw [State.closedSecond_true, hempty, Channel.recorded_frame, State.closedSlices_get, hs, hf]; rfl
  have hnow : now = _ := State.boundary_channel_frame s true c
  refine ⟨hclosed, ?_, ?_, ?_⟩
  · rw [hnow, State.turnedChannel_forming, hclosed]
    change formingAfter (s.rowAt true c) (some SecondForming.empty) = _
    unfold formingAfter
    split
    · exact absurd ‹_› hoff
    · rfl
    · rfl
    · rfl
    · rfl
    · rfl
  · rw [hnow, State.turnedChannel_latestSecond, hring, hclosed]; rfl
  · rw [hnow, State.turnedChannel_ring, hring, hclosed]; rfl

end

/-- Settles O39: by the row that the activation gives, and by the count where no cause meets the account. -/
theorem secondBoundaryTurnsChannels : Obligations.SecondBoundaryTurnsChannels := by
  intro s htaken hlaw hrestarted hquiet
  refine ⟨s.boundary true, exec_secondBoundary htaken, fun c => ?_⟩
  intro old new ch now differs empty settles
  have hnew : new = (s.opening true).router.active.channels[c] := by
    change (s.boundary true).router.active.channels[c] = _
    rw [State.boundary_router]
  have hdisturbed : s.disturbed (s.opening true) c = disturbance old new false ch.cond.state := by
    rw [State.disturbed_eq, usesAffected_quiet hquiet, ← hnew]
  have hdiffers : calibrationDiffers old new = true ↔ differs := calibrationDiffers_iff old new
  obtain ⟨hoff, hnothing, hslice⟩ := hlaw c
  rw [hrestarted] at hoff
  simp only [Bool.false_eq_true, or_false] at hoff
  have hundisturbed (he : old.enabled = new.enabled) (hd : ¬(new.enabled = true ∧ differs)) :
      s.disturbed (s.opening true) c = none := by
    rw [hdisturbed, disturbance, he]
    cases hn : new.enabled with
    | false => rfl
    | true =>
      have : calibrationDiffers old new = false := Bool.eq_false_iff.mpr fun h => hd ⟨hn, hdiffers.mp h⟩
      simp [this]
  have hkept : s.channels[c].slice = none → s.disturbed (s.opening true) c = none →
      (s.turnedChannel true c).cond.state = ch.cond.state := fun hs hd => by
    rw [State.turnedChannel_state, State.rowAt_unsliced hd hs hrestarted]; rfl
  refine ⟨fun ho hn => ?_, fun ho hn => ?_, fun ho hn => ?_, fun ho hn hd => ?_, fun ho hn hd sl f hsl hf => ?_,
    fun he ha hi hq hk hw => ?_⟩
  · obtain ⟨hs, hf, -, -, hr⟩ := hnothing (hoff.mpr ho)
    have hd := hundisturbed (ho.trans hn.symm) (by rw [hn]; simp)
    obtain ⟨hstate, hslice', -⟩ := State.boundary_off ((hkept hs hd).trans (hoff.mpr ho))
    refine ⟨hstate, hslice', ?_⟩
    rw [show now = _ from State.boundary_channel_frame s true c, State.turnedChannel_ring,
      State.closedSecond_true, (State.rowAt_undisturbed hd).1, (State.rowAt_undisturbed hd).2.1, Channel.recorded_frame,
      State.closedSlices_get, hs, hf, hr]
    rfl
  · refine State.boundary_disabled (State.rowAt_disturbed ?_)
    rw [hdisturbed]
    simp [disturbance, ho, hn]
  · have hrow : s.rowAt true c = .enabled := State.rowAt_disturbed (by rw [hdisturbed]; simp [disturbance, ho, hn])
    refine ⟨State.boundary_settles (.inl hrow), fun ha hi => ?_⟩
    have hs : s.channels[c].slice = none := (hnothing (hoff.mpr ho)).1
    have hfresh := CheckAccount.atSecond_afresh ho hn ha hi (State.resultFor_unsliced (b := true) hs) ch.account
      (Config.order s.choices) c s.control.mode (s.closedSecond true c)
    rw [hnew, ← State.accountAt_true] at hfresh
    rw [show now = _ from State.boundary_channel_frame s true c, State.boundary_channel_account,
      State.turnedChannel_account, hrow]
    exact hfresh
  · have hrow : s.rowAt true c = .remapped :=
      State.rowAt_disturbed (by rw [hdisturbed]; simp [disturbance, ho, hn, hdiffers.mpr hd])
    exact ⟨State.boundary_settles (.inr hrow), State.boundary_remapped hrow⟩
  · intro i qualifies overloaded count sum level all overload
    have hd := hundisturbed (ho.trans hn.symm) (fun h => hd h.2)
    obtain ⟨-, hforming, hsecond, hring⟩ := State.boundary_closes hd hsl hf
    have hstate : sl.takenIn = ch.cond.state := by
      have hin := (hslice fun h => by rw [hoff.mp h] at ho; cases ho).1
      rw [hsl] at hin
      exact Option.some.inj hin
    have hq : sl.qualifies = qualifies := by rw [Slice.qualifies, hstate]
    rw [SecondForming.take_close, SecondForming.close_eq _ (Nat.succ_pos _), hq] at hsecond hring
    refine ⟨hforming, hsecond, ?_⟩
    rw [enterRing_eq] at hring
    exact hring
  · intro a runs expires
    have hsame : SameChecking old new := ⟨he, ha, hi, hq⟩
    have hcount : s.accountAt true c = a.countSecond s.control.mode old new (s.closedSecond true c) := by
      rw [State.accountAt_true, State.resultFor_unchecked hk, ← hnew]
      exact CheckAccount.atSecond_count hsame ..
    have haccount : now.account = (s.turnedChannel true c).account := State.boundary_account_unswept hw
    rw [State.turnedChannel_account, hcount, CheckAccount.countSecond_eq] at haccount
    have hruns : timerRuns s.control.mode new = true ↔ runs := timerRuns_iff ..
    have hrest : now.account = { a with
        balance := (a.tickTimer new (timerRuns s.control.mode new)).1.balance
        timer := (a.tickTimer new (timerRuns s.control.mode new)).1.timer
        retry := a.retry - 1, quiet := now.account.quiet } := by
      rw [haccount]
      cases (s.rowAt true c).emptiesSecond <;> rfl
    have hstopped (h : ¬runs) : a.tickTimer new (timerRuns s.control.mode new) = (a, false) := by
      rw [Bool.eq_false_iff.mpr (mt hruns.mp h)]; rfl
    have hexpires (h : expires) : a.tickTimer new (timerRuns s.control.mode new) = ({ a with
        timer := 0, balance := if a.balance < 6 then a.balance + 1 else a.balance }, decide (a.balance = 5)) := by
      rw [hruns.mpr h.1]; exact a.tickTimer_expires h.2
    have hcounts (h : runs) (hn : ¬expires) : a.tickTimer new (timerRuns s.control.mode new) =
        ({ a with timer := a.timer + 1 }, false) := by
      rw [hruns.mpr h]; exact a.tickTimer_counts fun h' => hn ⟨h, h'⟩
    refine ⟨by rw [hrest], by rw [hrest], fun h => ?_, fun h hn => ?_, fun h => ?_, ?_, fun h h5 => ?_, fun hn => ?_,
      fun hn hd => ?_⟩
    · rw [hrest, hstopped h]
    · rw [hrest, hcounts h hn]
    · rw [hrest, hexpires h]
    · rw [hrest]
      by_cases h : expires
      · rw [hexpires h]; simp [h]
      · by_cases hr : runs
        · rw [hcounts hr h]; simp [h]
        · rw [hstopped hr]; simp [h]
    · have hover : (s.accountAt true c).2 = true := by
        rw [hcount, CheckAccount.countSecond_eq, hexpires h, h5]; rfl
      have := State.boundary_raises_overdue hover
      rwa [s.opening_true_time_fields.1] at this
    · have hd := hundisturbed he fun h => by rw [hn] at h; cases h.1
      obtain ⟨hs, hf, -⟩ := hnothing (hoff.mpr (he.trans hn))
      rw [haccount, State.closedSecond_true, (State.rowAt_undisturbed hd).2.1, Channel.recorded_frame,
        State.closedSlices_get, hs, hf]
      rfl
    · have hdist := hundisturbed he fun h => hd h.2
      obtain ⟨htaken', hforming⟩ := hslice fun h => by rw [hoff.mp h] at he; rw [← he] at hn; cases hn
      obtain ⟨sl, hsl, -⟩ := Option.map_eq_some_iff.mp htaken'
      obtain ⟨f, hf⟩ := Option.isSome_iff_exists.mp hforming
      obtain ⟨hclosed, -, hsecond, -⟩ := State.boundary_closes hdist hsl hf
      refine ⟨_, hsecond, ?_⟩
      rw [haccount, (State.rowAt_undisturbed hdist).2.1, hclosed]
      generalize SecondForming.close _ _ = x
      change (a.quietSecond old.quietLevel x).quiet = _
      unfold CheckAccount.quietSecond
      cases x.level with
      | none => rfl
      | some l => dsimp only; split <;> rfl

end Sys2Proof.Machine
end

section
/-! SUPPORT. The check in progress at a boundary: the hub cells, the engine after the arbiter, the rows of its channels, the
result in the account (R132 to R141). -/
namespace Sys2Proof.Machine

/-! ### Hub cells (R132, R166) -/

/-- A hub cell is a control cell to node 4. -/
theorem hubCell_eq (code : Byte) (slot : Fin 64) : hubCell code slot = requestCell 4 true code 0 [BitVec.ofNat 8 slot.val] := rfl

theorem State.notify_hub (s : State) (n : Nat) (code : Byte) (p : List Byte) : (s.notify n code p).trunk.hub = s.trunk.hub := by
  unfold State.notify
  split <;> rfl

theorem State.storeEvent_hub (s : State) (n : Nat) (e : Event) : (s.storeEvent n e).trunk.hub = s.trunk.hub := by
  unfold State.storeEvent
  split
  · exact State.notify_hub ..
  · rfl

theorem State.emitOne_hub (n : Nat) (s : State) (e : Emission) : (State.emitOne n s e).trunk.hub = s.trunk.hub := by
  cases e with
  | event e => exact s.storeEvent_hub n e
  | result r => exact State.notify_hub ..
  | exceeded g e => exact s.storeEvent_hub n _

theorem State.emitAll_hub (n : Nat) : ∀ (l : List Emission) (s : State), (s.emitAll n l).trunk.hub = s.trunk.hub
  | [], _ => rfl
  | e :: l, s => (State.emitAll_hub n l (State.emitOne n s e)).trans (State.emitOne_hub n s e)

/-- The hub cells of a boundary are those of its check. -/
theorem State.boundary_hub (s : State) (b : Bool) :
    (s.boundary b).trunk.hub = (s.trunk.handHubAll (s.closing b).cells).hub := by
  rw [State.boundary_eq]
  refine (State.emitAll_hub ..).trans ?_
  rw [State.arbitrate_trunk, State.started, State.closing]
  split <;> rfl

theorem State.boundary_hub_none {s : State} {b : Bool} (h : (s.closing b).cells = []) :
    (s.boundary b).trunk.hub = s.trunk.hub := by
  rw [State.boundary_hub, h]; rfl

/-- Handed to an empty queue, at most one cell waits there. -/
theorem State.boundary_hub_empty {s : State} {b : Bool} (h : s.trunk.hub = []) (hc : (s.closing b).cells.length ≤ 1) :
    (s.boundary b).trunk.hub = (s.closing b).cells := by
  rw [State.boundary_hub]
  match hcells : (s.closing b).cells with
  | [] => exact h
  | [cell] => simp [Trunk.handHubAll, Trunk.handHub, h]
  | _ :: _ :: _ => rw [hcells] at hc; simp at hc

/-! ### The engine after the arbiter (R133, R143) -/

/-- A check in progress goes on past the arbiter. -/
theorem State.boundary_check_busy {s : State} {b : Bool} (h : (s.resolved b).engine.busy = true) :
    (s.boundary b).check = (s.resolved b).engine := by
  rw [State.boundary_check, State.selection_busy h]; rfl

/-- The judged channels of a selection change the sweep and the summary alone. -/
theorem CheckEngine.judged_frame (n : Nat) (l : List Chan) (k : CheckEngine) :
    l.foldl (fun k c => k.sweepResult c (CheckRecord.incomplete .state n .manual)) k =
      { k with
        sweep := (l.foldl (fun k c => k.sweepResult c (CheckRecord.incomplete .state n .manual)) k).sweep
        summary := (l.foldl (fun k c => k.sweepResult c (CheckRecord.incomplete .state n .manual)) k).summary } := by
  refine List.foldlRecOn (motive := fun u : CheckEngine => u = { k with sweep := u.sweep, summary := u.summary }) _ _ rfl
    fun u hu c _ => ?_
  rw [CheckEngine.sweepResult_frame]
  rw [hu]

/-- And take channels out of the sweep only. -/
theorem CheckEngine.judged_sweep (n : Nat) (l : List Chan) (k : CheckEngine) {c : Chan}
    (h : k.sweep.getLsbD c.val = false) :
    (l.foldl (fun k c => k.sweepResult c (CheckRecord.incomplete .state n .manual)) k).sweep.getLsbD c.val = false := by
  refine List.foldlRecOn (motive := fun u : CheckEngine => u.sweep.getLsbD c.val = false) _ _ h fun u hu d _ => ?_
  rw [CheckEngine.sweepResult_sweep, hu, Bool.false_and]

/-- Past the arbiter an idle engine has no drive on: it is idle, or a check starts. -/
theorem CheckEngine.afterSelection_idle {k : CheckEngine} (hd : k.drive = none) (hs : k.stage = .idle) (m : ChannelMap)
    (x : Selection) (n : Nat) : (k.afterSelection m x n).drive = none
      ∧ ((k.afterSelection m x n).stage = .idle ∨ (k.afterSelection m x n).stage = .starting) := by
  unfold CheckEngine.afterSelection
  dsimp only
  split
  · exact ⟨rfl, .inr rfl⟩
  · rw [CheckEngine.judged_frame]
    exact ⟨hd, .inl hs⟩

/-- No selection enters a channel in the sweep. -/
theorem CheckEngine.afterSelection_sweep {k : CheckEngine} {c : Chan} (h : k.sweep.getLsbD c.val = false) (m : ChannelMap)
    (x : Selection) (n : Nat) : (k.afterSelection m x n).sweep.getLsbD c.val = false := by
  unfold CheckEngine.afterSelection
  dsimp only
  split
  · exact CheckEngine.judged_sweep n x.judged k h
  · exact CheckEngine.judged_sweep n x.judged k h

/-! ### Where nothing disturbs, and where something does (R12, R25, R139) -/

/-- A boundary whose maps and coefficients stand. -/
structure State.Stands (s : State) (b : Bool) : Prop where
  map : (s.opening b).router.active = s.router.active
  coefs : ∀ i : Fin 6, s.coefs[i].waiting = none

theorem disturbance_same (e : ChannelEntry) (affected : Bool) (state : ChannelState) : disturbance e e affected state =
    if e.enabled && affected && decide (state ≠ .off) then some .coefChange else none := by
  have hc : calibrationDiffers e e = false := by simp [calibrationDiffers]
  simp [disturbance, hc]

theorem State.Stands.undisturbed {s : State} {b : Bool} (h : s.Stands b) (c : Chan) :
    s.disturbed (s.opening b) c = none := by
  rw [State.disturbed_eq, h.map, usesAffected_quiet h.coefs, disturbance_same]
  simp

theorem affectedA_iff (lock : Nat) (coefs : Vector CoefSection 6) : affectedA lock coefs = true ↔
    lock = 0 ∧ ∃ i : Fin 6, coefs[i].waiting.isSome = true ∧ i.val < 3 := by
  simp [affectedA, Fin.exists_fin_succ, or_assoc]

theorem affectedC_iff (lock : Nat) (coefs : Vector CoefSection 6) : affectedC lock coefs = true ↔
    lock = 0 ∧ ∃ i : Fin 6, coefs[i].waiting.isSome = true ∧ 3 ≤ i.val := by
  simp [affectedC, Fin.exists_fin_succ, or_assoc]

/-- A coefficient change disturbs the channels that use its weighting, and is all that disturbs where the map stands. -/
theorem usesAffected_iff (s : State) (e : ChannelEntry) :
    usesAffected (affectedA s.control.lock s.coefs) (affectedC s.control.lock s.coefs) e = true ↔ s.control.lock = 0
      ∧ ∃ i : Fin 6, s.coefs[i].waiting.isSome = true ∧ ((i.val < 3 ∧ e.levelWeighting = .a)
        ∨ (3 ≤ i.val ∧ (e.levelWeighting = .c ∨ e.peakWeighting = .c))) := by
  have hor : usesAffected (affectedA s.control.lock s.coefs) (affectedC s.control.lock s.coefs) e = true ↔
      (affectedA s.control.lock s.coefs = true ∧ e.levelWeighting = .a)
        ∨ (affectedC s.control.lock s.coefs = true ∧ (e.levelWeighting = .c ∨ e.peakWeighting = .c)) := by
    rw [usesAffected]
    cases e.levelWeighting <;> cases e.peakWeighting <;> simp
  rw [hor, affectedA_iff, affectedC_iff]
  constructor
  · rintro (⟨⟨hl, i, hi, h3⟩, hw⟩ | ⟨⟨hl, i, hi, h3⟩, hw⟩)
    · exact ⟨hl, i, hi, .inl ⟨h3, hw⟩⟩
    · exact ⟨hl, i, hi, .inr ⟨h3, hw⟩⟩
  · rintro ⟨hl, i, hi, ⟨h3, hw⟩ | ⟨h3, hw⟩⟩
    · exact .inl ⟨⟨hl, i, hi, h3⟩, hw⟩
    · exact .inr ⟨⟨hl, i, hi, h3⟩, hw⟩

theorem State.disturbed_coefs {s : State} {b : Bool} (h : (s.opening b).router.active = s.router.active) (c : Chan) :
    s.disturbed (s.opening b) c = if s.router.active.channels[c].enabled
        && usesAffected (affectedA s.control.lock s.coefs) (affectedC s.control.lock s.coefs) s.router.active.channels[c]
        && decide (s.channels[c].cond.state ≠ .off) then some .coefChange else none := by
  rw [State.disturbed_eq, h, disturbance_same]

/-- What ends a check by a commit: a disturbed channel of the check, or a new sharer of its slot. -/
theorem CheckEngine.commitEnds_iff (k : CheckEngine) (c : Chan) (old new : ChannelMap) (disturbed : Chan → Bool) :
    k.commitEnds c old new disturbed = true ↔ (∃ d, k.involved d = true ∧ disturbed d = true)
      ∨ ∃ d : Chan, k.involved d = false ∧ new.channels[d].enabled = true
        ∧ new.channels[d].sourceSlot = old.channels[c].sourceSlot
        ∧ (old.channels[d].enabled = false ∨ old.channels[d].sourceSlot ≠ old.channels[c].sourceSlot) := by
  simp only [CheckEngine.commitEnds, List.any_eq_true, List.mem_finRange, true_and, Bool.or_eq_true, Bool.and_eq_true,
    decide_eq_true_eq, Bool.not_eq_true', and_assoc, exists_or]

theorem CheckEngine.commitEnds_same (k : CheckEngine) (c : Chan) (m : ChannelMap) (disturbed : Chan → Bool) :
    k.commitEnds c m m disturbed = true ↔ ∃ d, k.involved d = true ∧ disturbed d = true := by
  rw [CheckEngine.commitEnds_iff]
  refine or_iff_left ?_
  rintro ⟨d, -, he, hs, h | h⟩
  · rw [he] at h; cases h
  · exact h hs

/-! ### The check's close at a boundary -/

section
variable {s : State} {b : Bool} {c d : Chan} {sl : Slice}

theorem State.closing_eq : s.closing b = s.check.atBoundary (fun c => s.closedSlices[c]) s.router.active
    (s.opening b).router.active (fun c => (s.disturbed (s.opening b) c).isSome) (s.opening b).time.runningSecond := by
  rw [State.closing]; rfl

/-- The record of a closing slice. -/
def State.recordOf (s : State) (c : Chan) (sl : Slice) : SliceRecord :=
  sl.close s.time.runningSecond s.time.sliceIndex s.router.active.channels[c]

theorem State.closedSlices_some (h : s.channels[c].slice = some sl) : s.closedSlices[c] = some (s.recordOf c sl) := by
  rw [State.closedSlices_get, h]; rfl

/-- In STARTING a commit ends the check (R139). -/
theorem State.closing_starting (hc : s.check.channel = some c) (hs : s.check.stage = .starting) : s.closing b =
    if s.check.commitEnds c s.router.active (s.opening b).router.active (fun d => (s.disturbed (s.opening b) d).isSome) then
      .ended s.check c (CheckRecord.incomplete .commit (s.opening b).time.runningSecond s.check.kind) 0
        (s.check.involvedSet fun _ => true)
    else .quiet s.check := by
  rw [State.closing_eq]
  exact CheckEngine.atBoundary_starting _ _ _ _ _ _ hc hs

/-- A CHECKING slice without data where it counts ends the check, else a commit does, else its phase takes it (R134 to R136,
R139). -/
theorem State.closing_recorded (hc : s.check.channel = some c) (hs : s.check.takes) (hsl : s.channels[c].slice = some sl)
    (ht : sl.takenIn = .checking) : s.closing b =
      if s.check.losesData (s.recordOf c sl) then
        .ended s.check c (CheckRecord.incomplete .data (s.opening b).time.runningSecond s.check.kind)
          (s.check.involvedSet fun _ => true) 0
      else if s.check.commitEnds c s.router.active (s.opening b).router.active
          (fun d => (s.disturbed (s.opening b) d).isSome) then
        .ended s.check c (CheckRecord.incomplete .commit (s.opening b).time.runningSecond s.check.kind)
          (s.check.involvedSet fun d => !(s.disturbed (s.opening b) d).isSome) 0
      else
        let t := s.check.takePhase (s.recordOf c sl) s.router.active.channels[c].sourceSlot
        if t.2.2 then .ended t.1 c (t.1.judge s.router.active.channels[c] (s.opening b).time.runningSecond)
          (s.check.involvedSet fun _ => true) 0
        else { CheckClose.quiet t.1 with cells := t.2.1 } := by
  rw [State.closing_eq]
  exact CheckEngine.atBoundary_recorded s.check (fun c => s.closedSlices[c]) _ _ _ _ hc hs (State.closedSlices_some hsl) ht

/-- A boundary that leaves its check in another stage than STARTING decides nothing more of it. -/
theorem State.resolved_quiet (h : (s.closing b).engine.stage ≠ .starting) : s.resolved b = .quiet (s.closing b).engine := by
  rw [State.resolved]
  unfold CheckEngine.resolveStart
  split
  · exact absurd ‹_› h
  · rfl

/-- A check that its boundary ends: its result, and what the arbiter leaves of the engine. -/
theorem State.boundary_ended {k : CheckEngine} {r : CheckRecord} {ends withdrawn : ChanSet}
    (h : s.closing b = .ended k c r ends withdrawn) : s.decidedAt b = some (c, r)
      ∧ (s.resolved b).engine.sweep = (k.sweepResult c r).sweep ∧ (s.resolved b).ends = 0
      ∧ (s.boundary b).check.drive = none ∧ ((s.boundary b).check.stage = .idle ∨ (s.boundary b).check.stage = .starting) := by
  have hengine : (s.closing b).engine = k.toIdle.sweepResult c r := by rw [h]; rfl
  have hframe := k.toIdle.sweepResult_frame c r
  have hquiet : s.resolved b = .quiet (k.toIdle.sweepResult c r) := by
    rw [← hengine]
    refine State.resolved_quiet ?_
    rw [hengine, hframe]
    exact Stage.noConfusion
  have hsweep : (k.toIdle.sweepResult c r).sweep = (k.sweepResult c r).sweep := by
    unfold CheckEngine.sweepResult; split <;> rfl
  have hdecided : s.decidedAt b = some (c, r) := by rw [State.decidedAt, h]; rfl
  refine ⟨hdecided, by rw [hquiet]; exact hsweep, by rw [hquiet]; rfl, ?_⟩
  rw [State.boundary_check, hquiet]
  refine CheckEngine.afterSelection_idle ?_ ?_ _ _ _
  · rw [show (CheckClose.quiet (k.toIdle.sweepResult c r)).engine = k.toIdle.sweepResult c r from rfl, hframe]; rfl
  · rw [show (CheckClose.quiet (k.toIdle.sweepResult c r)).engine = k.toIdle.sweepResult c r from rfl, hframe]; rfl

/-- A check that goes on, undecided, past STARTING. -/
theorem State.boundary_goes {k : CheckEngine} {cells : List Cell} (h : s.closing b = { CheckClose.quiet k with cells := cells })
    (hs : k.stage ≠ .starting) (hi : k.stage ≠ .idle) :
    (s.boundary b).check = k ∧ s.decidedAt b = none ∧ s.selection b = { judged := [], chosen := none } := by
  have hengine : (s.closing b).engine = k := by rw [h]; rfl
  have hquiet : s.resolved b = .quiet k := by rw [← hengine]; exact State.resolved_quiet (by rwa [hengine])
  have hbusy : (s.resolved b).engine.busy = true := by rw [hquiet]; exact decide_eq_true hi
  exact ⟨by rw [State.boundary_check_busy hbusy, hquiet]; rfl, by rw [State.decidedAt, hquiet, h]; rfl,
    State.selection_busy hbusy⟩

end

/-! ### The rows of a check's channels (R48, R50, R53, R54) -/

section
variable (s : State) (b : Bool) (d : Chan)

theorem Condition.count_frame (k : Condition) (r : SliceRecord) : k.count r =
    { k with
      settleCount := (k.count r).settleCount, silentCount := (k.count r).silentCount
      restoreCount := (k.count r).restoreCount, overloadedLive := (k.count r).overloadedLive
      lastOverload := (k.count r).lastOverload } := by
  unfold Condition.count
  split
  · split <;> rfl
  all_goals rfl

/-- The request a row meets: an end handed, a start withdrawn, or the one held. -/
theorem State.counted_request : (s.counted b d).request =
    requestAfter (s.closing b).ends (s.closing b).withdrawn d s.channels[d].cond.request := by
  rw [State.counted]
  unfold countedCondition
  dsimp only
  split
  · rw [Condition.count_frame]
  · rfl

theorem State.counted_restoreHeld : (s.counted b d).restoreHeld = s.channels[d].cond.restoreHeld := by
  rw [State.counted]
  unfold countedCondition
  dsimp only
  split
  · rw [Condition.count_frame]
  · rfl

theorem State.counted_silentCount {sl : Slice} (h : s.channels[d].slice = some sl) : (s.counted b d).silentCount =
    (s.channels[d].cond.count (s.recordOf d sl)).silentCount := by
  rw [State.counted, State.closedSlices_some h]
  rfl

end

/-- Where nothing disturbs a channel it takes a check start exactly from LIVE, with a start held, no restore and no absence
(R48, R53). -/
theorem decideRow_checkStart_iff (t : Option ChannelState) (n : Nat) (restart : Bool) (k : Condition) :
    decideRow none t n restart k = .checkStart ↔
      t = some .live ∧ k.request = .startHeld ∧ k.restoreHeld = false ∧ k.silentCount < n := by
  unfold decideRow
  dsimp only
  split_ifs with h1 h2 h3 h4 h5 h6 h7
  · exact ⟨nofun, fun h => by rw [h1.1] at h; cases h.1⟩
  · exact ⟨nofun, fun h => by rw [h.2.2.1] at h2; cases h2.1⟩
  · exact ⟨nofun, fun h => by rw [h3.1] at h; cases h.1⟩
  · exact ⟨nofun, fun h => absurd h4.2 (Nat.not_le.mpr h.2.2.2)⟩
  · exact ⟨nofun, fun h => by rw [h5.1] at h; cases h.1⟩
  · refine ⟨fun _ => ⟨h6.1, h6.2, ?_, ?_⟩, fun _ => rfl⟩
    · exact Bool.eq_false_iff.mpr fun h => h2 ⟨h, .inl h6.1⟩
    · exact Nat.not_le.mp fun h => h4 ⟨h6.1, h⟩
  · exact ⟨nofun, fun h => absurd ⟨h.1, h.2.1⟩ h6⟩
  · exact ⟨nofun, fun h => absurd ⟨h.1, h.2.1⟩ h6⟩

/-- A channel is CHECKING after a row that starts its check, or one that keeps it so. -/
theorem Row.state_checking {r : Row} {x : ChannelState} (h : r.state x = .checking) :
    r = .checkStart ∨ (r = .kept ∧ x = .checking) := by
  cases r with
  | checkStart => exact .inl rfl
  | kept => exact .inr ⟨rfl, h⟩
  | _ => cases h

section
variable {s : State} {b : Bool} {d : Chan} {sl : Slice}

/-- A CHECKING channel that is handed an end takes it (R54). -/
theorem State.rowAt_checkEnd (hd : s.disturbed (s.opening b) d = none) (hs : s.channels[d].slice = some sl)
    (ht : sl.takenIn = .checking) (hr : (s.counted b d).request = .endHeld) : s.rowAt b d = .checkEnd := by
  rw [State.rowAt_eq, hd, State.closedSlices_some hs]
  have : ((some (s.recordOf d sl)).map (·.takenIn)) = some .checking := congrArg some ht
  rw [this, decideRow]
  simp [hr]

/-- A CHECKING channel without an end held stays so. -/
theorem State.rowAt_checking (hd : s.disturbed (s.opening b) d = none) (hs : s.channels[d].slice = some sl)
    (ht : sl.takenIn = .checking) (hr : (s.counted b d).request ≠ .endHeld) (hn : s.control.restarted = false) :
    s.rowAt b d = .kept := by
  rw [State.rowAt_eq, hd, State.closedSlices_some hs, hn]
  have : ((some (s.recordOf d sl)).map (·.takenIn)) = some .checking := congrArg some ht
  rw [this, decideRow]
  simp [hr]

theorem State.rowAt_checkStart_iff (hd : s.disturbed (s.opening b) d = none) : s.rowAt b d = .checkStart ↔
    s.channels[d].slice.map (·.takenIn) = some .live ∧ (s.counted b d).request = .startHeld
      ∧ s.channels[d].cond.restoreHeld = false
      ∧ (s.counted b d).silentCount < s.router.active.channels[d].absentIntegration.slices := by
  rw [State.rowAt_eq, hd, decideRow_checkStart_iff, State.counted_restoreHeld, State.closedSlices_get, Option.map_map]
  rfl

/-- No row of an activation or a coefficient change starts a check. -/
theorem State.disturbed_settles {r : Row} (h : s.disturbed (s.opening b) d = some r) :
    r = .disabled ∨ r = .enabled ∨ r = .remapped ∨ r = .coefChange := by
  rw [State.disturbed_eq, disturbance] at h
  split_ifs at h <;> cases h <;> simp

end

/-! ### A result in the account (R137, R140, R141) -/

/-- The results that count against the balance (R140). -/
def CheckRecord.counts (r : CheckRecord) : Prop :=
  r.code = .pass ∨ r.code = .low ∨ r.code = .high ∨ r.code = .noResponse

theorem CheckAccount.result_counted {r : CheckRecord} (h : r.counts) (a : CheckAccount) :
    a.result r = { a with record := some r, balance := lowerBalance a.balance } := by
  rcases h with h | h | h | h <;> simp only [CheckAccount.result, h]

theorem CheckAccount.result_uncounted {r : CheckRecord} (h : ¬r.counts) (a : CheckAccount) :
    a.result r = { a with record := some r, retry := 60 } := by
  unfold CheckRecord.counts at h
  cases hc : r.code <;> simp_all [CheckAccount.result]

/-- With no activation to meet them, the result comes before the count or after it. -/
theorem CheckAccount.atSecond_result {old new : ChannelEntry} (h : SameChecking old new) (a : CheckAccount) (o : Order)
    (c : Chan) (mode : Mode) (r : CheckRecord) (cs : Option ChannelSecond) :
    (a.atSecond o c mode old new (some r) cs).1 = ((a.result r).countSecond mode old new cs).1
      ∨ (a.atSecond o c mode old new (some r) cs).1 = (a.countSecond mode old new cs).1.result r := by
  obtain ⟨x, y, z, he⟩ := a.atSecond_cases o c mode old new (some r) cs
  rw [he]
  cases x <;> cases y <;> cases z <;>
    simp [CheckAccount.secondInOrder, CheckAccount.activate_same h, CheckAccount.countSecond_same h]

/-- Whether an interval timer expires at a second boundary (R141). -/
def CheckAccount.expires (a : CheckAccount) (mode : Mode) (e : ChannelEntry) : Prop :=
  mode = .run ∧ e.enabled = true ∧ e.autoCheck = true ∧ e.checkInterval * 60 ≤ a.timer + 1

/-- The balance with one check more owed (R140). -/
def raisedBalance (b : Int) : Int := if b < 6 then b + 1 else b

/-- The balance that a second boundary's count leaves. -/
theorem CheckAccount.countSecond_balance (a : CheckAccount) (mode : Mode) (old new : ChannelEntry) (cs : Option ChannelSecond) :
    (a.expires mode new → (a.countSecond mode old new cs).1.balance = raisedBalance a.balance)
      ∧ (¬a.expires mode new → (a.countSecond mode old new cs).1.balance = a.balance) := by
  rw [CheckAccount.countSecond_eq]
  dsimp only
  by_cases hr : timerRuns mode new = true
  · rw [hr]
    refine ⟨fun h => ?_, fun h => ?_⟩
    · rw [a.tickTimer_expires h.2.2.2]; rfl
    · obtain ⟨hm, he, ha⟩ := (timerRuns_iff ..).mp hr
      rw [a.tickTimer_counts fun hi => h ⟨hm, he, ha, hi⟩]
  · rw [Bool.eq_false_iff.mpr hr]
    exact ⟨fun ⟨hm, he, ha, _⟩ => absurd ((timerRuns_iff ..).mpr ⟨hm, he, ha⟩) hr, fun _ => rfl⟩

/-- An account that a result and the count of a second boundary meet in either order. -/
theorem CheckAccount.atSecond_decided {old new : ChannelEntry} (h : SameChecking old new) (a : CheckAccount) (o : Order)
    (c : Chan) (mode : Mode) (r : CheckRecord) (cs : Option ChannelSecond) :
    let t := (a.atSecond o c mode old new (some r) cs).1
    t.record = some r
      ∧ (r.counts → t.retry = a.retry - 1 ∧ (¬a.expires mode new → t.balance = lowerBalance a.balance)
        ∧ (a.expires mode new → t.balance = raisedBalance (lowerBalance a.balance)
          ∨ t.balance = lowerBalance (raisedBalance a.balance)))
      ∧ (¬r.counts → (t.retry = 60 ∨ t.retry = 59) ∧ (¬a.expires mode new → t.balance = a.balance)
        ∧ (a.expires mode new → t.balance = raisedBalance a.balance)) := by
  have retry (d : CheckAccount) : (d.countSecond mode old new cs).1.retry = d.retry - 1 := by
    rw [CheckAccount.countSecond_eq]
  have record (d : CheckAccount) : (d.countSecond mode old new cs).1.record = d.record := by
    rw [CheckAccount.countSecond_eq]
  have expires (d : CheckAccount) (hd : d.timer = a.timer) : d.expires mode new ↔ a.expires mode new := by
    rw [CheckAccount.expires, CheckAccount.expires, hd]
  have hself := a.countSecond_balance mode old new cs
  have hjudged := (a.result r).countSecond_balance mode old new cs
  intro t
  by_cases hc : r.counts
  · have hres := fun d => CheckAccount.result_counted hc d
    rw [expires _ (by rw [hres]), hres] at hjudged
    rcases a.atSecond_result h o c mode r cs with ht | ht
    · rw [show t = _ from ht, hres]
      exact ⟨record _, fun _ => ⟨retry _, hjudged.2, fun he => .inl (hjudged.1 he)⟩, fun hn => absurd hc hn⟩
    · rw [show t = _ from ht, hres]
      exact ⟨rfl, fun _ => ⟨retry _, fun he => congrArg lowerBalance (hself.2 he),
        fun he => .inr (congrArg lowerBalance (hself.1 he))⟩, fun hn => absurd hc hn⟩
  · have hres := fun d => CheckAccount.result_uncounted hc d
    rw [expires _ (by rw [hres]), hres] at hjudged
    rcases a.atSecond_result h o c mode r cs with ht | ht
    · rw [show t = _ from ht, hres]
      exact ⟨record _, fun hn => absurd hn hc, fun _ => ⟨.inr (retry _), hjudged.2, hjudged.1⟩⟩
    · rw [show t = _ from ht, hres]
      exact ⟨rfl, fun hn => absurd hn hc, fun _ => ⟨.inl rfl, hself.2, hself.1⟩⟩

/-- Whatever meets it, an INCOMPLETE result is the record, and its delay the retry delay or one second less. -/
theorem CheckAccount.atSecond_incomplete {r : CheckRecord} (hr : r.code = .incomplete) (a : CheckAccount) (o : Order) (c : Chan)
    (mode : Mode) (old new : ChannelEntry) (cs : Option ChannelSecond) :
    (a.atSecond o c mode old new (some r) cs).1.record = some r
      ∧ ((a.atSecond o c mode old new (some r) cs).1.retry = 60 ∨ (a.atSecond o c mode old new (some r) cs).1.retry = 59) := by
  obtain ⟨x, y, z, he⟩ := a.atSecond_cases o c mode old new (some r) cs
  rw [he]
  cases x <;> cases y <;> cases z <;>
    simp [CheckAccount.secondInOrder, CheckAccount.countSecond_eq, CheckAccount.result_incomplete _ hr, CheckAccount.activate]

/-- Without a result the record stands, whatever else meets it. -/
theorem CheckAccount.atSecond_record (a : CheckAccount) (o : Order) (c : Chan) (mode : Mode) (old new : ChannelEntry)
    (cs : Option ChannelSecond) : (a.atSecond o c mode old new none cs).1.record = a.record := by
  obtain ⟨x, y, z, he⟩ := a.atSecond_cases o c mode old new none cs
  rw [he]
  cases x <;> cases y <;> cases z <;>
    simp [CheckAccount.secondInOrder, CheckAccount.countSecond_eq, CheckAccount.activate]

/-- A phase that goes on stays among the stages that take slices. -/
theorem CheckEngine.takePhase_goes {k : CheckEngine} (hs : k.takes) (hm : k.stage = .measure → k.phaseSlices < 7)
    (r : SliceRecord) (slot : Fin 64) : (k.takePhase r slot).2.2 = false ∧ (k.takePhase r slot).1.takes := by
  rcases hs with hs | hs | hs
  · simp only [CheckEngine.takePhase, hs, CheckEngine.takes]
    split <;> simp
  · simp only [CheckEngine.takePhase, hs, CheckEngine.takes]
    split <;> simp
  · have := hm hs
    simp only [CheckEngine.takePhase, hs, CheckEngine.takes]
    simp; omega

end Sys2Proof.Machine
end

section
/-! SUPPORT. What a boundary leaves of a check that ends, goes on or starts, stage by stage; O37 (R12, R25, R57, R132 to R141). -/
namespace Sys2Proof.Machine

/-! ### A decided result (R57, R137) -/

section
variable {s : State} {b : Bool} {c d : Chan} {r : CheckRecord}

/-- The state a boundary gives a channel is that of its row. -/
theorem State.boundary_state (s : State) (b : Bool) (c : Chan) : (s.boundary b).channels[c].cond.state =
    (s.rowAt b c).state s.channels[c].cond.state := by
  rw [State.boundary_channel_state, State.turnedChannel_state]

theorem Condition.apply_suspect (k : Condition) (r : Row) (t : Option ChannelState) (p : Nat × Nat) :
    (k.apply r t p).suspect = k.suspect := by cases r <;> rfl

/-- The suspect field is judged by the result, if it is the channel's. -/
theorem State.boundary_suspect (s : State) (b : Bool) (c : Chan) : (s.boundary b).channels[c].cond.suspect =
    (resultFor c (s.decidedAt b)).elim s.channels[c].cond.suspect
      fun r => suspectAfter r.code s.channels[c].cond.suspect := by
  have hk : (s.closedSlices[c].elim s.channels[c].cond s.channels[c].cond.count).suspect = s.channels[c].cond.suspect := by
    cases s.closedSlices[c] with
    | none => rfl
    | some r => rw [Option.elim, Condition.count_frame]
  rw [State.boundary_channel_frame, State.turnedChannel_cond]
  refine (Condition.apply_suspect ..).trans ?_
  rw [State.metAt, State.metCondition, State.turnAt_record, State.turnAt_result]
  dsimp only
  rw [hk]

theorem State.resultFor_decided (h : s.decidedAt b = some (c, r)) : resultFor c (s.decidedAt b) = some r := by
  simp [resultFor, h]

/-- CHECK FAULT is handed over. -/
theorem State.boundary_raises_fault (h : s.decidedAt b = some (c, r)) {x : Event}
    (hx : .event x ∈ faultEvents c s.router.active.channels[c].referenceResponse r) : (s.boundary b).raised x := by
  refine State.boundary_raises_channelEvent (c := c) (List.mem_flatten.mpr ⟨_, List.mem_cons_of_mem _ (List.mem_cons_self ..), ?_⟩)
  rw [State.turnAt_result, State.resultFor_decided h]
  exact hx

theorem State.accountAt_false : s.accountAt false c =
    ((resultFor c (s.decidedAt false)).elim s.channels[c].account s.channels[c].account.result, false) := by
  rw [State.accountAt, State.accountAtBoundary, if_neg (by decide), State.turnAt_result]
  cases resultFor c (s.decidedAt false) <;> rfl

/-- The account of a channel outside the arbiter's judgment. -/
theorem State.boundary_account (hj : c ∉ (s.selection b).judged) : (s.boundary b).channels[c].account =
    if (s.rowAt b c).emptiesSecond then { (s.accountAt b c).1 with quiet := 0 } else (s.accountAt b c).1 := by
  rw [State.boundary_channel, ← State.turnedChannel_account]
  exact Channel.afterSelection_unjudged _ _ _ _ _ _ _ hj

/-- Emptying the quiet run touches no other field of an account. -/
theorem State.boundary_account_frame (hj : c ∉ (s.selection b).judged) : (s.boundary b).channels[c].account =
    { (s.accountAt b c).1 with quiet := (s.boundary b).channels[c].account.quiet } := by
  rw [State.boundary_account hj]
  split <;> rfl

theorem SameChecking.refl (e : ChannelEntry) : SameChecking e e := ⟨rfl, rfl, rfl, rfl⟩

theorem State.boundary_runningSecond (s : State) (b : Bool) :
    (s.boundary b).time.runningSecond = (s.opening b).time.runningSecond := by
  rw [State.boundary_time]
  split <;> rfl

/-- A boundary command, of the slice or of the second, leaves the boundary's state but for the marks of control. -/
theorem exec_boundary (h : if b then s.control.secondTaken = false else s.time.sliceIndex < 7) :
    ∃ k, exec (if b then .secondBoundary else .sliceBoundary) s = .next { s.boundary b with control := k } := by
  cases b with
  | true => exact ⟨_, exec_secondBoundary h⟩
  | false =>
    refine ⟨{ (s.boundary false).control with secondTaken := false }, ?_⟩
    change execSliceBoundary s = _
    have h7 : decide (7 ≤ s.time.sliceIndex) = false := decide_eq_false (Nat.not_le.mpr h)
    simp only [execSliceBoundary, h7]

/-- A manual check that ends, or one outside the sweep, leaves its channel outside the arbiter's judgment and the sweep. -/
theorem State.ended_unswept {k : CheckEngine} {ends withdrawn : ChanSet} (h : s.closing b = .ended k c r ends withdrawn)
    (hw : r.kind = .manual ∨ k.sweep.getLsbD c.val = false) :
    c ∉ (s.selection b).judged ∧ (s.boundary b).check.sweep.getLsbD c.val = false := by
  have hsweep : (s.resolved b).engine.sweep.getLsbD c.val = false := by
    rw [(State.boundary_ended h).2.1, CheckEngine.sweepResult_sweep]
    rcases hw with hw | hw <;> simp only [hw] <;> simp
  refine ⟨fun hj => ?_, ?_⟩
  · rw [State.selection_judged hj] at hsweep; cases hsweep
  · rw [State.boundary_check]; exact CheckEngine.afterSelection_sweep hsweep ..

/-- The hub cells of a check that ends are its DRIVE OFF. -/
theorem State.ended_hub {k : CheckEngine} {ends withdrawn : ChanSet} (h : s.closing b = .ended k c r ends withdrawn)
    (hhub : s.trunk.hub = []) : (s.boundary b).trunk.hub = k.driveOff := by
  have hc : (s.closing b).cells = k.driveOff := by rw [h]; rfl
  rw [State.boundary_hub_empty hhub, hc]
  rw [hc]
  unfold CheckEngine.driveOff
  split <;> simp

/-- A CHECKING channel that is disturbed, or handed an end, settles (R12, R25, R54). -/
theorem State.boundary_settled {sl : Slice} (hs : s.channels[d].slice = some sl) (ht : sl.takenIn = .checking)
    (h : s.disturbed (s.opening b) d = some .coefChange
      ∨ (s.disturbed (s.opening b) d = none ∧ (s.counted b d).request = .endHeld)) :
    (s.boundary b).channels[d].cond.state = .settling := by
  rw [State.boundary_state]
  rcases h with h | ⟨h, hr⟩
  · rw [State.rowAt_disturbed h]; rfl
  · rw [State.rowAt_checkEnd h hs ht hr]; rfl

theorem requestAfter_ended {ends withdrawn : ChanSet} (h : ends.getLsbD c.val = true) (q : CheckRequest) :
    requestAfter ends withdrawn c q = .endHeld := by
  simp only [requestAfter, h, if_true]

theorem requestAfter_none (q : CheckRequest) : requestAfter 0 0 c q = q := by
  simp [requestAfter]

end

/-! ### A check at a boundary whose map stands -/

/-- A coefficient change of a weighting that a channel uses (R25). -/
def State.changes (s : State) (d : Chan) : Prop := s.control.lock = 0 ∧ s.channels[d].cond.state ≠ .off
  ∧ ∃ i : Fin 6, s.coefs[i].waiting.isSome = true ∧ ((i.val < 3 ∧ s.router.active.channels[d].levelWeighting = .a)
    ∨ (3 ≤ i.val ∧ (s.router.active.channels[d].levelWeighting = .c ∨ s.router.active.channels[d].peakWeighting = .c)))

/-- A check of a channel in service, at a boundary whose map stands. -/
structure State.Checked (s : State) (b : Bool) (c : Chan) (sl : Slice) : Prop where
  map : (s.opening b).router.active = s.router.active
  law : s.channelLaw
  check : s.checkLaw
  restarted : s.control.restarted = false
  channel : s.check.channel = some c
  slice : s.channels[c].slice = some sl

/-- What a boundary leaves of the channel whose check it decides (R57, R137, R140, R141). -/
structure State.DecidedBy (s : State) (b : Bool) (c : Chan) (r : CheckRecord) : Prop where
  record : (s.boundary b).channels[c].account.record = some r
  counted : r.counts →
    (s.boundary b).channels[c].account.retry =
        (if b then s.channels[c].account.retry - 1 else s.channels[c].account.retry)
      ∧ (¬(b = true ∧ s.channels[c].account.expires s.control.mode s.router.active.channels[c]) →
        (s.boundary b).channels[c].account.balance = lowerBalance s.channels[c].account.balance)
      ∧ (b = true ∧ s.channels[c].account.expires s.control.mode s.router.active.channels[c] →
        (s.boundary b).channels[c].account.balance = raisedBalance (lowerBalance s.channels[c].account.balance)
          ∨ (s.boundary b).channels[c].account.balance = lowerBalance (raisedBalance s.channels[c].account.balance))
  uncounted : ¬r.counts →
    ((s.boundary b).channels[c].account.retry = 60 ∨ (b = true ∧ (s.boundary b).channels[c].account.retry = 59))
      ∧ (¬(b = true ∧ s.channels[c].account.expires s.control.mode s.router.active.channels[c]) →
        (s.boundary b).channels[c].account.balance = s.channels[c].account.balance)
      ∧ (b = true ∧ s.channels[c].account.expires s.control.mode s.router.active.channels[c] →
        (s.boundary b).channels[c].account.balance = raisedBalance s.channels[c].account.balance)
  inside : b = false → (s.boundary b).channels[c].account.timer = s.channels[c].account.timer
    ∧ (s.changes c → (s.boundary b).channels[c].account.quiet = 0)
    ∧ (¬s.changes c → (s.boundary b).channels[c].account.quiet = s.channels[c].account.quiet)
  suspect : (s.boundary b).channels[c].cond.suspect = suspectAfter r.code s.channels[c].cond.suspect
  unswept : s.check.kind = .manual → (s.boundary b).check.sweep.getLsbD c.val = false
  fault : ∀ x, .event x ∈ faultEvents c s.router.active.channels[c].referenceResponse r → (s.boundary b).raised x

/-- What a boundary leaves of a check that it ends (R25, R134, R135, R139). -/
structure State.EndedBy (s : State) (b : Bool) (c : Chan) (r : CheckRecord) : Prop where
  drive : (s.boundary b).check.drive = none
  stage : (s.boundary b).check.stage = .idle ∨ (s.boundary b).check.stage = .starting
  hub : s.trunk.hub = [] → (s.boundary b).trunk.hub = s.check.driveOff
  settled : ∀ d : Chan, s.check.involved d = true → s.channels[d].cond.state = .checking →
    (s.boundary b).channels[d].cond.state = .settling
  decided : s.check.kind = .manual ∨ s.check.sweep.getLsbD c.val = false → s.DecidedBy b c r

section
variable {s : State} {b : Bool} {c : Chan} {sl : Slice} (h : s.Checked b c sl)
include h

theorem State.Checked.slice_of {d : Chan} {x : ChannelState} (hx : s.channels[d].cond.state = x) (hn : x ≠ .off) :
    ∃ y, s.channels[d].slice = some y ∧ y.takenIn = x := by
  obtain ⟨y, hy, ht⟩ := Option.map_eq_some_iff.mp ((h.law d).2.2 (by rw [hx]; exact hn)).1
  exact ⟨y, hy, ht.trans hx⟩

theorem State.Checked.takenIn : sl.takenIn = s.channels[c].cond.state := by
  have hn : s.channels[c].cond.state ≠ .off := fun hoff => by
    have := ((h.law c).2.1 hoff).1
    rw [h.slice] at this; cases this
  obtain ⟨y, hy, ht⟩ := h.slice_of rfl hn
  rw [h.slice] at hy
  cases hy
  exact ht

/-- Where the map stands, a channel is disturbed exactly by a coefficient change. -/
theorem State.Checked.disturbed_some {d : Chan} (hd : s.changes d) : s.disturbed (s.opening b) d = some .coefChange := by
  obtain ⟨hlock, hoff, hw⟩ := hd
  have hen : s.router.active.channels[d].enabled = true :=
    by_contra fun he => hoff ((h.law d).1.mpr (.inl (Bool.eq_false_iff.mpr he)))
  rw [State.disturbed_coefs h.map, hen, (usesAffected_iff s _).mpr ⟨hlock, hw⟩, decide_eq_true hoff]
  rfl

theorem State.Checked.disturbed_none {d : Chan} (hd : ¬s.changes d) : s.disturbed (s.opening b) d = none := by
  rw [State.disturbed_coefs h.map, if_neg]
  rw [Bool.and_eq_true, Bool.and_eq_true, decide_eq_true_eq]
  rintro ⟨⟨-, hu⟩, hoff⟩
  obtain ⟨hlock, hw⟩ := (usesAffected_iff s _).mp hu
  exact hd ⟨hlock, hoff, hw⟩

omit h in
theorem State.changes_quiet (hq : ∀ i : Fin 6, s.coefs[i].waiting = none) (d : Chan) : ¬s.changes d := by
  rintro ⟨-, -, i, hi, -⟩
  rw [hq i] at hi
  cases hi

theorem State.Checked.stands (hq : ∀ i : Fin 6, s.coefs[i].waiting = none) : s.Stands b := ⟨h.map, hq⟩

/-- The result of a check reaches the record, the balance or the retry delay, the suspect field and the Event Queue. -/
theorem State.Checked.decidedBy {r : CheckRecord} (hd : s.decidedAt b = some (c, r)) (hj : c ∉ (s.selection b).judged)
    (hw : s.check.kind = .manual → (s.boundary b).check.sweep.getLsbD c.val = false) : s.DecidedBy b c r := by
  have hres := State.resultFor_decided hd
  have hframe := State.boundary_account_frame hj
  have hsecond : b = true → let t := (s.boundary b).channels[c].account
      t.record = some r
        ∧ (r.counts → t.retry = s.channels[c].account.retry - 1
          ∧ (¬s.channels[c].account.expires s.control.mode s.router.active.channels[c] →
            t.balance = lowerBalance s.channels[c].account.balance)
          ∧ (s.channels[c].account.expires s.control.mode s.router.active.channels[c] →
            t.balance = raisedBalance (lowerBalance s.channels[c].account.balance)
              ∨ t.balance = lowerBalance (raisedBalance s.channels[c].account.balance)))
        ∧ (¬r.counts → (t.retry = 60 ∨ t.retry = 59)
          ∧ (¬s.channels[c].account.expires s.control.mode s.router.active.channels[c] →
            t.balance = s.channels[c].account.balance)
          ∧ (s.channels[c].account.expires s.control.mode s.router.active.channels[c] →
            t.balance = raisedBalance s.channels[c].account.balance)) := by
    rintro rfl
    rw [State.accountAt_true, hres, h.map] at hframe
    intro t
    rw [show t = _ from hframe]
    exact CheckAccount.atSecond_decided (.refl _) ..
  have hslice : b = false → (s.boundary b).channels[c].account = { s.channels[c].account.result r with
      quiet := (s.boundary b).channels[c].account.quiet } := by
    rintro rfl
    rw [State.accountAt_false, hres] at hframe
    exact hframe
  refine ⟨?_, fun hc => ?_, fun hc => ?_, ?_, ?_, hw, fun x hx => State.boundary_raises_fault hd hx⟩
  · cases b with
    | true => exact (hsecond rfl).1
    | false =>
      rw [hslice rfl]
      by_cases hc : r.counts
      · rw [CheckAccount.result_counted hc]
      · rw [CheckAccount.result_uncounted hc]
  · cases b with
    | true =>
      obtain ⟨hr, hn, he⟩ := (hsecond rfl).2.1 hc
      exact ⟨hr, fun hne => hn fun h => hne ⟨rfl, h⟩, fun h => he h.2⟩
    | false =>
      rw [hslice rfl, CheckAccount.result_counted hc]
      exact ⟨rfl, fun _ => rfl, fun h => by cases h.1⟩
  · cases b with
    | true =>
      obtain ⟨hr, hn, he⟩ := (hsecond rfl).2.2 hc
      exact ⟨hr.imp_right fun h => ⟨rfl, h⟩, fun hne => hn fun h => hne ⟨rfl, h⟩, fun h => he h.2⟩
    | false =>
      rw [hslice rfl, CheckAccount.result_uncounted hc]
      exact ⟨.inl rfl, fun _ => rfl, fun h => by cases h.1⟩
  · rintro rfl
    have hquiet : (s.channels[c].account.result r).quiet = s.channels[c].account.quiet
        ∧ (s.channels[c].account.result r).timer = s.channels[c].account.timer := by
      by_cases hc : r.counts
      · rw [CheckAccount.result_counted hc]; exact ⟨rfl, rfl⟩
      · rw [CheckAccount.result_uncounted hc]; exact ⟨rfl, rfl⟩
    have haccount := State.boundary_account hj
    rw [State.accountAt_false, hres] at haccount
    refine ⟨by rw [hslice rfl]; exact hquiet.2, fun hch => ?_, fun hch => ?_⟩
    · rw [haccount, State.rowAt_disturbed (h.disturbed_some hch)]; rfl
    · rw [haccount, (State.rowAt_undisturbed (h.disturbed_none hch)).2.1]; exact hquiet.1
  · rw [State.boundary_suspect, hres]; rfl

/-- A check that its boundary ends, its CHECKING channels disturbed or handed an end. -/
theorem State.Checked.endedBy {k : CheckEngine} {r : CheckRecord} {ends withdrawn : ChanSet}
    (he : s.closing b = .ended k c r ends withdrawn) (hdrive : k.drive = s.check.drive) (hsweep : k.sweep = s.check.sweep)
    (hkind : r.kind = s.check.kind)
    (hends : ∀ d : Chan, s.check.involved d = true → s.channels[d].cond.state = .checking →
      s.changes d ∨ ends.getLsbD d.val = true) : s.EndedBy b c r := by
  obtain ⟨hd, -, -, hoff, hstage⟩ := State.boundary_ended he
  refine ⟨hoff, hstage, fun hhub => ?_, fun d hi hch => ?_, fun hw => ?_⟩
  · rw [State.ended_hub he hhub, CheckEngine.driveOff, CheckEngine.driveOff, hdrive]
  · obtain ⟨y, hy, ht⟩ := h.slice_of hch (by decide)
    refine State.boundary_settled hy ht ?_
    by_cases hd : s.changes d
    · exact .inl (h.disturbed_some hd)
    · refine .inr ⟨h.disturbed_none hd, ?_⟩
      rw [State.counted_request, he]
      exact requestAfter_ended ((hends d hi hch).resolve_left hd) _
  · obtain ⟨hj, hs⟩ := State.ended_unswept he (by rw [hkind, hsweep]; exact hw)
    exact h.decidedBy hd hj fun _ => hs

theorem State.Checked.commitEnds_iff : s.check.commitEnds c s.router.active (s.opening b).router.active
    (fun d => (s.disturbed (s.opening b) d).isSome) = true ↔ ∃ d, s.check.involved d = true ∧ s.changes d := by
  rw [h.map, CheckEngine.commitEnds_same]
  refine exists_congr fun d => and_congr_right fun _ => ⟨fun hd => by_contra fun hn => ?_, fun hd => ?_⟩
  · rw [h.disturbed_none hn] at hd; cases hd
  · rw [h.disturbed_some hd]; rfl

/-- A commit ends a check whose channels a coefficient change reaches, whatever it would do else. -/
theorem State.Checked.ends_commit (hd : ∃ d, s.check.involved d = true ∧ s.changes d)
    (hs : s.check.stage = .starting ∨ (s.check.takes ∧ s.channels[c].cond.state = .checking
      ∧ s.check.losesData (s.recordOf c sl) = false)) :
    s.EndedBy b c (CheckRecord.incomplete .commit (s.opening b).time.runningSecond s.check.kind) := by
  have hcommit := h.commitEnds_iff.mpr hd
  rcases hs with hs | ⟨hs, hch, hl⟩
  · have he := State.closing_starting (b := b) h.channel hs
    rw [if_pos hcommit] at he
    refine h.endedBy he rfl rfl rfl fun d _ hch => ?_
    have := ((h.check.2.2 d).1 hch).2.1
    rw [hs] at this
    cases this
  · have he := State.closing_recorded (b := b) h.channel hs h.slice (h.takenIn.trans hch)
    rw [if_neg (by rw [hl]; decide), if_pos hcommit] at he
    refine h.endedBy he rfl rfl rfl fun d hi _ => ?_
    rw [involvedSet_getLsbD, hi, Bool.true_and, Bool.not_eq_true']
    by_cases hd : s.changes d
    · exact .inl hd
    · exact .inr (by rw [h.disturbed_none hd]; rfl)

/-- A slice without data where it counts ends the check. -/
theorem State.Checked.ends_data (hs : s.check.takes) (hch : s.channels[c].cond.state = .checking)
    (hl : s.check.losesData (s.recordOf c sl) = true) :
    s.EndedBy b c (CheckRecord.incomplete .data (s.opening b).time.runningSecond s.check.kind) := by
  have he := State.closing_recorded (b := b) h.channel hs h.slice (h.takenIn.trans hch)
  rw [if_pos hl] at he
  refine h.endedBy he rfl rfl rfl fun d hi _ => .inr ?_
  rw [involvedSet_getLsbD, hi]; rfl

/-- Without a coefficient change, a CHECKING slice that loses no data is taken into its phase. -/
theorem State.Checked.closing_phase (hq : ∀ i : Fin 6, s.coefs[i].waiting = none) (hs : s.check.takes)
    (hch : s.channels[c].cond.state = .checking) (hl : s.check.losesData (s.recordOf c sl) = false) : s.closing b =
      let t := s.check.takePhase (s.recordOf c sl) s.router.active.channels[c].sourceSlot
      if t.2.2 then .ended t.1 c (t.1.judge s.router.active.channels[c] (s.opening b).time.runningSecond)
        (s.check.involvedSet fun _ => true) 0
      else { CheckClose.quiet t.1 with cells := t.2.1 } := by
  have he := State.closing_recorded (b := b) h.channel hs h.slice (h.takenIn.trans hch)
  have hno : ¬s.check.commitEnds c s.router.active (s.opening b).router.active
      (fun d => (s.disturbed (s.opening b) d).isSome) = true := fun hcommit => by
    obtain ⟨d, -, hd⟩ := h.commitEnds_iff.mp hcommit
    exact State.changes_quiet hq d hd
  rwa [if_neg (by rw [hl]; decide), if_neg hno] at he

/-- The check of a phase that goes on. -/
theorem State.Checked.phase_goes (hq : ∀ i : Fin 6, s.coefs[i].waiting = none) (hs : s.check.takes)
    (hch : s.channels[c].cond.state = .checking) (hl : s.check.losesData (s.recordOf c sl) = false) {k : CheckEngine}
    {cells : List Cell} (hk : s.check.takePhase (s.recordOf c sl) s.router.active.channels[c].sourceSlot = (k, cells, false))
    (hks : k.stage ≠ .starting) (hki : k.stage ≠ .idle) :
    (s.boundary b).check = k ∧ (s.closing b).cells = cells := by
  have he := h.closing_phase hq hs hch hl
  rw [hk] at he
  exact ⟨(State.boundary_goes he hks hki).1, by rw [he]; rfl⟩

end

theorem Slice.hasData_iff (sl : Slice) : sl.hasData = true ↔ 4500 ≤ sl.n ∧ sl.holdOver = false := by
  simp [Slice.hasData]

theorem State.recordOf_hasData (s : State) (c : Chan) (sl : Slice) : (s.recordOf c sl).hasData = sl.hasData := by
  unfold State.recordOf SliceRecord.hasData Slice.close
  dsimp only
  cases sl.hasData with
  | false => simp
  | true => simp

/-- The intensity that a slice with data brings to a phase. -/
theorem State.recordOf_intensity (s : State) (c : Chan) {sl : Slice} (h : 4500 ≤ sl.n ∧ sl.holdOver = false) :
    ((s.recordOf c sl).levels.map (·.intensity)).getD [] =
      levelIntensity s.router.active.channels[c].sensitivity sl.meanSquare := by
  have hl : (s.recordOf c sl).levels = some (sl.levels s.router.active.channels[c].sensitivity) := by
    unfold State.recordOf Slice.close
    exact if_pos (sl.hasData_iff.mpr h)
  rw [hl, Option.map_some, Option.getD_some, Slice.levels]

section
variable {k : CheckEngine} (r : SliceRecord) (slot : Fin 64)

theorem CheckEngine.takePhase_pre (h : k.stage = .pre) : k.takePhase r slot =
    (let summed := { k with
      phaseSlices := k.phaseSlices + 1, preSum := addIntensity k.preSum ((r.levels.map (·.intensity)).getD [])
      preOverload := k.preOverload || r.overload }
    if 7 ≤ k.phaseSlices then
      ({ summed with stage := .establish, phaseSlices := 0, drive := some slot }, [hubCell driveOnCode slot], false)
    else (summed, [], false)) := by
  simp only [CheckEngine.takePhase, h, Nat.reduceLeDiff]

theorem CheckEngine.takePhase_establish (h : k.stage = .establish) : k.takePhase r slot =
    if 1 ≤ k.phaseSlices then ({ k with stage := .measure, phaseSlices := 0 }, [], false)
    else ({ k with phaseSlices := k.phaseSlices + 1 }, [], false) := by
  simp only [CheckEngine.takePhase, h, Nat.reduceLeDiff]

theorem CheckEngine.takePhase_measure (h : k.stage = .measure) : k.takePhase r slot =
    ({ k with
      phaseSlices := k.phaseSlices + 1, measureSum := addIntensity k.measureSum ((r.levels.map (·.intensity)).getD [])
      measureOverload := k.measureOverload || r.overload }, [], decide (7 ≤ k.phaseSlices)) := by
  simp only [CheckEngine.takePhase, h, Nat.reduceLeDiff]

end

/-! ### The silent count of a LIVE slice (R38, R51) -/

section
variable {k : Condition} {s : State} {d : Chan} {x : Slice}

theorem Condition.count_live {r : SliceRecord} (h : r.takenIn = .live) : (k.count r).silentCount =
    if r.signal = .silent then min 40 (k.silentCount + 1) else if r.signal = .empty then k.silentCount else 0 := by
  unfold Condition.count
  rw [h]
  dsimp only
  cases r.signal <;> rfl

theorem State.recordOf_signal : (s.recordOf d x).signal = x.signal s.router.active.channels[d].absentThreshold := rfl

/-- A slice with samples whose span reaches the threshold ends the silent count. -/
theorem State.recordOf_present (ht : x.takenIn = .live) (hn : 0 < x.n)
    (hspan : (s.router.active.channels[d].absentThreshold : Int) ≤ x.span) :
    (k.count (s.recordOf d x)).silentCount = 0 := by
  rw [Condition.count_live (show (s.recordOf d x).takenIn = .live from ht), State.recordOf_signal, Slice.signal,
    if_neg hn.ne', if_neg (Int.not_lt.mpr hspan)]
  cases x.hasData <;> simp

/-- One whose span stays below it adds to the count. -/
theorem State.recordOf_silent (ht : x.takenIn = .live) (hn : 0 < x.n)
    (hspan : x.span < s.router.active.channels[d].absentThreshold) :
    (k.count (s.recordOf d x)).silentCount = min 40 (k.silentCount + 1) := by
  rw [Condition.count_live (show (s.recordOf d x).takenIn = .live from ht), State.recordOf_signal, Slice.signal,
    if_neg hn.ne', if_pos hspan, if_pos rfl]

theorem AbsentIntegration.slices_pos (a : AbsentIntegration) : 0 < a.slices := by cases a <;> decide

end

/-! ### STARTING and ENDING (R133, R134) -/

theorem CheckEngine.resolveStart_taken {k : CheckEngine} {c : Chan} {taken : Chan → Bool} {n : Nat} (hs : k.stage = .starting)
    (hc : k.channel = some c) (h : ∀ d, k.involved d = true → taken d = true) :
    k.resolveStart taken n = .quiet { k with stage := .pre, phaseSlices := 0 } := by
  have hall : ((List.finRange 16).all fun d => !k.involved d || taken d) = true := by
    rw [List.all_eq_true]
    intro d _
    cases hi : k.involved d with
    | false => rfl
    | true => rw [h d hi]; rfl
  simp only [CheckEngine.resolveStart, hs, hc, hall, if_true]

theorem CheckEngine.resolveStart_refused {k : CheckEngine} {c : Chan} {taken : Chan → Bool} {n : Nat} (hs : k.stage = .starting)
    (hc : k.channel = some c) (h : ∃ d, k.involved d = true ∧ taken d = false) :
    k.resolveStart taken n =
      { engine := { k with stage := .ending }.sweepResult c (CheckRecord.incomplete .state n k.kind)
        cells := [], decided := some (c, CheckRecord.incomplete .state n k.kind), ends := k.involvedSet taken
        withdrawn := 0 } := by
  have hall : ((List.finRange 16).all fun d => !k.involved d || taken d) = false := by
    obtain ⟨d, hi, ht⟩ := h
    rw [List.all_eq_false]
    exact ⟨d, List.mem_finRange d, by rw [hi, ht]; decide⟩
  simp only [CheckEngine.resolveStart, hs, hc, hall, Bool.false_eq_true, if_false]

section
variable {s : State} {b : Bool} {c : Chan} {sl : Slice} (h : s.Checked b c sl)
  (hq : ∀ i : Fin 6, s.coefs[i].waiting = none)
include h hq

/-- In ENDING the check becomes idle, and every CHECKING channel, its end held, settles. -/
theorem State.Checked.ending (hs : s.check.stage = .ending) : (s.boundary b).check.drive = none
    ∧ ((s.boundary b).check.stage = .idle ∨ (s.boundary b).check.stage = .starting)
    ∧ (s.boundary b).trunk.hub = s.trunk.hub
    ∧ ∀ d : Chan, s.channels[d].cond.state = .checking → (s.boundary b).channels[d].cond.state = .settling := by
  have hclose : s.closing b = .quiet s.check.toIdle := by
    rw [State.closing_eq]
    exact CheckEngine.atBoundary_ending _ _ _ _ _ _ h.channel hs
  have hidle := CheckEngine.afterSelection_idle (k := s.check.toIdle) rfl rfl (s.opening b).router.active (s.selection b)
    (s.opening b).time.runningSecond
  have hcheck : (s.boundary b).check = _ := State.boundary_check s b
  have hres := State.resolved_quiet (s := s) (b := b) (by rw [hclose]; exact Stage.noConfusion)
  rw [hres, hclose] at hcheck
  refine ⟨by rw [hcheck]; exact hidle.1, by rw [hcheck]; exact hidle.2, State.boundary_hub_none (by rw [hclose]; rfl),
    fun d hch => ?_⟩
  obtain ⟨y, hy, ht⟩ := h.slice_of hch (by decide)
  refine State.boundary_settled hy ht (.inr ⟨(h.stands hq).undisturbed d, ?_⟩)
  rw [State.counted_request, hclose]
  exact (requestAfter_none _).trans (((h.check.2.2 d).1 hch).2.2 hs)

/-- In STARTING nothing happens before the states are decided. -/
theorem State.Checked.closing_starting (hs : s.check.stage = .starting) : s.closing b = .quiet s.check := by
  rw [State.closing_starting h.channel hs, if_neg]
  intro hcommit
  obtain ⟨d, -, hd⟩ := h.commitEnds_iff.mp hcommit
  exact State.changes_quiet hq d hd

/-- A start is taken from LIVE, with no restore held and no absence to come. -/
theorem State.Checked.checkStart_iff (hs : s.check.stage = .starting) (d : Chan) : s.rowAt b d = .checkStart ↔
    s.channels[d].slice.map (·.takenIn) = some .live ∧ s.channels[d].cond.request = .startHeld
      ∧ s.channels[d].cond.restoreHeld = false
      ∧ (s.counted b d).silentCount < s.router.active.channels[d].absentIntegration.slices := by
  have hr : (s.counted b d).request = s.channels[d].cond.request := by
    rw [State.counted_request, h.closing_starting hq hs]
    exact requestAfter_none _
  rw [State.rowAt_checkStart_iff ((h.stands hq).undisturbed d), hr]

/-- Where every start is taken, the check enters PRE. -/
theorem State.Checked.starts (hs : s.check.stage = .starting) (hall : ∀ d, s.check.involved d = true → s.rowAt b d = .checkStart) :
    (s.boundary b).check = { s.check with stage := .pre, phaseSlices := 0 }
      ∧ ∀ d : Chan, s.check.involved d = true → (s.boundary b).channels[d].cond.state = .checking := by
  have hres : s.resolved b = .quiet { s.check with stage := .pre, phaseSlices := 0 } := by
    rw [State.resolved, h.closing_starting hq hs]
    exact CheckEngine.resolveStart_taken hs h.channel fun d hd => decide_eq_true (hall d hd)
  refine ⟨?_, fun d hd => ?_⟩
  · rw [State.boundary_check_busy (by rw [hres]; rfl), hres]; rfl
  · rw [State.boundary_state, hall d hd]; rfl

/-- Where one is refused, the check is ENDING with the result INCOMPLETE, reason "state", and the starts taken are handed an
end. -/
theorem State.Checked.refused (hs : s.check.stage = .starting)
    (hno : ∃ d, s.check.involved d = true ∧ s.rowAt b d ≠ .checkStart) :
    (s.boundary b).check.stage = .ending ∧ (s.boundary b).check.channel = some c
      ∧ s.DecidedBy b c (CheckRecord.incomplete .state (s.opening b).time.runningSecond s.check.kind)
      ∧ ∀ d : Chan, (s.boundary b).channels[d].cond.state = .checking →
        (s.boundary b).channels[d].cond.request = .endHeld := by
  have hclose := h.closing_starting hq hs
  have hres : s.resolved b = s.check.resolveStart (fun d => decide (s.rowAt b d = .checkStart))
      (s.opening b).time.runningSecond := by
    rw [State.resolved, hclose]; rfl
  rw [CheckEngine.resolveStart_refused hs h.channel (hno.imp fun d hd => ⟨hd.1, decide_eq_false hd.2⟩)] at hres
  have hframe := CheckEngine.sweepResult_frame { s.check with stage := .ending } c
    (CheckRecord.incomplete .state (s.opening b).time.runningSecond s.check.kind)
  have hbusy : (s.resolved b).engine.busy = true := by rw [hres]; dsimp only; rw [hframe]; rfl
  have hcheck := State.boundary_check_busy hbusy
  have hselect := State.selection_busy hbusy
  have hdecided : s.decidedAt b = some (c, CheckRecord.incomplete .state (s.opening b).time.runningSecond s.check.kind) := by
    rw [State.decidedAt, hclose, hres]; rfl
  refine ⟨by rw [hcheck, hres]; dsimp only; rw [hframe], by rw [hcheck, hres]; dsimp only; rw [hframe]; exact h.channel,
    h.decidedBy hdecided (by rw [hselect]; exact List.not_mem_nil) fun hk => ?_, fun d hch => ?_⟩
  · rw [hcheck, hres]
    dsimp only
    rw [CheckEngine.sweepResult_sweep, show (CheckRecord.incomplete .state _ s.check.kind).kind = _ from hk]
    simp
  · rw [State.boundary_state] at hch
    rcases Row.state_checking hch with hrow | ⟨-, hbefore⟩
    · have hstart := (h.checkStart_iff hq hs d).mp hrow
      have hinv := ((h.check.2.2 d).2 hstart.2.1).1
      rw [State.boundary_channel, hselect, Channel.afterSelection_frame, State.turnedChannel_cond]
      refine requestAfter_ended ?_ _
      rw [hres]
      dsimp only
      rw [involvedSet_getLsbD, hinv, hrow]; rfl
    · have := ((h.check.2.2 d).1 hbefore).2.1
      rw [hs] at this
      cases this

end

end Sys2Proof.Machine
end

section
/-! SUPPORT. The course of a check at slice and second boundaries, and at a map activation; O37 (R12, R25, R57, R132 to
R141). -/
namespace Sys2Proof.Machine

/-! ### A check at a map activation (R11, R12, R139) -/

/-- A check of a channel in service at a second boundary that activates a map, no coefficients waiting. -/
structure State.Activated (s : State) (c : Chan) (sl : Slice) (m : ChannelMap) : Prop where
  map : (s.opening true).router.active = m
  law : s.channelLaw
  check : s.checkLaw
  restarted : s.control.restarted = false
  coefs : ∀ i : Fin 6, s.coefs[i].waiting = none
  channel : s.check.channel = some c
  slice : s.channels[c].slice = some sl

/-- An activation disturbs a channel whose service or calibration it changes (R11, R12). -/
def State.remaps (s : State) (m : ChannelMap) (d : Chan) : Prop :=
  s.router.active.channels[d].enabled ≠ m.channels[d].enabled
    ∨ (s.router.active.channels[d].enabled = true ∧ m.channels[d].enabled = true
      ∧ calibrationDiffers s.router.active.channels[d] m.channels[d] = true)

/-- It gives the check's slot another sharer (R139). -/
def State.shares (s : State) (m : ChannelMap) (c d : Chan) : Prop :=
  s.check.involved d = false ∧ m.channels[d].enabled = true
    ∧ m.channels[d].sourceSlot = s.router.active.channels[c].sourceSlot
    ∧ (s.router.active.channels[d].enabled = false
      ∨ s.router.active.channels[d].sourceSlot ≠ s.router.active.channels[c].sourceSlot)

section
variable {s : State} {c : Chan} {sl : Slice} {m : ChannelMap} (h : s.Activated c sl m)
include h

theorem State.Activated.disturbed (d : Chan) : s.disturbed (s.opening true) d =
    disturbance s.router.active.channels[d] m.channels[d] false s.channels[d].cond.state := by
  rw [State.disturbed_eq, usesAffected_quiet h.coefs, h.map]

theorem State.Activated.disturbed_isSome (d : Chan) :
    (s.disturbed (s.opening true) d).isSome = true ↔ s.remaps m d := by
  rw [h.disturbed, disturbance, State.remaps]
  cases s.router.active.channels[d].enabled <;> cases m.channels[d].enabled <;> simp

theorem State.Activated.undisturbed {d : Chan} (hd : ¬s.remaps m d) : s.disturbed (s.opening true) d = none := by
  rwa [← Option.not_isSome_iff_eq_none, h.disturbed_isSome]

theorem State.Activated.commitEnds_iff : s.check.commitEnds c s.router.active (s.opening true).router.active
    (fun d => (s.disturbed (s.opening true) d).isSome) = true ↔
      (∃ d, s.check.involved d = true ∧ s.remaps m d) ∨ ∃ d, s.shares m c d := by
  rw [CheckEngine.commitEnds_iff, h.map]
  exact or_congr_left (exists_congr fun d => and_congr_right fun _ => h.disturbed_isSome d)

theorem State.Activated.slice_of {d : Chan} {x : ChannelState} (hx : s.channels[d].cond.state = x) (hn : x ≠ .off) :
    ∃ y, s.channels[d].slice = some y ∧ y.takenIn = x := by
  obtain ⟨y, hy, ht⟩ := Option.map_eq_some_iff.mp ((h.law d).2.2 (by rw [hx]; exact hn)).1
  exact ⟨y, hy, ht.trans hx⟩

theorem State.Activated.takenIn (hd : s.channels[c].cond.state = .checking) : sl.takenIn = .checking := by
  obtain ⟨y, hy, ht⟩ := h.slice_of hd (by decide)
  rw [h.slice] at hy
  cases hy
  exact ht

omit h in
/-- What a commit that ends a check leaves of the requests of its channels: starts withdrawn, or ends handed. -/
structure State.CommitEnded (s : State) (c : Chan) (ends withdrawn : ChanSet) : Prop where
  close : s.closing true = .ended s.check c
    (CheckRecord.incomplete .commit (s.opening true).time.runningSecond s.check.kind) ends withdrawn
  request : ∀ d, s.check.involved d = true → s.disturbed (s.opening true) d = none → ∀ q,
    (s.check.stage = .starting ∧ requestAfter ends withdrawn d q = .none) ∨ requestAfter ends withdrawn d q = .endHeld

/-- The commit ends a check in STARTING, or one whose CHECKING slice loses no data. -/
theorem State.Activated.ends (hcommit : (∃ d, s.check.involved d = true ∧ s.remaps m d) ∨ ∃ d, s.shares m c d)
    (hs : s.check.stage = .starting ∨ (s.check.takes ∧ s.channels[c].cond.state = .checking
      ∧ s.check.losesData (s.recordOf c sl) = false)) : ∃ ends withdrawn, s.CommitEnded c ends withdrawn := by
  have hcommits := h.commitEnds_iff.mpr hcommit
  rcases hs with hs | ⟨hs, hch, hl⟩
  · refine ⟨0, s.check.involvedSet fun _ => true, ?_, fun d hi _ q => .inl ⟨hs, ?_⟩⟩
    · rw [State.closing_starting h.channel hs, if_pos hcommits]
    · have : ((0 : ChanSet).getLsbD d.val) = false := by simp
      simp only [requestAfter, this, involvedSet_getLsbD, hi]
      rfl
  · refine ⟨s.check.involvedSet fun d => !(s.disturbed (s.opening true) d).isSome, 0, ?_,
      fun d hi hn q => .inr (requestAfter_ended ?_ q)⟩
    · rw [State.closing_recorded h.channel hs h.slice (h.takenIn hch), if_neg (by rw [hl]; decide), if_pos hcommits]
    · rw [involvedSet_getLsbD, hi, hn]; rfl

section
variable {ends withdrawn : ChanSet} (he : s.CommitEnded c ends withdrawn)
include he

omit h in
/-- The record and the retry delay of a check that the commit ends, its channel outside the arbiter's judgment. -/
theorem State.CommitEnded.record (hw : s.check.kind = .manual ∨ s.check.sweep.getLsbD c.val = false) :
    (s.boundary true).channels[c].account.record =
        some (CheckRecord.incomplete .commit (s.opening true).time.runningSecond s.check.kind)
      ∧ ((s.boundary true).channels[c].account.retry = 60 ∨ (s.boundary true).channels[c].account.retry = 59)
      ∧ (s.boundary true).check.sweep.getLsbD c.val = false := by
  obtain ⟨hj, hsweep⟩ := State.ended_unswept he.close hw
  have haccount := State.boundary_account_frame hj
  rw [State.accountAt_true, State.resultFor_decided (State.boundary_ended he.close).1] at haccount
  obtain ⟨hrecord, hretry⟩ := CheckAccount.atSecond_incomplete
    (r := CheckRecord.incomplete .commit (s.opening true).time.runningSecond s.check.kind) rfl s.channels[c].account
    (Config.order s.choices) c s.control.mode s.router.active.channels[c] (s.opening true).router.active.channels[c]
    (s.closedSecond true c)
  rw [haccount]
  exact ⟨hrecord, hretry, hsweep⟩

/-- A CHECKING channel of the check that the activation leaves alone takes its end. -/
theorem State.Activated.takesEnd {d : Chan} (hi : s.check.involved d = true) (hn : s.disturbed (s.opening true) d = none)
    (hch : s.channels[d].cond.state = .checking) : s.rowAt true d = .checkEnd := by
  obtain ⟨y, hy, ht⟩ := h.slice_of hch (by decide)
  refine State.rowAt_checkEnd hn hy ht ?_
  rw [State.counted_request, he.close]
  refine (he.request d hi hn _).resolve_left fun hs => ?_
  have := ((h.check.2.2 d).1 hch).2.1
  rw [hs.1] at this
  cases this

omit he in
/-- One that the new map disables is OFF. -/
theorem State.Activated.off {d : Chan} (hoff : m.channels[d].enabled = false) :
    (s.boundary true).channels[d].cond.state = .off := by
  rw [State.boundary_state]
  cases hold : s.router.active.channels[d].enabled with
  | true => rw [State.rowAt_disturbed ((h.disturbed d).trans (by simp only [disturbance, hold, hoff]; rfl))]; rfl
  | false =>
    have hstate : s.channels[d].cond.state = .off := (h.law d).1.mpr (.inl hold)
    rw [State.rowAt_unsliced ((h.disturbed d).trans (by simp only [disturbance, hold, hoff]; rfl)) ((h.law d).2.1 hstate).1
      h.restarted]
    exact hstate

/-- One newly calibrated, or CHECKING, settles. -/
theorem State.Activated.settles {d : Chan} (hi : s.check.involved d = true) (hon : m.channels[d].enabled = true)
    (hwhy : calibrationDiffers s.router.active.channels[d] m.channels[d] = true ∨ s.channels[d].cond.state = .checking) :
    (s.boundary true).channels[d].cond.state = .settling := by
  rw [State.boundary_state]
  cases hold : s.router.active.channels[d].enabled with
  | false => rw [State.rowAt_disturbed ((h.disturbed d).trans (by simp only [disturbance, hold, hon]; rfl))]; rfl
  | true =>
    by_cases hdiff : calibrationDiffers s.router.active.channels[d] m.channels[d] = true
    · rw [State.rowAt_disturbed ((h.disturbed d).trans (by simp only [disturbance, hold, hon, hdiff]; rfl))]; rfl
    · rw [h.takesEnd he hi (h.undisturbed ?_) (hwhy.resolve_left hdiff)]
      · rfl
      · rintro (hne | hd)
        · exact hne (hold.trans hon.symm)
        · exact hdiff hd.2.2

/-- None is CHECKING any more. -/
theorem State.Activated.unchecked {d : Chan} (hi : s.check.involved d = true) :
    (s.boundary true).channels[d].cond.state ≠ .checking := by
  rw [State.boundary_state]
  intro hch
  cases hrow : s.disturbed (s.opening true) d with
  | some r =>
    rw [State.rowAt_disturbed hrow] at hch
    rcases State.disturbed_settles hrow with rfl | rfl | rfl | rfl <;> cases hch
  | none =>
    rcases Row.state_checking hch with hstarts | ⟨hkept, hbefore⟩
    · have hstart := ((State.rowAt_checkStart_iff hrow).mp hstarts).2.1
      rw [State.counted_request, he.close] at hstart
      rcases he.request d hi hrow s.channels[d].cond.request with ⟨-, hr⟩ | hr <;> cases hr.symm.trans hstart
    · rw [h.takesEnd he hi hrow hbefore] at hkept; cases hkept

end

/-- An activation that neither disturbs the check nor gives its slot a sharer leaves it running. -/
theorem State.Activated.goes (hno : ¬((∃ d, s.check.involved d = true ∧ s.remaps m d) ∨ ∃ d, s.shares m c d))
    (hs : s.check.takes) (hch : s.channels[c].cond.state = .checking) (hl : s.check.losesData (s.recordOf c sl) = false)
    (hm : s.check.stage = .measure → s.check.phaseSlices < 7) :
    (s.boundary true).check.channel = some c ∧ (s.boundary true).check.companions = s.check.companions
      ∧ (s.boundary true).check.kind = s.check.kind ∧ (s.boundary true).check.takes
      ∧ (s.boundary true).channels[c].account.record = s.channels[c].account.record
      ∧ ∀ d : Chan, s.check.involved d = true → s.channels[d].cond.state = .checking →
        s.channels[d].cond.request ≠ .endHeld → (s.boundary true).channels[d].cond.state = .checking := by
  obtain ⟨hlast, htakes⟩ := CheckEngine.takePhase_goes hs hm (s.recordOf c sl) s.router.active.channels[c].sourceSlot
  have hframe := s.check.takePhase_frame (s.recordOf c sl) s.router.active.channels[c].sourceSlot
  have hclose : s.closing true =
      { CheckClose.quiet (s.check.takePhase (s.recordOf c sl) s.router.active.channels[c].sourceSlot).1 with
        cells := (s.check.takePhase (s.recordOf c sl) s.router.active.channels[c].sourceSlot).2.1 } := by
    rw [State.closing_recorded h.channel hs h.slice (h.takenIn hch), if_neg (by rw [hl]; decide), if_neg (mt h.commitEnds_iff.mp hno)]
    exact if_neg (by rw [hlast]; decide)
  obtain ⟨hgo, hdecided, hselection⟩ := State.boundary_goes hclose
    (by rcases htakes with h | h | h <;> rw [h] <;> decide) (by rcases htakes with h | h | h <;> rw [h] <;> decide)
  rw [hgo]
  refine ⟨by rw [hframe]; exact h.channel, by rw [hframe], by rw [hframe], htakes, ?_, fun d hi hch hr => ?_⟩
  · rw [State.boundary_account_frame (by rw [hselection]; exact List.not_mem_nil), State.accountAt_true, hdecided]
    exact CheckAccount.atSecond_record ..
  · have hnone := h.undisturbed fun hd => hno (.inl ⟨d, hi, hd⟩)
    obtain ⟨y, hy, ht⟩ := h.slice_of hch (by decide)
    rw [State.boundary_state, State.rowAt_checking hnone hy ht ?_ h.restarted]
    · exact hch
    · rw [State.counted_request, hclose]
      exact fun he => hr ((requestAfter_none _).symm.trans he)

end

/-- Settles O37. -/
theorem checkRunsItsPhases : Obligations.CheckRunsItsPhases := by
  refine ⟨?_, ?_⟩
  · intro second s c sl hb hlaw hcheck hrestarted hc hsl
    have hmap : (s.opening second).router.active = s.router.active := by
      cases second with
      | true => rw [State.opening_true_router, Router.activate_none hb.2]
      | false => rfl
    have hk : s.Checked second c sl := ⟨hmap, hlaw, hcheck, hrestarted, hc, hsl⟩
    obtain ⟨mark, hexec⟩ := exec_boundary (s := s) (b := second) (by
      cases second with
      | true => exact hb.1
      | false => exact hb)
    refine ⟨_, hexec, ?_⟩
    intro k e checking quiet data changes i overloaded incomplete cells driveOff counted account now down up expires decided
      ended
    have hsecond : (s.boundary second).time.runningSecond = (s.opening second).time.runningSecond :=
      s.boundary_runningSecond second
    have hincomplete (why : CheckReason) :
        incomplete why = CheckRecord.incomplete why (s.opening second).time.runningSecond k.kind := by
      rw [← hsecond]; rfl
    have hdata : data ↔ sl.hasData = true := sl.hasData_iff.symm
    have hdecided (r : CheckRecord) (h : s.DecidedBy second c r) : decided r := by
      refine ⟨h.record, h.counted, h.uncounted, h.inside, h.suspect.trans ?_, h.unswept, h.fault⟩
      cases r.code <;> rfl
    have hended (r : CheckRecord) (h : s.EndedBy second c r) : ended r := by
      refine ⟨h.drive, h.stage, fun hhub => (h.hub hhub).trans ?_, h.settled, fun hw => hdecided r (h.decided hw)⟩
      change s.check.driveOff = (match s.check.drive with | some slot => _ | none => [])
      unfold CheckEngine.driveOff
      cases s.check.drive <;> rfl
    refine ⟨fun hs hq hch hd => ?_, fun hs hq hch => ?_, fun hs hq hch hd => ?_, fun hs hq hch hd => ?_, fun hs hd => ?_,
      fun hs hq => ?_, fun hs hq => ⟨fun hall => ?_, fun hno => ?_⟩⟩
    · have hl : s.check.losesData (s.recordOf c sl) = false := by
        rw [CheckEngine.losesData, State.recordOf_hasData, hdata.mp hd]; simp
      have hphase := CheckEngine.takePhase_pre (s.recordOf c sl) e.sourceSlot hs
      rw [State.recordOf_intensity s c hd] at hphase
      intro summed
      refine ⟨fun h7 => ?_, fun h7 => ?_⟩
      · rw [if_neg (by omega)] at hphase
        obtain ⟨hgo, hcells⟩ := hk.phase_goes hq (.inl hs) hch hl hphase (by rw [hs]; decide) (by rw [hs]; decide)
        exact ⟨hgo, State.boundary_hub_none hcells⟩
      · rw [if_pos h7] at hphase
        obtain ⟨hgo, hcells⟩ := hk.phase_goes hq (.inl hs) hch hl hphase Stage.noConfusion Stage.noConfusion
        refine ⟨hgo, fun hhub => ?_⟩
        rw [show (_ : State).trunk.hub = _ from State.boundary_hub_empty hhub (by rw [hcells]; simp), hcells]
        rfl
    · have hl : s.check.losesData (s.recordOf c sl) = false := by
        rw [CheckEngine.losesData, show s.check.stage = .establish from hs]; rfl
      have hphase := CheckEngine.takePhase_establish (s.recordOf c sl) e.sourceSlot hs
      by_cases h1 : 1 ≤ s.check.phaseSlices
      · rw [if_pos h1] at hphase
        obtain ⟨hgo, hcells⟩ := hk.phase_goes hq (.inr (.inl hs)) hch hl hphase Stage.noConfusion Stage.noConfusion
        exact ⟨State.boundary_hub_none hcells, fun h0 => absurd h0 (by change ¬s.check.phaseSlices = 0; omega), fun _ => hgo⟩
      · rw [if_neg h1] at hphase
        obtain ⟨hgo, hcells⟩ := hk.phase_goes hq (.inr (.inl hs)) hch hl hphase (by rw [hs]; decide) (by rw [hs]; decide)
        refine ⟨State.boundary_hub_none hcells, fun h0 => hgo.trans ?_, fun h => absurd h h1⟩
        rw [show s.check.phaseSlices = 0 from h0]
    · have hl : s.check.losesData (s.recordOf c sl) = false := by
        rw [CheckEngine.losesData, State.recordOf_hasData, hdata.mp hd]; simp
      have hphase := CheckEngine.takePhase_measure (s.recordOf c sl) e.sourceSlot hs
      rw [State.recordOf_intensity s c hd] at hphase
      intro summed
      refine ⟨fun h7 => ?_, fun h7 => ?_⟩
      · rw [decide_eq_false (by omega)] at hphase
        obtain ⟨hgo, hcells⟩ := hk.phase_goes hq (.inr (.inr hs)) hch hl hphase (by rw [hs]; decide) (by rw [hs]; decide)
        exact ⟨hgo, State.boundary_hub_none hcells⟩
      · rw [decide_eq_true h7] at hphase
        have hclose := hk.closing_phase hq (.inr (.inr hs)) hch hl
        rw [hphase] at hclose
        change ended (CheckEngine.judge summed e (s.boundary second).time.runningSecond)
        rw [hsecond]
        exact hended _ (hk.endedBy hclose rfl rfl rfl fun d hi _ => .inr (by rw [involvedSet_getLsbD, hi]; rfl))
    · have hl : s.check.losesData (s.recordOf c sl) = true := by
        rw [CheckEngine.losesData, State.recordOf_hasData, Bool.eq_false_iff.mpr (mt hdata.mpr hd)]
        rcases hs with hs | hs <;> rw [show s.check.stage = _ from hs] <;> rfl
      rw [hincomplete]
      exact hended _ (hk.ends_data (hs.elim .inl fun hs => .inr (.inr hs)) hch hl)
    · rw [hincomplete]
      refine hended _ (hk.ends_commit hd (hs.imp_right ?_))
      rintro ⟨hs, hch, hd⟩
      exact ⟨hs, hch, by rw [CheckEngine.losesData, State.recordOf_hasData, hdata.mp hd]; simp⟩
    · exact hk.ending hq hs
    · refine hk.starts hq hs fun d hd => (hk.checkStart_iff hq hs d).mpr ?_
      obtain ⟨hlive, hreq, hrestore, x, hx, hn, hspan⟩ := hall d hd
      obtain ⟨y, hy, ht⟩ := hk.slice_of hlive (by decide)
      rw [hx] at hy
      cases hy
      refine ⟨by rw [hx]; exact congrArg some ht, hreq, hrestore, ?_⟩
      rw [State.counted_silentCount _ _ _ hx, State.recordOf_present ht hn hspan]
      exact AbsentIntegration.slices_pos _
    · have hrefused : ∃ d, s.check.involved d = true ∧ s.rowAt second d ≠ .checkStart := by
        refine hno.imp fun d ⟨hi, hd⟩ => ⟨hi, fun hrow => ?_⟩
        obtain ⟨hlive, -, hrestore, hsilent⟩ := (hk.checkStart_iff hq hs d).mp hrow
        obtain ⟨y, hy, ht⟩ := Option.map_eq_some_iff.mp hlive
        rcases hd with hstate | hheld | ⟨x, hx, hn, h40, hspan, habsent⟩
        · have hoff : s.channels[d].cond.state ≠ .off := fun hoff => by
            rw [((hlaw d).2.1 hoff).1] at hy; cases hy
          obtain ⟨z, hz, hzt⟩ := hk.slice_of rfl hoff
          rw [hy] at hz
          cases hz
          exact hstate (hzt.symm.trans ht)
        · rw [hrestore] at hheld; cases hheld
        · rw [hx] at hy
          cases hy
          rw [State.counted_silentCount _ _ _ hx, State.recordOf_silent ht hn hspan] at hsilent
          omega
      obtain ⟨hstage, hchannel, hd, hheld⟩ := hk.refused hq hs hrefused
      rw [hincomplete]
      exact ⟨hstage, hchannel, hdecided _ hd, hheld⟩
  · intro s c sl m bank htaken hlaw hcheck hrestarted hq hpending hlock hc hsl
    have hmap : (s.opening true).router.active = m := by
      rw [State.opening_true_router, Router.activate_activated hpending (by omega) (by omega)]
    have hk : s.Activated c sl m := ⟨hmap, hlaw, hcheck, hrestarted, hq, hc, hsl⟩
    refine ⟨s.boundary true, exec_secondBoundary htaken, by rw [State.boundary_router, hmap], ?_⟩
    intro k old new differs disturbs shares data driven
    have hdiffers (d : Chan) : calibrationDiffers (old d) (new d) = true ↔ differs d := calibrationDiffers_iff _ _
    have hremaps : disturbs ↔ ∃ d, s.check.involved d = true ∧ s.remaps m d :=
      exists_congr fun d => and_congr_right fun _ => or_congr_right
        (and_congr_right fun _ => and_congr_right fun _ => (hdiffers d).symm)
    have hloses (hd : data) : s.check.losesData (s.recordOf c sl) = false := by
      rw [CheckEngine.losesData, State.recordOf_hasData]
      rcases hd.2 with hs | hs
      · rw [show s.check.stage = .establish from hs]; rfl
      · rw [sl.hasData_iff.mpr hs]; simp
    refine ⟨fun hends hs => ?_, fun hnd hns hdriven hd hm => ?_⟩
    · obtain ⟨ends, withdrawn, he⟩ := hk.ends (hends.imp_left hremaps.mp)
        (hs.imp_right fun ⟨hs, hd⟩ => ⟨hs, hd.1, hloses hd⟩)
      obtain ⟨-, -, -, hdrive, hstage⟩ := State.boundary_ended he.close
      refine ⟨hdrive, hstage, fun hhub => (State.ended_hub he.close hhub).trans ?_, fun hw => ?_, fun d hi => ?_⟩
      · change s.check.driveOff = (match s.check.drive with | some slot => _ | none => [])
        unfold CheckEngine.driveOff
        cases s.check.drive <;> rfl
      · obtain ⟨hrecord, hretry, hsweep⟩ := he.record hw
        rw [State.boundary_runningSecond]
        exact ⟨hrecord, hretry, fun _ => hsweep⟩
      · exact ⟨hk.off, fun hon hwhy => hk.settles he hi hon (hwhy.imp_left (hdiffers d).mpr), hk.unchecked he hi⟩
    · exact hk.goes (fun hor => hor.elim (fun hd => hnd (hremaps.mpr hd)) hns) hdriven hd.1 (hloses hd) hm

end Sys2Proof.Machine
end

section
/-! SUPPORT. Records handed over keep their chain's order, and what results they leave in the Result Store (R150, R154). -/
namespace Sys2Proof.Machine

/-! ### The order of one chain (R150, R155) -/

/-- At most one chain holds records of a kind. -/
abbrev OneHolds {α : Type} (p : α → Bool) (chains : List (List α)) : Prop :=
  chains.Pairwise fun a b => a.filter p = [] ∨ b.filter p = []

/-- Taking a head leaves the records of a kind in their order, where one chain holds them. -/
theorem takeChain_filter {α : Type} (p : α → Bool) : ∀ (k : Nat) (chains : List (List α)), k < chains.length →
    (∀ c ∈ chains, c ≠ []) → OneHolds p chains → ∃ x rest, takeChain k chains = (some x, rest)
      ∧ (x :: rest.flatten).filter p = chains.flatten.filter p ∧ OneHolds p rest
      ∧ ∀ a : List α, (∀ c ∈ chains, a.filter p = [] ∨ c.filter p = []) → ∀ c ∈ rest, a.filter p = [] ∨ c.filter p = []
  | _, [], h, _, _ => absurd h (Nat.not_lt_zero _)
  | _, [] :: _, _, hn, _ => absurd rfl (hn [] (by simp))
  | 0, (x :: xs) :: rest, _, _, ho => by
    have tail : ∀ {a : List α}, a.filter p = [] ∨ (x :: xs).filter p = [] → a.filter p = [] ∨ xs.filter p = [] :=
      fun h => h.imp_right fun h => by
        rw [List.filter_eq_nil_iff] at h ⊢
        exact fun y hy => h y (List.mem_cons_of_mem _ hy)
    obtain ⟨hhead, hrest⟩ := List.pairwise_cons.mp ho
    cases xs with
    | nil => exact ⟨x, rest, rfl, by simp, hrest, fun a ha c hc => ha c (List.mem_cons_of_mem _ hc)⟩
    | cons y ys =>
      refine ⟨x, (y :: ys) :: rest, rfl, by simp, List.pairwise_cons.mpr ⟨fun c hc => ?_, hrest⟩, fun a ha c hc => ?_⟩
      · exact (tail (hhead c hc).symm).symm
      · rcases List.mem_cons.mp hc with rfl | hc
        · exact tail (ha _ (List.mem_cons_self ..))
        · exact ha c (List.mem_cons_of_mem _ hc)
  | k + 1, (y :: ys) :: rest, h, hn, ho => by
    obtain ⟨hhead, hrest⟩ := List.pairwise_cons.mp ho
    obtain ⟨x, l, he, hf, hl, hkeep⟩ := takeChain_filter p k rest (by simpa using h)
      (fun c hc => hn c (List.mem_cons_of_mem _ hc)) hrest
    refine ⟨x, (y :: ys) :: l, by simp [takeChain, he], ?_, List.pairwise_cons.mpr ⟨hkeep _ hhead, hl⟩, fun a ha c hc => ?_⟩
    · by_cases hy : (y :: ys).filter p = []
      · rw [List.flatten_cons, List.flatten_cons, ← List.singleton_append, List.filter_append, List.filter_append, hy,
          List.nil_append, ← List.filter_append, List.singleton_append, hf, List.filter_append, hy, List.nil_append]
      · have hnone : rest.flatten.filter p = [] := by
          rw [List.filter_flatten]
          exact List.flatten_eq_nil_iff.mpr fun c hc => by
            obtain ⟨d, hd, rfl⟩ := List.mem_map.mp hc
            exact (hhead d hd).resolve_left hy
        rw [hnone] at hf
        rw [List.filter_cons] at hf
        split at hf
        · cases hf
        · rename_i hx
          rw [List.filter_cons, if_neg hx, List.flatten_cons, List.flatten_cons, List.filter_append, List.filter_append, hf,
            hnone]
    · rcases List.mem_cons.mp hc with rfl | hc
      · exact ha _ (List.mem_cons_self ..)
      · exact hkeep a (fun c hc => ha c (List.mem_cons_of_mem _ hc)) c hc

theorem interleave_filter {α : Type} (p : α → Bool) : ∀ (fuel : Nat) (keys : List Nat) (chains : List (List α)),
    chains.flatten.length ≤ fuel → (∀ c ∈ chains, c ≠ []) → OneHolds p chains →
    (interleave fuel keys chains).filter p = chains.flatten.filter p
  | 0, _, chains, h, _, _ => by
    have hnil : chains.flatten = [] := List.eq_nil_of_length_eq_zero (Nat.le_zero.mp h)
    rw [hnil]; rfl
  | _ + 1, _, [], _, _, _ => rfl
  | _ + 1, _, [c], _, _, _ => by simp [interleave]
  | fuel + 1, keys, c :: d :: l, h, hn, ho => by
    have hk := Nat.mod_lt (keys.headD 0) (show 0 < (c :: d :: l).length by simp)
    obtain ⟨x, rest, he, hf, hr, -⟩ := takeChain_filter p _ _ hk hn ho
    obtain ⟨x', rest', he', hp, hne⟩ := takeChain_spec _ _ hk hn
    obtain ⟨rfl, rfl⟩ : x' = x ∧ rest' = rest := by
      rw [he] at he'; injection he' with h1 h2; injection h1 with h1; exact ⟨h1.symm, h2.symm⟩
    have hlen := hp.length_eq
    have ih := interleave_filter p fuel keys.tail rest' (by simp only [List.length_cons] at hlen; omega) hne hr
    rw [interleave, he]
    · simp only [Option.toList_some, List.singleton_append]
      rw [← hf, List.filter_cons, List.filter_cons, ih]
    all_goals simp

/-- Where one chain holds the records of a kind, they are handed over in its order. -/
theorem handOver_filter (o : Order) {before after : Chains} {c : List Emission} {p : Emission → Bool}
    (hb : ∀ d ∈ before, d.filter p = []) (ha : ∀ d ∈ after, d.filter p = []) :
    (handOver o (before ++ c :: after)).filter p = c.filter p := by
  have hflat : ∀ l : Chains, ((l.filter fun c => !c.isEmpty).flatten).filter p = l.flatten.filter p := by
    intro l
    induction l with
    | nil => rfl
    | cons c l ih =>
      cases c with
      | nil => exact ih
      | cons x c =>
        rw [List.filter_cons_of_pos rfl, List.flatten_cons, List.flatten_cons, List.filter_append, List.filter_append, ih]
  have none : ∀ {l : Chains}, (∀ d ∈ l, d.filter p = []) → l.flatten.filter p = [] := fun h => by
    rw [List.filter_flatten]
    exact List.flatten_eq_nil_iff.mpr fun c hc => by obtain ⟨d, hd, rfl⟩ := List.mem_map.mp hc; exact h d hd
  have hone : OneHolds p (before ++ c :: after) := by
    refine List.pairwise_append.mpr ⟨?_, List.pairwise_cons.mpr ⟨fun d hd => .inr (ha d hd), ?_⟩, fun d hd _ _ => .inl (hb d hd)⟩
    · exact List.pairwise_of_forall_mem_list fun d hd _ _ => .inl (hb d hd)
    · exact List.pairwise_of_forall_mem_list fun d hd _ _ => .inl (ha d hd)
  rw [handOver, interleave_filter p _ _ _ (by simp [List.length_flatten]) (fun d hd => by simpa using (List.mem_filter.mp hd).2)
    (hone.filter _), hflat,
    List.flatten_append, List.flatten_cons, List.filter_append, List.filter_append, none hb, none ha, List.nil_append,
    List.append_nil]

/-! ### The Result Store (R150) -/

/-- The result a record hands over, if it is one. -/
def Emission.resultOf : Emission → Option WindowResult
  | .result r => some r
  | .event _ | .exceeded .. => none

/-- Results with the sequences the store gives them from `n` on. -/
def numbered : Nat → List WindowResult → List WindowResult
  | _, [] => []
  | n, r :: rest => { r with sequence := n } :: numbered ((n + 1) % 65536) rest

/-- The results of the records handed over are entered, in their order, and nothing else is. -/
theorem State.emitAll_results (n : Nat) : ∀ (l : List Emission) (s : State),
    (s.emitAll n l).results = (l.filterMap Emission.resultOf).foldl ResultStore.enter s.results
  | [], _ => rfl
  | e :: l, s => by
    have ih := State.emitAll_results n l (State.emitOne n s e)
    refine ih.trans ?_
    rw [List.filterMap_cons]
    cases e with
    | event x => exact congrArg (List.foldl _ · _) (s.storeEvent_results n x)
    | result r => exact congrArg (List.foldl _ · _) (s.storeResult_results n r)
    | exceeded g x => exact congrArg (List.foldl _ · _) (s.storeEvent_results n _)

theorem enterResults_next : ∀ (l : List WindowResult) (st : ResultStore), st.next < 65536 →
    (l.foldl ResultStore.enter st).next = (st.next + l.length) % 65536
  | [], st, h => (Nat.mod_eq_of_lt h).symm
  | r :: l, st, h => by
    refine (enterResults_next l (st.enter r) (Nat.mod_lt _ (by decide))).trans ?_
    simp only [ResultStore.enter, List.length_cons]
    omega

/-- The newest 512 results are held: those entered, and before them what is left of those held. -/
theorem enterResults_ring : ∀ (l mid : List WindowResult) (st : ResultStore) (old : List WindowResult),
    st.ring = old ++ mid → mid.length + l.length ≤ 512 →
    ∃ kept, (l.foldl ResultStore.enter st).ring = kept ++ (mid ++ numbered st.next l)
  | [], mid, st, old, h, _ => ⟨old, by simpa [numbered] using h⟩
  | r :: l, mid, st, old, h, hlen => by
    simp only [List.length_cons] at hlen
    have hstep : ∃ kept, (st.enter r).ring = kept ++ (mid ++ [{ r with sequence := st.next }]) := by
      simp only [ResultStore.enter]
      split
      · refine ⟨old.drop (st.ring.length - 511), ?_⟩
        rw [h, List.drop_append_of_le_length (by simp only [List.length_append]; omega), List.append_assoc]
      · exact ⟨old, by rw [h, List.append_assoc]⟩
    obtain ⟨kept, hk⟩ := hstep
    obtain ⟨kept', hk'⟩ := enterResults_ring l _ (st.enter r) kept hk (by
      simp only [List.length_append, List.length_singleton]; omega)
    exact ⟨kept', by simpa [numbered, List.append_assoc, ResultStore.enter] using hk'⟩

theorem numbered_group {g : Grp} : ∀ {l : List WindowResult} (n : Nat), (∀ r ∈ l, r.group ≠ g) →
    ∀ r ∈ numbered n l, r.group ≠ g
  | [], _, _, _, h => by cases h
  | x :: l, n, hl, r, h => by
    rcases List.mem_cons.mp h with rfl | h
    · exact hl x (List.mem_cons_self ..)
    · exact numbered_group _ (fun r hr => hl r (List.mem_cons_of_mem _ hr)) r h

/-- The newest result of a group is the last one of that group in the ring. -/
theorem ResultStore.newestOf_eq {st : ResultStore} {g : Grp} {r : WindowResult} {kept later : List WindowResult}
    (h : st.ring = kept ++ r :: later) (hr : r.group = g) (hl : ∀ x ∈ later, x.group ≠ g) :
    st.newestOf g = some (r.sequence : Int) := by
  have hnone : later.reverse.find? (fun x => decide (x.group = g)) = none :=
    List.find?_eq_none.mpr fun x hx => by simpa using hl x (List.mem_reverse.mp hx)
  rw [ResultStore.newestOf, h]
  simp [List.reverse_append, List.find?_append, hnone, hr]

/-! ### A result and its WINDOW EXCEEDED (R110, R154) -/

/-- What a group's closing windows hand over: results, and WINDOW EXCEEDED. -/
def Emission.ofWindow (g : Grp) : Emission → Bool
  | .result r => decide (r.group = g)
  | .exceeded h _ => decide (h = g)
  | .event _ => false

theorem State.emitAll_append (s : State) (n : Nat) (l k : List Emission) :
    s.emitAll n (l ++ k) = (s.emitAll n l).emitAll n k := List.foldl_append

/-- A WINDOW EXCEEDED handed over carries the sequence of its group's newest result (R154). -/
theorem State.emitAll_exceeded {s : State} {n : Nat} {l rest : List Emission} {g : Grp} {e : Event} {seq : Int}
    (h : (s.emitAll n l).results.newestOf g = some seq) :
    (s.emitAll n (l ++ .exceeded g e :: rest)).raised { e with detail := some seq } := by
  have he : (s.emitAll n l).emitAll n (.exceeded g e :: rest) =
      (s.emitAll n l).emitAll n (.event { e with detail := some seq } :: rest) := by
    rw [← h]; rfl
  rw [State.emitAll_append, he]
  exact State.emitAll_raised _ _ _ _ (List.mem_cons_self ..)

/-- A result handed over is held under its sequence, which a WINDOW EXCEEDED that follows it among the group's records
carries, where no more than 512 results are handed over. -/
theorem State.emitAll_judged {s : State} {n : Nat} {l : List Emission} {g : Grp} {r : WindowResult} {es rest first : List Emission}
    (hcount : (l.filterMap Emission.resultOf).length ≤ 512) (hr : r.group = g)
    (hl : l.filter (·.ofWindow g) = first ++ .result r :: (es ++ rest)) :
    ∃ x ∈ (s.emitAll n l).results.ring, x = { r with sequence := x.sequence }
      ∧ ∀ e more, es = .exceeded g e :: more → (s.emitAll n l).raised { e with detail := some (x.sequence : Int) } := by
  obtain ⟨l1, l', rfl, hfirst, hsecond⟩ := List.filter_eq_append_iff.mp hl
  obtain ⟨l2, l3, rfl, hl2, -, hl3⟩ := List.filter_eq_cons_iff.mp hsecond
  set before := s.emitAll n (l1 ++ l2) with hbefore
  set seq := before.results.next
  have hall : s.emitAll n (l1 ++ (l2 ++ .result r :: l3)) = (State.emitOne n before (.result r)).emitAll n l3 := by
    rw [hbefore, ← List.append_assoc, State.emitAll_append]; rfl
  have hentered : (State.emitOne n before (.result r)).results = before.results.enter r := before.storeResult_results n r
  have hring : ∃ kept, (before.results.enter r).ring = kept ++ [{ r with sequence := seq }] := ⟨_, rfl⟩
  obtain ⟨kept, hkept⟩ := hring
  have hshort : (l3.filterMap Emission.resultOf).length + 1 ≤ 512 := by
    simp only [List.filterMap_append, List.length_append, List.filterMap_cons, Emission.resultOf, List.length_cons] at hcount
    omega
  rw [hall]
  refine ⟨{ r with sequence := seq }, ?_, rfl, fun e more he => ?_⟩
  · rw [State.emitAll_results, hentered]
    obtain ⟨kept', hk⟩ := enterResults_ring (l3.filterMap Emission.resultOf) _ _ _ hkept (by
      rw [List.length_singleton]; omega)
    rw [hk]
    exact List.mem_append_right _ (List.mem_append_left _ (List.mem_singleton.mpr rfl))
  · rw [he, List.cons_append] at hl3
    obtain ⟨m, l4, rfl, hm, -, -⟩ := List.filter_eq_cons_iff.mp hl3
    have hnewest : ((State.emitOne n before (.result r)).emitAll n m).results.newestOf g = some (seq : Int) := by
      rw [State.emitAll_results, hentered]
      obtain ⟨kept', hk⟩ := enterResults_ring (m.filterMap Emission.resultOf) _ _ _ hkept (by
        simp only [List.filterMap_append, List.length_append] at hshort
        rw [List.length_singleton]; omega)
      refine ResultStore.newestOf_eq (r := { r with sequence := seq }) hk hr ?_
      refine numbered_group _ fun x hx => ?_
      obtain ⟨y, hy, hxy⟩ := List.mem_filterMap.mp hx
      have := hm y hy
      cases y with
      | result z =>
        obtain rfl : z = x := by simpa [Emission.resultOf] using hxy
        simpa [Emission.ofWindow] using this
      | event z => simp [Emission.resultOf] at hxy
      | exceeded h z => simp [Emission.resultOf] at hxy
    exact State.emitAll_exceeded hnewest

end Sys2Proof.Machine
end

section
/-! SUPPORT. A group through the reaches and the close of a second boundary: what they leave and how many windows come due (R81,
R99, R106, R127 to R129). -/
namespace Sys2Proof.Machine

/-! ### What the reaches leave (R99, R129) -/

section
variable (gr : Group) (x : ReachContext) (r : Reach) (first : Bool)

theorem Group.countSkipped_frame (h : Handed) :
    gr.countSkipped h = { gr with openWindow := (gr.countSkipped h).openWindow } := by cases h <;> rfl

theorem Group.comeDue_frame : gr.comeDue x r first = { gr with
    openWindow := (gr.comeDue x r first).openWindow, dueWindows := (gr.comeDue x r first).dueWindows } := by
  cases hw : gr.openWindow with
  | none => rw [Group.comeDue_none hw]
  | some w =>
    by_cases he : r.ends w
    · rw [Group.comeDue_ends hw he]
    · by_cases hc : x.cuts r first
      · rw [Group.comeDue_cut hw he hc]
      · rw [Group.comeDue_kept hw he hc]

/-- A reach moves windows and the alert, and nothing else of the group. -/
theorem Group.reach_frame : (gr.reach x r first).1 = { gr with
    openWindow := (gr.reach x r first).1.openWindow, dueWindows := (gr.reach x r first).1.dueWindows
    alertOn := (gr.reach x r first).1.alertOn, alertLevel := (gr.reach x r first).1.alertLevel
    alertPeriod := (gr.reach x r first).1.alertPeriod } := by
  have hdue := gr.comeDue_frame x r first
  unfold Group.reach
  dsimp only
  split
  · rw [Group.countSkipped_frame, Group.handLimit_eq, hdue]
  · split
    · rw [Group.countSkipped_frame, Group.handLimit_eq, hdue]
    · rw [Group.countSkipped_frame, hdue]

end

/-- Reaches taken in turn are those of the first part, then those of the rest. -/
theorem Group.reachList_append (x : ReachContext) (after : List Reach) : ∀ (before : List Reach) (first : Bool) (gr : Group),
    Group.reachList x first (before ++ after) gr =
      (let a := Group.reachList x first before gr
       let t := Group.reachList x (first && before.isEmpty) after a.1
       (t.1, a.2 ++ t.2))
  | [], first, gr => by simp [Group.reachList]
  | r :: before, first, gr => by
    simp only [List.cons_append, Group.reachList, Group.reachList_append x after before, Bool.false_and, Bool.and_false,
      List.isEmpty_cons, List.append_assoc]

theorem Group.reachList_frame (x : ReachContext) : ∀ (l : List Reach) (first : Bool) (gr : Group),
    let t := (Group.reachList x first l gr).1
    t = { gr with
      openWindow := t.openWindow, dueWindows := t.dueWindows, alertOn := t.alertOn, alertLevel := t.alertLevel
      alertPeriod := t.alertPeriod }
  | [], _, _ => rfl
  | r :: l, first, gr => by
    have hreach := gr.reach_frame x r first
    have hrest := Group.reachList_frame x l false (gr.reach x r first).1
    rw [Group.reachList]
    generalize (gr.reach x r first).1 = reached at hreach hrest ⊢
    exact hrest.trans (by rw [hreach])

/-! ### What the close leaves (R81, R127, R128) -/

theorem Group.rollingAlert_frame (gr : Group) (g : Grp) (e : GroupEntry) (second : Nat) :
    (gr.rollingAlert g e second).1 = { gr with
      rolling := (gr.rollingAlert g e second).1.rolling, alertOn := (gr.rollingAlert g e second).1.alertOn } := by
  unfold Group.rollingAlert
  split
  · rfl
  · split <;> rfl

/-- A close moves the ring, the rolling level, the alert and the windows' counts. -/
theorem Group.closeSecond_frame (gr : Group) (g : Grp) (e : GroupEntry) (second : Nat) (position : Option Pos) (cov : Bool) :
    let t := (gr.closeSecond g e second position cov).1
    t = { gr with
      ring := gr.forming.elim gr.ring fun f => enterRing (f.close second position cov) gr.ring
      rolling := t.rolling, alertOn := t.alertOn, alertAtClose := t.alertAtClose, openWindow := t.openWindow
      dueWindows := t.dueWindows } := by
  cases hf : gr.forming with
  | none => simp only [Group.closeSecond, hf]; rfl
  | some f =>
    simp only [Group.closeSecond, hf]
    rw [Group.windowRecord_frame, Group.rollingAlert_frame]
    rfl

/-! ### How many windows come due does not hang on the close (R99, R106) -/

/-- Two groups whose reaches run alike: their open windows end at the same position, and as many windows are due. -/
structure Group.SameCourse (a b : Group) : Prop where
  openWindow : a.openWindow.map (fun w => (w.day, w.stop)) = b.openWindow.map fun w => (w.day, w.stop)
  dueWindows : a.dueWindows.length = b.dueWindows.length

theorem Group.SameCourse.isNone {a b : Group} (h : a.SameCourse b) : a.openWindow.isNone = b.openWindow.isNone := by
  have := congrArg Option.isNone h.openWindow
  simpa using this

theorem Reach.ends_congr {r : Reach} {v w : Window} (h : (v.day, v.stop) = (w.day, w.stop)) : r.ends v ↔ r.ends w := by
  injection h with hd hs
  simp only [Reach.ends, Window.endsAt, hd, hs]

section
variable {a b : Group} {x : ReachContext} {r : Reach} {first : Bool}

theorem Group.SameCourse.comeDue (h : a.SameCourse b) : (a.comeDue x r first).SameCourse (b.comeDue x r first) := by
  have hopen := h.openWindow
  cases ha : a.openWindow with
  | none =>
    have hb : b.openWindow = none := by rw [ha] at hopen; simpa using hopen.symm
    rwa [Group.comeDue_none ha, Group.comeDue_none hb]
  | some v =>
    obtain ⟨w, hb, hkey⟩ : ∃ w, b.openWindow = some w ∧ (w.day, w.stop) = (v.day, v.stop) := by
      rw [ha] at hopen; exact Option.map_eq_some_iff.mp hopen.symm
    have hends : r.ends v ↔ r.ends w := Reach.ends_congr hkey.symm
    by_cases he : r.ends v
    · rw [Group.comeDue_ends ha he, Group.comeDue_ends hb (hends.mp he)]
      exact ⟨rfl, by simp [h.dueWindows]⟩
    · by_cases hc : x.cuts r first
      · rw [Group.comeDue_cut ha he hc, Group.comeDue_cut hb (mt hends.mpr he) hc]
        exact ⟨rfl, by simp [h.dueWindows]⟩
      · rwa [Group.comeDue_kept ha he hc, Group.comeDue_kept hb (mt hends.mpr he) hc]

theorem Group.openHere_congr (h : a.openWindow.isNone = b.openWindow.isNone) : a.openHere x r first = b.openHere x r first := by
  rw [Group.openHere, Group.openHere, h]

/-- The open window a reach leaves: the one that opens, or the one that did not come due, counted where it is skipped. -/
theorem Group.reach_openWindow (gr : Group) (x : ReachContext) (r : Reach) (first : Bool) :
    (gr.reach x r first).1.openWindow = (((gr.comeDue x r first).openHere x r first).or (gr.comeDue x r first).openWindow).map
      fun w => if r.handed.isSkipped && w.contains r.handed.pos then w.skip else w := by
  unfold Group.reach
  dsimp only
  cases (gr.comeDue x r first).openHere x r first with
  | some w => simp [Group.countSkipped_openWindow, Group.handLimit_eq]
  | none => dsimp only; split <;> simp [Group.countSkipped_openWindow, Group.handLimit_eq]

theorem Group.SameCourse.reach (h : a.SameCourse b) : (a.reach x r first).1.SameCourse (b.reach x r first).1 := by
  have hdue := h.comeDue (x := x) (r := r) (first := first)
  refine ⟨?_, by rw [Group.reach_dueWindows, Group.reach_dueWindows]; exact hdue.dueWindows⟩
  have hskip : ((fun w : Window => (w.day, w.stop)) ∘ fun w : Window =>
      if r.handed.isSkipped && w.contains r.handed.pos then w.skip else w) = fun w => (w.day, w.stop) := by
    funext w; simp only [Function.comp_apply]; split <;> rfl
  rw [Group.reach_openWindow, Group.reach_openWindow, Option.map_map, Option.map_map, hskip,
    Group.openHere_congr hdue.isNone]
  cases (b.comeDue x r first).openHere x r first with
  | some w => rfl
  | none => exact hdue.openWindow

end

theorem Group.SameCourse.reachList {x : ReachContext} : ∀ (l : List Reach) {first : Bool} {a b : Group}, a.SameCourse b →
    (Group.reachList x first l a).1.SameCourse (Group.reachList x first l b).1
  | [], _, _, _, h => h
  | _ :: l, _, _, _, h => Group.SameCourse.reachList l h.reach

/-- A record changes no window's end. -/
theorem Group.windowRecord_course (gr : Group) (r : GroupSecond) (first : Bool) : (gr.windowRecord r first).SameCourse gr := by
  have htake : ∀ (w : Window) (b : Bool), (if b then (w.takeRecord r).markMembership first else w).day = w.day
      ∧ (if b then (w.takeRecord r).markMembership first else w).stop = w.stop := fun w b => by
    cases b
    · exact ⟨rfl, rfl⟩
    · simp only [if_true, Window.markMembership, Window.takeRecord]; split <;> exact ⟨rfl, rfl⟩
  unfold Group.windowRecord
  split
  · exact ⟨by rw [Option.map_map]; rfl, List.length_map _⟩
  · refine ⟨?_, List.length_map _⟩
    rw [Option.map_map]
    exact congrArg (Option.map · _) (funext fun w => Prod.ext (htake w _).1 (htake w _).2)

theorem Group.closeSecond_course (gr : Group) (g : Grp) (e : GroupEntry) (second : Nat) (position : Option Pos) (cov : Bool) :
    (gr.closeSecond g e second position cov).1.SameCourse gr := by
  cases hf : gr.forming with
  | none => simp only [Group.closeSecond, hf]; exact ⟨rfl, rfl⟩
  | some f =>
    simp only [Group.closeSecond, hf]
    refine ⟨(Group.windowRecord_course ..).openWindow.trans ?_, (Group.windowRecord_course ..).dueWindows.trans ?_⟩
    · rw [Group.rollingAlert_frame]
    · rw [Group.rollingAlert_frame]

/-- A reach brings at most one window due. -/
theorem Group.reach_brings (gr : Group) (x : ReachContext) (r : Reach) (first : Bool) :
    (gr.reach x r first).1.dueWindows.length ≤ gr.dueWindows.length + 1 := by
  rw [Group.reach_dueWindows]
  cases hw : gr.openWindow with
  | none => rw [Group.comeDue_none hw]; omega
  | some w =>
    by_cases he : r.ends w
    · rw [Group.comeDue_ends hw he]; simp
    · by_cases hc : x.cuts r first
      · rw [Group.comeDue_cut hw he hc]; simp
      · rw [Group.comeDue_kept hw he hc]; omega

theorem Group.reachList_brings (x : ReachContext) : ∀ (l : List Reach) (first : Bool) (gr : Group),
    (Group.reachList x first l gr).1.dueWindows.length ≤ gr.dueWindows.length + l.length
  | [], _, _ => Nat.le_refl _
  | r :: l, first, gr => by
    have hr := gr.reach_brings x r first
    have hl := Group.reachList_brings x l false (gr.reach x r first).1
    simp only [Group.reachList, List.length_cons]
    omega

/-! ### A group that the activation disables (R14, R129) -/

/-- No window is open and the alert is OFF, without a level. -/
structure Group.Silent (gr : Group) : Prop where
  openWindow : gr.openWindow = none
  alertOn : gr.alertOn = false
  alertLevel : gr.alertLevel = none

section
variable {gr : Group} {x : ReachContext}

/-- The first handed position leaves nothing open. -/
theorem Group.reach_disabled (hw : x.wasEnabled = true) (he : x.enabled = false) (r : Reach) :
    (gr.reach x r true).1.Silent := by
  have hopen : (gr.comeDue x r true).openWindow = none := by
    rw [Group.comeDue_free fun w _ => .inr (.inr ⟨rfl, hw, he⟩)]
  have hhere : (gr.comeDue x r true).openHere x r true = none := Group.openHere_none (.inr (.inl he))
  refine ⟨by rw [Group.reach_openWindow, hhere, hopen]; rfl, ?_, ?_⟩
  all_goals simp [Group.reach, hhere, hw, he, Group.handLimit_eq]

/-- No later one opens anything. -/
theorem Group.Silent.reachList (he : x.enabled = false) : ∀ (l : List Reach) {gr : Group}, gr.Silent →
    (Group.reachList x false l gr).1.Silent
  | [], _, h => h
  | r :: l, gr, h => by
    refine Group.Silent.reachList he l ?_
    have hdue : gr.comeDue x r false = gr := Group.comeDue_none h.openWindow
    have hhere : gr.openHere x r false = none := Group.openHere_none (.inr (.inl he))
    refine ⟨by rw [Group.reach_openWindow, hdue, hhere, h.openWindow]; rfl, ?_, ?_⟩
    all_goals simp [Group.reach, hdue, hhere, h.openWindow, h.alertOn, h.alertLevel]

/-- The close raises no alert without a level. -/
theorem Group.Silent.closeSecond (h : gr.Silent) (g : Grp) (e : GroupEntry) (second : Nat) (position : Option Pos) (cov : Bool) :
    (gr.closeSecond g e second position cov).1.Silent := by
  have hopen : (gr.closeSecond g e second position cov).1.openWindow = none := by
    have := (gr.closeSecond_course g e second position cov).openWindow
    rw [h.openWindow] at this
    simpa using this
  refine ⟨hopen, ?_, ?_⟩
  · cases hf : gr.forming with
    | none => simp only [Group.closeSecond, hf]; exact h.alertOn
    | some f =>
      simp only [Group.closeSecond, hf, Group.windowRecord_alertOn]
      simp only [Group.rollingAlert, h.alertLevel]
      exact h.alertOn
  · rw [Group.closeSecond_frame]; exact h.alertLevel

end

/-! ### What a group hands over -/

/-- Records that are events, and no results of windows. -/
abbrev OnlyEvents (l : List Emission) : Prop := ∀ e ∈ l, ∃ x, e = .event x

theorem OnlyEvents.filter_ofWindow {l : List Emission} (h : OnlyEvents l) (g : Grp) : l.filter (·.ofWindow g) = [] :=
  List.filter_eq_nil_iff.mpr fun e he => by obtain ⟨x, rfl⟩ := h e he; simp [Emission.ofWindow]

theorem OnlyEvents.filterMap_resultOf {l : List Emission} (h : OnlyEvents l) : l.filterMap Emission.resultOf = [] :=
  List.filterMap_eq_nil_iff.mpr fun e he => by obtain ⟨x, rfl⟩ := h e he; rfl

theorem OnlyEvents.append {l k : List Emission} (hl : OnlyEvents l) (hk : OnlyEvents k) : OnlyEvents (l ++ k) := fun e he =>
  (List.mem_append.mp he).elim (hl e) (hk e)

theorem Group.handLimit_events (gr : Group) (g : Grp) (limit : Option LimitRecord) (period : Option Per) (second : Nat) :
    OnlyEvents (gr.handLimit g limit period second).2 := by
  unfold Group.handLimit
  dsimp only
  split <;> simp [OnlyEvents]

theorem Group.reach_events (gr : Group) (x : ReachContext) (r : Reach) (first : Bool) : OnlyEvents (gr.reach x r first).2 := by
  unfold Group.reach
  dsimp only
  split
  · exact Group.handLimit_events _ _ _ _ _
  · dsimp only
    split
    · exact Group.handLimit_events _ _ _ _ _
    · exact fun _ h => by cases h

theorem Group.reachList_events (x : ReachContext) : ∀ (l : List Reach) (first : Bool) (gr : Group),
    OnlyEvents (Group.reachList x first l gr).2
  | [], _, _ => fun _ h => by cases h
  | r :: l, first, gr => (gr.reach_events x r first).append (Group.reachList_events x l false _)

theorem Group.closeSecond_events (gr : Group) (g : Grp) (e : GroupEntry) (second : Nat) (position : Option Pos) (cov : Bool) :
    OnlyEvents (gr.closeSecond g e second position cov).2 := by
  unfold Group.closeSecond
  split
  · exact fun _ h => by cases h
  · unfold Group.rollingAlert
    dsimp only
    split
    · exact fun _ h => by cases h
    · split
      · exact fun _ h => by cases h
      · dsimp only
        split <;> simp [OnlyEvents]

theorem Group.immediate_events (gr : Group) (g : Grp) (run cov : Bool) (x : GroupSlice) :
    ∀ l ∈ (gr.immediate g run cov x).2, OnlyEvents l := by
  unfold Group.immediate
  split
  · exact fun _ h => by cases h
  · intro l hl
    rcases List.mem_cons.mp hl with rfl | hl
    · split <;> simp [OnlyEvents]
    · obtain rfl := List.mem_singleton.mp hl
      split <;> simp [OnlyEvents]

end Sys2Proof.Machine
end

section
/-! SUPPORT. The groups and the records of a second boundary, part by part (R76 to R83, R99, R106, R110, R143). -/
namespace Sys2Proof.Machine

/-! ### The parts of a second boundary -/

/-- The handed positions of a second boundary, with the schedules they leave and their events. -/
@[irreducible] def State.reachedAt (s : State) : Schedules × List Reach × List Event :=
  reachAll s.control.lock (s.opening true).time.runningSecond (s.opening true).handed s.schedules

/-- A group once its closing slice is taken. -/
@[irreducible] def State.slicedGroup (s : State) (g : Grp) : Group × Chains := s.groupAfterSlice s.closedSlices g

/-- A group through the reaches and the close of its second, and what they hand over. -/
@[irreducible] def State.turnedGroup (s : State) (g : Grp) : Group × List Emission :=
  s.groupSecond (Config.order s.choices) (s.opening true) s.reachedAt.2.1 (s.slicedGroup g).1 g

/-- The channel rings a close may find. -/
@[irreducible] def State.ringsAt (s : State) : BoundaryRings :=
  let channels := (s.turnOver (Config.order s.choices) true).1.channels
  { unactivated := Vector.ofFn fun c => s.ringUnactivated (s.turnAt true c) c channels[c].ring
    after := channels.map (·.ring) }

/-- What a group's due windows hand over. -/
@[irreducible] def State.closingsAt (s : State) (g : Grp) : List Emission :=
  closeDue (s.turnedGroup g).1.dueWindows g (s.backgroundAtBoundary (Config.order s.choices) (s.opening true) s.ringsAt g)
    s.control.lock (s.opening true).time.runningSecond

section
variable (s : State) (g : Grp)

theorem State.turnOver_channel (b : Bool) (c : Chan) :
    (s.turnOver (Config.order s.choices) b).1.channels[c] = s.turnedChannel b c := by
  unfold State.turnedChannel State.resolved State.turnAt State.decidedAt State.resolved State.rowAt State.closing
  simp [State.turnOver]

theorem State.ringsAt_after (c : Chan) : s.ringsAt.after[c] = (s.turnedChannel true c).ring := by
  rw [State.ringsAt, ← State.turnOver_channel]
  dsimp only
  rw [Fin.getElem_fin, Vector.getElem_map, Fin.getElem_fin]

theorem State.ringsAt_unactivated (c : Chan) :
    s.ringsAt.unactivated[c] = s.ringUnactivated (s.turnAt true c) c (s.turnedChannel true c).ring := by
  rw [State.ringsAt, ← State.turnOver_channel]
  dsimp only
  rw [Fin.getElem_fin, Vector.getElem_ofFn]

/-- A group as the new second opens. -/
theorem State.turnOver_group : (s.turnOver (Config.order s.choices) true).1.groups[g] =
    { (s.turnedGroup g).1.openSecond s.router.active.groups[g].enabled (s.opening true).router.active.groups[g].enabled
        (membershipChanged s.router.active (s.opening true).router.active g) with
      awaited := awaitedSet (s.opening true).router.active (s.turnOver (Config.order s.choices) true).1.channels g } := by
  unfold State.turnedGroup State.slicedGroup State.reachedAt
  simp only [State.turnOver, Vector.getElem_ofFn, Fin.getElem_fin]
  rfl

/-- The records of a second boundary that no channel or group hands over. -/
def State.openingRecords : Chains :=
  [(s.opening true).mapEvent.toList.map .event, s.reachedAt.2.2.map .event,
    if (s.opening true).clockSet then [.event (clockSetEvent (s.opening true).time)] else []]

/-- The records of a channel. -/
def State.channelRecords (c : Chan) : Chains := s.channelEvents (s.opening true) (s.turnAt true c) (s.accountAt true c).2 c

/-- The records of a group: those of its slice, those of its second, and those of its windows. -/
def State.groupRecords : Chains := (s.slicedGroup g).2 ++ [(s.turnedGroup g).2, s.closingsAt g]

theorem State.turnOver_records : (s.turnOver (Config.order s.choices) true).2 =
    s.openingRecords ++ (List.finRange 16).flatMap s.channelRecords ++ (List.finRange 8).flatMap s.groupRecords := by
  unfold State.openingRecords State.channelRecords State.groupRecords State.closingsAt State.ringsAt State.turnedGroup
    State.slicedGroup State.reachedAt State.accountAt State.turnAt State.decidedAt State.resolved State.rowAt State.closing
  rfl

theorem State.openingRecords_events : ∀ l ∈ s.openingRecords, OnlyEvents l := by
  have hevents : ∀ es : List Event, OnlyEvents (es.map .event) := fun es e he => by
    obtain ⟨x, -, rfl⟩ := List.mem_map.mp he; exact ⟨x, rfl⟩
  intro l hl
  simp only [State.openingRecords, List.mem_cons, List.not_mem_nil, or_false] at hl
  rcases hl with rfl | rfl | rfl
  · exact hevents _
  · exact hevents _
  · split <;> simp [OnlyEvents]

theorem faultEvents_events (c : Chan) (reference : Level) (r : CheckRecord) : OnlyEvents (faultEvents c reference r) := by
  unfold faultEvents
  dsimp only
  split <;> simp [OnlyEvents]

theorem State.channelRecords_events (c : Chan) : ∀ l ∈ s.channelRecords c, OnlyEvents l := by
  intro l hl
  simp only [State.channelRecords, State.channelEvents, List.mem_cons, List.not_mem_nil, or_false] at hl
  rcases hl with rfl | rfl | rfl
  · split <;> simp [OnlyEvents]
  · split
    · exact faultEvents_events _ _ _
    · simp [OnlyEvents]
  · split <;> simp [OnlyEvents]

theorem State.slicedGroup_events : ∀ l ∈ (s.slicedGroup g).2, OnlyEvents l := by
  unfold State.slicedGroup State.groupAfterSlice
  dsimp only
  split
  · exact Group.immediate_events _ _ _ _ _
  · exact fun _ h => by cases h

/-! ### A group through its reaches and its close -/

/-- What a group meets at the handed positions. -/
abbrev State.contextAt : ReachContext :=
  { group := g, run := decide (s.control.mode = .run), wasEnabled := s.router.active.groups[g].enabled
    enabled := (s.opening true).router.active.groups[g].enabled, second := s.time.runningSecond + 1 }

/-- The close of an enabled group's second. -/
abbrev State.closeAt (x : Group) : Group × List Emission :=
  if s.router.active.groups[g].enabled then
    x.closeSecond g s.router.active.groups[g] s.time.runningSecond s.time.position
      (covered s.exclusions g s.time.runningSecond)
  else (x, [])

/-- A group's turn as the reaches before its close, the close, and the reaches after it. -/
structure State.TurnSplit (before after : List Reach) : Prop where
  reaches : s.reachedAt.2.1 = before ++ after
  turned : s.turnedGroup g =
    (let reached := Group.reachList (s.contextAt g) true before (s.slicedGroup g).1
     let closed := s.closeAt g reached.1
     let rest := Group.reachList (s.contextAt g) before.isEmpty after closed.1
     (rest.1, reached.2 ++ closed.2 ++ rest.2))
  waits : ∀ b r c, before = b ++ r :: c → c ≠ [] → r.handed.isSkipped = true → s.time.position.any (fun q =>
    (Group.reachList (s.contextAt g) true (b ++ [r]) (s.slicedGroup g).1).1.dueWindows.any (·.waitsFor q)) = false

theorem State.turnedGroup_split : ∃ before after, s.TurnSplit g before after := by
  have hsecond := s.opening_true_time_fields.1
  obtain ⟨before, after, hreaches, hturned, hwaits⟩ := Group.turnSecond_cases (s.contextAt g) (s.closeAt g) s.time.position
    (fun k => (Config.order s.choices).yes (.closeBeforeReach g k)) s.reachedAt.2.1 0 true (s.slicedGroup g).1
  refine ⟨before, after, hreaches, ?_, hwaits⟩
  rw [State.turnedGroup, State.groupSecond, hsecond]
  refine hturned.trans ?_
  simp only [Group.closeThenReach, Bool.true_and, List.append_assoc]

theorem State.closeAt_course (x : Group) : (s.closeAt g x).1.SameCourse x := by
  unfold State.closeAt
  split
  · exact Group.closeSecond_course ..
  · exact ⟨rfl, rfl⟩

theorem State.closeAt_events (x : Group) : OnlyEvents (s.closeAt g x).2 := by
  unfold State.closeAt
  split
  · exact Group.closeSecond_events _ _ _ _ _ _
  · exact fun _ h => by cases h

/-- The ring a close leaves: with the record of the second in formation, if there is one (R81, R83). -/
def State.ringAfterClose (x : Group) : List GroupSecond :=
  if s.router.active.groups[g].enabled then
    x.forming.elim x.ring fun f =>
      enterRing (f.close s.time.runningSecond s.time.position (covered s.exclusions g s.time.runningSecond)) x.ring
  else x.ring

theorem State.closeAt_frame (x : Group) :
    let t := (s.closeAt g x).1
    t = { x with
      ring := s.ringAfterClose g x, rolling := t.rolling, alertOn := t.alertOn, alertAtClose := t.alertAtClose
      openWindow := t.openWindow, dueWindows := t.dueWindows } := by
  unfold State.closeAt State.ringAfterClose
  split
  · exact Group.closeSecond_frame ..
  · rfl

section
variable {s g}

/-- As many windows come due as without the close. -/
theorem State.turnedGroup_due : (s.turnedGroup g).1.dueWindows.length =
    (Group.reachList (s.contextAt g) true s.reachedAt.2.1 (s.slicedGroup g).1).1.dueWindows.length := by
  obtain ⟨before, after, h⟩ := s.turnedGroup_split g
  rw [h.turned, h.reaches, Group.reachList_append, Bool.true_and]
  exact (Group.SameCourse.reachList after (s.closeAt_course g _)).dueWindows

theorem State.turnedGroup_events : OnlyEvents (s.turnedGroup g).2 := by
  obtain ⟨before, after, h⟩ := s.turnedGroup_split g
  rw [h.turned]
  exact ((Group.reachList_events _ _ _ _).append (s.closeAt_events g _)).append (Group.reachList_events _ _ _ _)

/-- What the reaches and the close leave of the rest of the group. -/
theorem State.turnedGroup_frame :
    let t := (s.turnedGroup g).1
    let taken := (s.slicedGroup g).1
    t = { taken with
      ring := s.ringAfterClose g taken, rolling := t.rolling, alertOn := t.alertOn, alertAtClose := t.alertAtClose
      alertLevel := t.alertLevel, alertPeriod := t.alertPeriod, openWindow := t.openWindow, dueWindows := t.dueWindows } := by
  obtain ⟨before, after, h⟩ := s.turnedGroup_split g
  rw [h.turned]
  dsimp only
  have hbefore := Group.reachList_frame (s.contextAt g) before true (s.slicedGroup g).1
  generalize (Group.reachList (s.contextAt g) true before (s.slicedGroup g).1).1 = reached at hbefore ⊢
  have hclose := s.closeAt_frame g reached
  generalize (s.closeAt g reached).1 = closed at hclose ⊢
  have hrest := Group.reachList_frame (s.contextAt g) after before.isEmpty closed
  generalize (Group.reachList (s.contextAt g) before.isEmpty after closed).1 = rest at hrest ⊢
  have hkept : rest.rolling = closed.rolling ∧ rest.alertAtClose = closed.alertAtClose := by rw [hrest]; exact ⟨rfl, rfl⟩
  have hring : s.ringAfterClose g reached = s.ringAfterClose g (s.slicedGroup g).1 := by rw [hbefore]; rfl
  rw [hkept.1, hkept.2]
  refine hrest.trans ?_
  rw [hclose, hring]
  dsimp only
  rw [hbefore]

theorem reachAll_length (lock second : Nat) : ∀ (l : List Handed) (k : Schedules),
    (reachAll lock second l k).2.1.length = l.length
  | [], _ => rfl
  | _ :: l, k => by rw [reachAll, List.length_cons, List.length_cons]; exact congrArg (· + 1) (reachAll_length lock second l _)

theorem skippedFrom_length : ∀ (n : Nat) (p : Pos), (skippedFrom n p).length = n
  | 0, _ => rfl
  | n + 1, p => by rw [skippedFrom, List.length_cons, skippedFrom_length]

/-- A second boundary hands at least one position, and at most one more than the trim. -/
theorem TimeBase.secondBoundary_handed_length (t : TimeBase) (mode : Mode) :
    1 ≤ (t.secondBoundary mode).handed.length ∧ (t.secondBoundary mode).handed.length ≤ t.trim.toNat + 1 := by
  unfold TimeBase.secondBoundary
  dsimp only
  split
  · simp
  · split_ifs <;> simp [skippedFrom_length]

theorem State.reachedAt_length : 1 ≤ s.reachedAt.2.1.length ∧ s.reachedAt.2.1.length ≤ s.time.trim.toNat + 1 := by
  rw [State.reachedAt, reachAll_length, State.opening_true_handed]
  exact s.time.secondBoundary_handed_length s.control.mode

/-- A group that the activation disables ends without a window and without an alert (R14). -/
theorem State.turnedGroup_silent (hold : s.router.active.groups[g].enabled = true)
    (hnew : (s.opening true).router.active.groups[g].enabled = false) : (s.turnedGroup g).1.Silent := by
  obtain ⟨before, after, h⟩ := s.turnedGroup_split g
  have hlen := s.reachedAt_length.1
  rw [h.reaches] at hlen
  have hclose : ∀ x : Group, x.Silent → (s.closeAt g x).1.Silent := fun x hx => by
    rw [State.closeAt, if_pos hold]; exact hx.closeSecond _ _ _ _ _
  rw [h.turned]
  dsimp only
  cases before with
  | cons r before =>
    exact Group.Silent.reachList hnew after (hclose _ (Group.Silent.reachList hnew before (Group.reach_disabled hold hnew r)))
  | nil =>
    cases after with
    | nil => simp at hlen
    | cons r after => exact Group.Silent.reachList hnew after (Group.reach_disabled hold hnew r)

end

end

end Sys2Proof.Machine
end

section
/-! SUPPORT. The groups, results and events that a second boundary leaves (R14, R78 to R83, R102, R110, R150). -/
namespace Sys2Proof.Machine

/-! ### A group -/

theorem Group.immediate_frame (gr : Group) (g : Grp) (run cov : Bool) (x : GroupSlice) : (gr.immediate g run cov x).1 =
    { gr with openWindow := (gr.immediate g run cov x).1.openWindow } := by
  unfold Group.immediate
  split <;> rfl

section
variable (s : State) (g : Grp)

/-- A slice taken in and tested. -/
theorem State.slicedGroup_enabled (h : s.router.active.groups[g].enabled = true) :
    let slice := s.groupSlice s.closedSlices g
    let hold := holdAfter s.router.active.groups[g] s.groups[g].holdCount (impulsive s.router.active.groups[g] slice.2)
    (s.slicedGroup g).1 = { s.groups[g] with
      holdCount := hold.1, forming := s.groups[g].forming.map (·.take slice.1 hold.2), latest := some slice.1
      openWindow := (s.slicedGroup g).1.openWindow } := by
  intro slice hold
  rw [State.slicedGroup, State.groupAfterSlice, if_pos h]
  exact Group.immediate_frame ..

theorem State.slicedGroup_disabled (h : s.router.active.groups[g].enabled = false) : s.slicedGroup g = (s.groups[g], []) := by
  rw [State.slicedGroup, State.groupAfterSlice, if_neg (by rw [h]; exact Bool.false_ne_true)]

theorem State.slicedGroup_dueWindows : (s.slicedGroup g).1.dueWindows = s.groups[g].dueWindows := by
  cases h : s.router.active.groups[g].enabled with
  | true => rw [s.slicedGroup_enabled g h]
  | false => rw [s.slicedGroup_disabled g h]

/-- A group as the second opens. -/
@[irreducible] def State.openedGroup : Group :=
  { (s.turnedGroup g).1.openSecond s.router.active.groups[g].enabled (s.opening true).router.active.groups[g].enabled
      (membershipChanged s.router.active (s.opening true).router.active g) with
    awaited := awaitedSet (s.opening true).router.active (s.turnOver (Config.order s.choices) true).1.channels g }

/-- A group after a second boundary: as the second opens, or as the auto-run start enters RUN. -/
theorem State.boundary_group : ∃ active p second, (s.boundary true).groups[g] =
    if s.autoRunStarts true then
      (s.openedGroup g).enterRun g (s.opening true).router.active.groups[g].enabled active p second
    else s.openedGroup g := by
  have hgroup := s.turnOver_group g
  rw [← State.openedGroup, Fin.getElem_fin] at hgroup
  let t := (s.turnOver (Config.order s.choices) true).1
  refine ⟨t.schedules.active, t.time.present, t.time.runningSecond, ?_⟩
  rw [State.boundary_groups]
  split
  · rw [State.enterRun]
    simp only [Fin.getElem_fin, Vector.getElem_ofFn, hgroup]
    rfl
  · rw [Fin.getElem_fin, hgroup]

/-- The auto-run start moves windows and alerts alone. -/
theorem State.boundary_group_frame :
    let t := (s.boundary true).groups[g]
    t = { s.openedGroup g with
      openWindow := t.openWindow, dueWindows := t.dueWindows, alertOn := t.alertOn, alertLevel := t.alertLevel
      alertPeriod := t.alertPeriod } := by
  obtain ⟨active, p, second, h⟩ := s.boundary_group g
  intro t
  rw [show t = _ from h]
  split <;> rfl

theorem State.boundary_group_dueWindows : (s.boundary true).groups[g].dueWindows = [] := by
  obtain ⟨active, p, second, h⟩ := s.boundary_group g
  rw [h, State.openedGroup]
  split <;> rfl

theorem State.boundary_group_unstarted (h : s.autoRunStarts true = false) : (s.boundary true).groups[g] = s.openedGroup g := by
  obtain ⟨active, p, second, hg⟩ := s.boundary_group g
  rw [hg, if_neg (by rw [h]; exact Bool.false_ne_true)]

end

/-! ### Records -/

section
variable {s : State} {g : Grp}

/-- An event of the groups or of the opening is held, or the queue is full. -/
theorem State.boundary_raises_record {e : Event} {l : List Emission}
    (hl : l ∈ s.openingRecords ∨ l ∈ s.groupRecords g) (he : .event e ∈ l) : (s.boundary true).raised e := by
  refine s.boundary_raised true (List.mem_flatten.mpr ⟨l, ?_, he⟩)
  rw [State.turnOver_records]
  refine hl.elim (fun h => List.mem_append_left _ (List.mem_append_left _ h)) fun h => List.mem_append_right _ ?_
  exact List.mem_flatMap.mpr ⟨g, List.mem_finRange g, h⟩

theorem State.boundary_raises_schedule {e : Event} (h : e ∈ s.reachedAt.2.2) : (s.boundary true).raised e :=
  State.boundary_raises_record (g := 0) (.inl (List.mem_cons_of_mem _ (List.mem_cons_self ..))) (List.mem_map_of_mem h)

theorem State.boundary_raises_slice {e : Event} (h : .event e ∈ (s.slicedGroup g).2.flatten) : (s.boundary true).raised e := by
  obtain ⟨l, hl, he⟩ := List.mem_flatten.mp h
  exact State.boundary_raises_record (.inr (List.mem_append_left _ hl)) he

theorem State.boundary_raises_turned {e : Event} (h : .event e ∈ (s.turnedGroup g).2) : (s.boundary true).raised e :=
  State.boundary_raises_record (.inr (List.mem_append_right _ (List.mem_cons_self ..))) h

/-! ### Results -/

/-- The result of a due window. -/
def State.judgedAt (s : State) (g : Grp) (w : Window) : WindowResult :=
  let b := s.backgroundAtBoundary (Config.order s.choices) (s.opening true) s.ringsAt g w
  w.judge g b.1 b.2 s.control.lock

theorem State.closingsAt_eq : s.closingsAt g = (s.turnedGroup g).1.dueWindows.flatMap fun w =>
    closeEmissions (s.judgedAt g w) (s.opening true).time.runningSecond := by
  rw [State.closingsAt]; rfl

theorem closeEmissions_results (r : WindowResult) (second : Nat) : (closeEmissions r second).filterMap Emission.resultOf = [r] := by
  unfold closeEmissions
  split <;> rfl

theorem closeEmissions_ofWindow (r : WindowResult) (second : Nat) (h : Grp) :
    (closeEmissions r second).filter (·.ofWindow h) = if r.group = h then closeEmissions r second else [] := by
  unfold closeEmissions
  split <;> by_cases hg : r.group = h <;> simp [Emission.ofWindow, hg]

theorem State.closingsAt_results :
    ((s.closingsAt g).filterMap Emission.resultOf).length = (s.turnedGroup g).1.dueWindows.length := by
  rw [State.closingsAt_eq, List.filterMap_flatMap]
  simp only [closeEmissions_results, List.length_flatMap, List.length_singleton, List.map_const', List.sum_replicate,
    smul_eq_mul, mul_one]

theorem State.closingsAt_ofWindow (h : Grp) : (s.closingsAt g).filter (·.ofWindow h) = if g = h then s.closingsAt g else [] := by
  have hgroup : ∀ w, (s.judgedAt g w).group = g := fun _ => rfl
  rw [State.closingsAt_eq, List.filter_flatMap]
  simp only [closeEmissions_ofWindow, hgroup]
  split
  · rfl
  · simp

theorem filterMap_flatten_events {l : Chains} (h : ∀ c ∈ l, OnlyEvents c) : l.flatten.filterMap Emission.resultOf = [] :=
  OnlyEvents.filterMap_resultOf fun e he => by
    obtain ⟨c, hc, hec⟩ := List.mem_flatten.mp he
    exact h c hc e hec

/-- The records of a second boundary in the order they are handed over. -/
@[irreducible] def State.handedOver (s : State) : List Emission :=
  handOver (Config.order s.choices) (s.turnOver (Config.order s.choices) true).2

/-- As many results are handed over as windows come due. -/
theorem State.handedOver_count : (s.handedOver.filterMap Emission.resultOf).length =
    ((List.finRange 8).map fun g => (s.turnedGroup g).1.dueWindows.length).sum := by
  have hperm := (handOver_perm (Config.order s.choices) (s.turnOver (Config.order s.choices) true).2).filterMap
    Emission.resultOf
  have hgroup : ∀ g : Grp, (s.groupRecords g).flatten.filterMap Emission.resultOf =
      (s.closingsAt g).filterMap Emission.resultOf := fun g => by
    rw [State.groupRecords, List.flatten_append, List.filterMap_append, filterMap_flatten_events (s.slicedGroup_events g)]
    simp [State.turnedGroup_events.filterMap_resultOf]
  have hchannels : ∀ l ∈ (List.finRange 16).flatMap s.channelRecords, OnlyEvents l := fun l hl => by
    obtain ⟨c, -, hc⟩ := List.mem_flatMap.mp hl
    exact s.channelRecords_events c l hc
  rw [State.handedOver, hperm.length_eq, State.turnOver_records, List.flatten_append, List.flatten_append,
    List.filterMap_append, List.filterMap_append, filterMap_flatten_events s.openingRecords_events,
    filterMap_flatten_events hchannels, List.nil_append, List.nil_append]
  induction List.finRange 8 with
  | nil => rfl
  | cons g l ih =>
    rw [List.flatMap_cons, List.flatten_append, List.filterMap_append, List.length_append, ih, hgroup,
      State.closingsAt_results, List.map_cons, List.sum_cons]

/-- The records of a group's windows are handed over in their order. -/
theorem State.handedOver_ofWindow : s.handedOver.filter (·.ofWindow g) = s.closingsAt g := by
  obtain ⟨l1, l2, hl⟩ := List.append_of_mem (List.mem_finRange g)
  have hnodup := List.nodup_finRange 8
  rw [hl, List.nodup_append] at hnodup
  obtain ⟨-, htail, hdisjoint⟩ := hnodup
  have hother : ∀ h : Grp, h ≠ g → ∀ l ∈ s.groupRecords h, l.filter (·.ofWindow g) = [] := fun h hne l hl => by
    rcases List.mem_append.mp hl with hl | hl
    · exact (s.slicedGroup_events h l hl).filter_ofWindow g
    · simp only [List.mem_cons, List.not_mem_nil, or_false] at hl
      rcases hl with rfl | rfl
      · exact State.turnedGroup_events.filter_ofWindow g
      · rw [State.closingsAt_ofWindow, if_neg hne]
  have hothers : ∀ k : List Grp, g ∉ k → ∀ l ∈ k.flatMap s.groupRecords, l.filter (·.ofWindow g) = [] := fun k hk l hl => by
    obtain ⟨h, hh, hl⟩ := List.mem_flatMap.mp hl
    exact hother h (fun e => hk (e ▸ hh)) l hl
  have hsplit : (s.turnOver (Config.order s.choices) true).2 =
      (s.openingRecords ++ (List.finRange 16).flatMap s.channelRecords ++ l1.flatMap s.groupRecords
        ++ (s.slicedGroup g).2 ++ [(s.turnedGroup g).2]) ++ s.closingsAt g :: l2.flatMap s.groupRecords := by
    rw [State.turnOver_records, hl, List.flatMap_append, List.flatMap_cons, State.groupRecords]
    simp only [List.append_assoc, List.cons_append, List.nil_append]
  rw [State.handedOver, hsplit, handOver_filter, State.closingsAt_ofWindow, if_pos rfl]
  · intro l hl
    simp only [List.mem_append, List.mem_singleton] at hl
    rcases hl with (((hl | hl) | hl) | hl) | rfl
    · exact (s.openingRecords_events l hl).filter_ofWindow g
    · obtain ⟨c, -, hc⟩ := List.mem_flatMap.mp hl
      exact (s.channelRecords_events c l hc).filter_ofWindow g
    · exact hothers l1 (fun hg => hdisjoint g hg g (List.mem_cons_self ..) rfl) l hl
    · exact (s.slicedGroup_events g l hl).filter_ofWindow g
    · exact State.turnedGroup_events.filter_ofWindow g
  · exact hothers l2 (List.nodup_cons.mp htail).1

/-- A second boundary ends by handing over its records. -/
theorem State.boundary_hands (s : State) : ∃ u : State, u.results = s.results
    ∧ s.boundary true = { u.emitAll 0 s.handedOver with choices := s.choices + 1 } := by
  refine ⟨_, ?_, by rw [State.boundary_eq, State.handedOver]⟩
  rw [State.arbitrate_results]
  unfold State.started
  dsimp only
  split <;> rfl

/-- The store counts on by the windows that come due. -/
theorem State.boundary_results_next (h : s.results.next < 65536) : (s.boundary true).results.next =
    (s.results.next + ((List.finRange 8).map fun g => (s.turnedGroup g).1.dueWindows.length).sum) % 65536 := by
  obtain ⟨u, hu, hs⟩ := s.boundary_hands
  rw [hs]
  change (u.emitAll 0 s.handedOver).results.next = _
  rw [State.emitAll_results, enterResults_next _ _ (by rw [hu]; exact h), hu, State.handedOver_count]

/-- Where no window is due before it and the trim is in its range, a boundary brings few due. -/
theorem State.handedOver_short (htrim : s.time.trim ≤ 4) (hdue : ∀ g : Grp, s.groups[g].dueWindows = []) :
    (s.handedOver.filterMap Emission.resultOf).length ≤ 512 := by
  rw [State.handedOver_count]
  have hgroup : ∀ n ∈ (List.finRange 8).map (fun g => (s.turnedGroup g).1.dueWindows.length), n ≤ 5 := fun n hn => by
    obtain ⟨g, -, rfl⟩ := List.mem_map.mp hn
    have hbrings := Group.reachList_brings (s.contextAt g) s.reachedAt.2.1 true (s.slicedGroup g).1
    rw [State.slicedGroup_dueWindows, hdue g, List.length_nil, Nat.zero_add] at hbrings
    have hlen := s.reachedAt_length.2
    rw [State.turnedGroup_due]
    omega
  have hsum := List.sum_le_card_nsmul _ 5 hgroup
  rw [List.length_map, List.length_finRange, smul_eq_mul] at hsum
  omega

/-- The result of each due window is held under its sequence, and one that exceeds its limit raises WINDOW EXCEEDED with it. -/
theorem State.boundary_judged {w : Window} (hshort : (s.handedOver.filterMap Emission.resultOf).length ≤ 512)
    (hw : w ∈ (s.turnedGroup g).1.dueWindows) :
    let x := s.judgedAt g w
    ∃ r ∈ (s.boundary true).results.ring, r = { x with sequence := r.sequence }
      ∧ (x.outcome = .exceeded → (s.boundary true).raised
        { Event.plain (s.time.runningSecond + 1) .windowExceeded (.group g) with
          level := x.rated, limit := x.limit, period := some w.period, detail := some (r.sequence : Int) }) := by
  intro x
  obtain ⟨u, hu, hs⟩ := s.boundary_hands
  obtain ⟨d1, d2, hd⟩ := List.append_of_mem hw
  have hrecords : s.handedOver.filter (·.ofWindow g) =
      d1.flatMap (fun w => closeEmissions (s.judgedAt g w) (s.time.runningSecond + 1)) ++ .result x ::
        ((if x.outcome = .exceeded then [.exceeded x.group { Event.plain (s.time.runningSecond + 1) .windowExceeded (.group x.group) with
            level := x.rated, limit := x.limit, period := some x.period }] else [])
          ++ d2.flatMap fun w => closeEmissions (s.judgedAt g w) (s.time.runningSecond + 1)) := by
    rw [State.handedOver_ofWindow, State.closingsAt_eq, hd, List.flatMap_append, List.flatMap_cons, s.opening_true_time_fields.1]
    rfl
  obtain ⟨r, hr, hx, hexceeded⟩ := State.emitAll_judged (s := u) (n := 0) hshort (show x.group = g from rfl) hrecords
  rw [hs]
  refine ⟨r, hr, hx, fun ho => ?_⟩
  exact hexceeded _ [] (by rw [if_pos ho]; rfl)

/-- A ring without the activation is the one before the boundary, with its entry or without, or the one after it (R85). -/
theorem State.ringUnactivated_cases (s : State) (c : Chan) (after : List RingEntry) :
    s.ringUnactivated (s.turnAt true c) c after = after
    ∨ s.ringUnactivated (s.turnAt true c) c after = s.channels[c].ring
    ∨ ∃ x : RingEntry, x.second = s.time.runningSecond ∧ s.ringUnactivated (s.turnAt true c) c after =
        s.channels[c].ring.drop (s.channels[c].ring.length - 899) ++ [x] := by
  unfold State.ringUnactivated
  split
  · rw [Channel.takeSecond_ring, ← State.closedSecond, State.closedSecond_true]
    split
    · exact .inr (.inl rfl)
    · cases (s.channels[c].recorded s.closedSlices[c]).forming with
      | none => exact .inr (.inl rfl)
      | some f => exact .inr (.inr ⟨_, rfl, enterRing_eq _ _⟩)
  · exact .inl rfl

theorem backgroundLevel_congr {e : GroupEntry} {p q : Chan → List RingEntry} (h : ∀ c, e.background = some c → p c = q c) :
    backgroundLevel e p = backgroundLevel e q := by
  unfold backgroundLevel
  cases hb : e.background with
  | none => rfl
  | some c => rw [Option.bind_some, Option.bind_some, h c hb]

/-- A due window is judged by the entry and on a ring of before the boundary or after it (R9, R14, R87, R89). -/
theorem State.judgedAt_background (s : State) (g : Grp) (w : Window) : ∃ (e : GroupEntry) (ring : List RingEntry),
    (e = (s.opening true).router.active.groups[g] ∨ (e = s.router.active.groups[g]
      ∧ ¬(s.router.active.groups[g].enabled = true ∧ (s.opening true).router.active.groups[g].enabled = false
        ∧ w.flags.truncated = true)))
    ∧ (∀ c, e.background = some c → ring = s.channels[c].ring ∨ ring = (s.boundary true).channels[c].ring
      ∨ (e = s.router.active.groups[g] ∧ ∃ x : RingEntry, x.second = s.time.runningSecond
          ∧ ring = s.channels[c].ring.drop (s.channels[c].ring.length - 899) ++ [x]))
    ∧ s.judgedAt g w = w.judge g e.correction (backgroundLevel e fun _ => ring) s.control.lock := by
  have hring : ∀ c, (s.turnedChannel true c).ring = (s.boundary true).channels[c].ring := fun c => by
    rw [State.boundary_channel_frame]
  obtain ⟨e, ring, hentry, hb⟩ := s.backgroundAtBoundary_cases (Config.order s.choices) (s.opening true) s.ringsAt g w
  refine ⟨e, e.background.elim [] ring, hentry.imp And.left fun h => ⟨h.1, h.2.1⟩, fun c hc => ?_, ?_⟩
  · rw [hc, Option.elim_some]
    rcases hentry with ⟨-, rfl | rfl⟩ | ⟨rfl, -, rfl | rfl⟩
    · exact .inl rfl
    · exact .inr (.inl ((s.ringsAt_after c).trans (hring c)))
    · exact .inl rfl
    · rcases s.ringUnactivated_cases c (s.turnedChannel true c).ring with h | h | ⟨x, hx, h⟩
      · exact .inr (.inl ((s.ringsAt_unactivated c).trans (h.trans (hring c))))
      · exact .inl ((s.ringsAt_unactivated c).trans h)
      · exact .inr (.inr ⟨rfl, x, hx, (s.ringsAt_unactivated c).trans h⟩)
  · rw [State.judgedAt, hb]
    exact congrArg (w.judge g _ · _) (backgroundLevel_congr fun c hc => by rw [hc]; rfl)

end

end Sys2Proof.Machine
end

section
/-! SUPPORT. O40: a second boundary turns the groups (R9, R14, R79 to R83, R89, R97, R99, R102, R106, R109 to R112, R127 to R129,
R143). -/
namespace Sys2Proof.Machine

theorem ChannelEntry.memberOf_iff (e : ChannelEntry) (g : Grp) :
    e.memberOf = some g ↔ e.role = .member ∧ e.group = some g := by
  unfold ChannelEntry.memberOf
  split <;> simp_all

theorem membershipChanged_iff (old new : ChannelMap) (g : Grp) : membershipChanged old new g = true ↔ ∃ c : Chan,
    (((old.channels[c].role = .member ∧ old.channels[c].group = some g)
        ∨ (new.channels[c].role = .member ∧ new.channels[c].group = some g))
      ∧ (old.channels[c].enabled ≠ new.channels[c].enabled
        ∨ (old.channels[c].enabled = true ∧ new.channels[c].enabled = true
          ∧ (old.channels[c].role ≠ new.channels[c].role ∨ old.channels[c].group ≠ new.channels[c].group)))) := by
  simp only [membershipChanged, membershipChanges, List.any_eq_true, List.mem_finRange, true_and, Bool.and_eq_true,
    Bool.or_eq_true, decide_eq_true_eq, ChannelEntry.memberOf_iff, and_assoc, and_comm (a := _ ∨ _) (b := _ ∨ _)]

section
variable (s : State) (g : Grp)

theorem State.boundary_group_ring : (s.boundary true).groups[g].ring = s.ringAfterClose g (s.slicedGroup g).1 := by
  rw [State.boundary_group_frame, State.openedGroup]
  exact (congrArg Group.ring s.turnedGroup_frame).trans rfl

theorem State.boundary_group_opened : (s.boundary true).groups[g].forming =
    if (s.opening true).router.active.groups[g].enabled then some { GroupForming.empty with
      membership := membershipChanged s.router.active (s.opening true).router.active g } else none := by
  rw [State.boundary_group_frame, State.openedGroup]
  rfl

theorem State.boundary_group_awaited : (s.boundary true).groups[g].awaited = membersOf (s.boundary true).router.active
    (fun c => decide ((s.boundary true).channels[c].cond.state ≠ .off)) g := by
  have hstate : (fun c : Chan => decide ((s.boundary true).channels[c].cond.state ≠ .off)) =
      fun c : Chan => decide ((s.turnOver (Config.order s.choices) true).1.channels[c].cond.state ≠ .off) := funext fun c => by
    rw [State.boundary_channel_state, State.turnOver_channel]
  rw [State.boundary_group_frame, State.openedGroup, hstate, State.boundary_router]
  rfl

/-- An enabled group that stays enabled keeps the slice and the hold count of its closing slice. -/
theorem State.boundary_group_slice (hold : s.router.active.groups[g].enabled = true)
    (hnew : (s.opening true).router.active.groups[g].enabled = true) :
    (s.boundary true).groups[g].latest = (s.slicedGroup g).1.latest
      ∧ (s.boundary true).groups[g].holdCount = (s.slicedGroup g).1.holdCount := by
  rw [State.boundary_group_frame, State.openedGroup]
  simp only [Group.openSecond, hold, hnew, Bool.not_true, Bool.and_false, if_false, beq_self_eq_true, if_true,
    Bool.false_eq_true]
  rw [s.turnedGroup_frame]
  exact ⟨rfl, rfl⟩

/-- A group that an activation disables has nothing left (R14, R83). -/
theorem State.boundary_group_disabled (hold : s.router.active.groups[g].enabled = true)
    (hnew : (s.opening true).router.active.groups[g].enabled = false) :
    let now := (s.boundary true).groups[g]
    now.openWindow = none ∧ now.forming = none ∧ now.latest = none ∧ now.rolling = none ∧ now.alertOn = false
      ∧ now.alertLevel = none := by
  obtain ⟨hopen, hon, hlevel⟩ := State.turnedGroup_silent hold hnew
  obtain ⟨active, p, second, h⟩ := s.boundary_group g
  intro now
  rw [show now = _ from h, State.openedGroup, hold, hnew]
  split
  · simp [Group.enterRun, Group.openSecond]
  · simp [Group.openSecond, hopen, hon, hlevel]

/-- The ring of a group that is not enabled, or whose second forms no record, stands (R83). -/
theorem State.boundary_group_ring_kept
    (h : s.router.active.groups[g].enabled = false ∨ s.groups[g].forming = none) :
    (s.boundary true).groups[g].ring = s.groups[g].ring := by
  rw [State.boundary_group_ring, State.ringAfterClose]
  cases he : s.router.active.groups[g].enabled with
  | false => rw [if_neg Bool.false_ne_true, s.slicedGroup_disabled g he]
  | true =>
    have hf := h.resolve_left (by rw [he]; exact Bool.noConfusion)
    rw [if_pos rfl, s.slicedGroup_enabled g he, hf]
    rfl

/-- The record of an enabled group's second enters its ring (R81, R82). -/
theorem State.boundary_group_ring_entered (he : s.router.active.groups[g].enabled = true) {f : GroupForming}
    (hf : s.groups[g].forming = some f) :
    let slice := s.groupSlice s.closedSlices g
    let hold := holdAfter s.router.active.groups[g] s.groups[g].holdCount (impulsive s.router.active.groups[g] slice.2)
    (s.boundary true).groups[g].ring = s.groups[g].ring.drop (s.groups[g].ring.length - 899)
      ++ [(f.take slice.1 hold.2).close s.time.runningSecond s.time.position
        (covered s.exclusions g s.time.runningSecond)] := by
  intro slice hold
  rw [State.boundary_group_ring, State.ringAfterClose, if_pos he, s.slicedGroup_enabled g he, hf]
  exact enterRing_eq _ _

/-- What stays of the rolling level and of the alert that the arbiter reads (R14, R143). -/
theorem State.boundary_group_rolling :
    let disabled := s.router.active.groups[g].enabled = true ∧ (s.opening true).router.active.groups[g].enabled = false
    (s.boundary true).groups[g].rolling = (if disabled then none else (s.turnedGroup g).1.rolling)
    ∧ (s.boundary true).groups[g].alertAtClose = (if disabled then false else (s.turnedGroup g).1.alertAtClose) := by
  rw [State.boundary_group_frame, State.openedGroup]
  simp only [Group.openSecond]
  cases s.router.active.groups[g].enabled <;> cases (s.opening true).router.active.groups[g].enabled <;> simp

/-- Without an auto-run start, windows and alert are those the reaches and the close leave, an open window marked by a change
of membership (R102). -/
theorem State.boundary_group_window (h : s.autoRunStarts true = false) :
    let now := (s.boundary true).groups[g]
    let turned := (s.turnedGroup g).1
    now.openWindow = turned.openWindow.map (·.markMembership
        (membershipChanged s.router.active (s.opening true).router.active g))
      ∧ now.alertOn = turned.alertOn ∧ now.alertLevel = turned.alertLevel ∧ now.alertPeriod = turned.alertPeriod := by
  intro now turned
  rw [show now = _ from s.boundary_group_unstarted g h, State.openedGroup]
  exact ⟨rfl, rfl, rfl, rfl⟩

end

/-- Settles O40: each group's turn split at its close, the group it leaves, and the results of its due windows in the order
their records are handed over. -/
theorem secondBoundaryTurnsGroups : Obligations.SecondBoundaryTurnsGroups := by
  intro s hs
  have hreached : reachAll s.control.lock (s.time.runningSecond + 1) (s.time.secondBoundary s.control.mode).handed s.schedules
      = s.reachedAt := by rw [State.reachedAt, s.opening_true_time_fields.1, State.opening_true_handed]
  have hrouter : (s.boundary true).router = (s.opening true).router := State.boundary_router s true
  have hsliced : ∀ g, s.groupAfterSlice s.closedSlices g = s.slicedGroup g := fun g => by rw [State.slicedGroup]
  refine ⟨s.boundary true, exec_secondBoundary hs, ?_, fun g => ?_⟩
  · rw [hreached, hrouter]
    simp only [hsliced]
    intro hnext
    rw [State.boundary_results_next hnext]
    simp only [State.turnedGroup_due]
  · rw [hreached, hrouter, hsliced]
    intro old new gr now slice hold excluded member changed opened
    have hexcluded : excluded = covered s.exclusions g s.time.runningSecond :=
      congrArg (List.any s.exclusions) (funext fun x => by rw [Exclusion.covers]; cases x.stop <;> rfl)
    have hchanged : membershipChanged s.router.active (s.opening true).router.active g = true ↔ changed :=
      membershipChanged_iff ..
    refine ⟨fun ho => ?_, fun ho hf => ?_, fun ho f hf => ?_, fun ho hn => ?_, fun ho hn => ?_, fun hn => ?_, fun hn hc hr w hw => ?_, ?_, ?_⟩
    · exact s.boundary_group_ring_kept g (.inl ho)
    · exact s.boundary_group_ring_kept g (.inr hf)
    · refine ⟨_, s.boundary_group_ring_entered g ho hf, ?_⟩
      rw [hexcluded]
      simp only [GroupForming.close, TimeBase.position]
      cases s.time.held <;> rfl
    · obtain ⟨hlatest, hcount⟩ := s.boundary_group_slice g ho hn
      rw [s.slicedGroup_enabled g ho] at hlatest hcount
      exact ⟨hlatest, hcount⟩
    · obtain ⟨h1, h2, h3, h4, h5, h6⟩ := s.boundary_group_disabled g ho hn
      exact ⟨h1, h2, h3, h4, h5, h6⟩
    · have hforming := s.boundary_group_opened g
      rw [if_pos hn] at hforming
      exact ⟨_, hforming, rfl, rfl, rfl, rfl, rfl, rfl, rfl, rfl, hchanged⟩
    · have hstarts : s.autoRunStarts true = false := by simp [State.autoRunStarts, hr]
      rw [(s.boundary_group_window g hstarts).1] at hw
      obtain ⟨v, -, rfl⟩ := Option.map_eq_some_iff.mp hw
      rw [Window.markMembership, hchanged.mpr hc]
      exact Bool.or_true _
    · exact (s.boundary_group_awaited g).trans (by rw [hrouter])
    · intro taken reaches context close waiting opening starts
      have hclose : close = s.closeAt g := funext fun x => by simp only [close, hexcluded]; rfl
      obtain ⟨before, after, h⟩ := s.turnedGroup_split g
      obtain ⟨hrolling, halert⟩ := s.boundary_group_rolling g
      refine ⟨?_, s.boundary_group_dueWindows g, fun _ => State.boundary_raises_schedule,
        fun _ => State.boundary_raises_slice, (s.turnedGroup g).1, (s.turnedGroup g).2, before, after, h.reaches, ?_, ?_,
        fun _ => State.boundary_raises_turned, hrolling, halert, fun hno => ?_, fun hlaw hdue w hw => ?_⟩
      · change (s.boundary true).schedules = s.reachedAt.1
        rw [State.boundary_schedules, if_pos rfl, State.reachedAt]
      · rw [hclose, h.turned]; exact ⟨rfl, rfl⟩
      · rintro hheld hsecond sofar p next hbefore hnext ⟨q, hq⟩ w ⟨hw, hwaits⟩
        have hnone := h.waits sofar p next hbefore hnext (by rw [hq]; rfl)
        rw [TimeBase.position, hheld] at hnone
        have := (List.any_eq_false.mp hnone) w hw
        exact this ((w.waitsFor_iff _ hsecond).mpr (by simpa only [and_assoc] using hwaits))
      · have hstarts : s.autoRunStarts true = false := by
          rw [Bool.eq_false_iff]
          exact fun h => hno (by simpa [State.autoRunStarts, and_assoc] using h)
        obtain ⟨hwindow, hrest⟩ := s.boundary_group_window g hstarts
        have hmark : membershipChanged s.router.active (s.opening true).router.active g = decide changed := by
          rw [Bool.eq_iff_iff, decide_eq_true_iff]; exact hchanged
        exact ⟨by rw [hwindow, hmark]; rfl, hrest⟩
      · obtain ⟨e, ring, hentry, hring, hjudged⟩ := s.judgedAt_background g w
        obtain ⟨-, -, -, -, -, -, -, -, htrim, -⟩ := hlaw
        obtain ⟨r, hr, hx, hexceeded⟩ := State.boundary_judged (State.handedOver_short htrim hdue) hw
        rw [hjudged] at hx hexceeded
        exact ⟨e, ring, hentry, hring, r, hr, hx, hexceeded⟩

end Sys2Proof.Machine
end

section
/-! SUPPORT. The time record and the mode: what each command leaves of them, and O60 (R23, R61, R65, R66, R69, R183, R187). -/
namespace Sys2Proof.Machine

/-! ### The laws, and what they read -/

/-- A time record in its ranges (R61, R65, R66), field by field. -/
structure TimeBase.Lawful (t : TimeBase) : Prop where
  missingRun : t.missingRun < 192
  goodRun : t.goodRun < 48
  holdLength : t.holdLength ≤ 4294967295
  frameIndex : t.frameIndex < 6000
  sliceIndex : t.sliceIndex < 8
  here : t.here.legal
  pendingTime : ∀ p ∈ t.pendingTime, p.legal
  trim : -4 ≤ t.trim ∧ t.trim ≤ 4
  locked : t.link = .locked → t.goodRun = 0 ∧ t.startUp = false
  holdOver : t.link = .holdOver → t.missingRun = 0

theorem State.timeLaw_iff (s : State) : s.timeLaw ↔ s.time.Lawful := by
  constructor
  · rintro ⟨h1, h2, h3, h4, h5, h6, h7, h8, h9, h10, h11⟩
    exact ⟨h1, h2, h3, h4, h5, h6, h7, ⟨h8, h9⟩, h10, h11⟩
  · rintro ⟨h1, h2, h3, h4, h5, h6, h7, ⟨h8, h9⟩, h10, h11⟩
    exact ⟨h1, h2, h3, h4, h5, h6, h7, h8, h9, h10, h11⟩

/-- The two laws together: neither is kept alone. -/
structure State.ClockLaw (s : State) : Prop where
  time : s.time.Lawful
  mode : s.modeLaw

/-- Two states with the same time record, mode and lock level. -/
structure SameClock (s t : State) : Prop where
  time : t.time = s.time
  mode : t.control.mode = s.control.mode
  lock : t.control.lock = s.control.lock

theorem SameClock.refl (s : State) : SameClock s s := ⟨rfl, rfl, rfl⟩

theorem SameClock.trans {s t u : State} (h : SameClock s t) (k : SameClock t u) : SameClock s u :=
  ⟨k.time.trans h.time, k.mode.trans h.mode, k.lock.trans h.lock⟩

/-- The law of the mode reads the clock, the pending time, the mode and the lock level. -/
theorem State.modeLaw.congr {s t : State} (h : s.modeLaw) (hm : t.control.mode = s.control.mode)
    (hl : t.control.lock = s.control.lock) (hc : t.time.clockSet = s.time.clockSet)
    (hp : t.time.pendingTime = s.time.pendingTime) : t.modeLaw := by
  unfold State.modeLaw at *
  rwa [hm, hl, hc, hp]

theorem State.ClockLaw.congr {s t : State} (h : s.ClockLaw) (e : SameClock s t) : t.ClockLaw :=
  ⟨e.time ▸ h.time, h.mode.congr e.mode e.lock (by rw [e.time]) (by rw [e.time])⟩

/-- A property that only the time record, the mode and the lock level decide passes through a request from its rule. -/
theorem State.ClockLaw.serve {s : State} {code : Byte} {w b : Bool} {r : Request} {rule : State → Reply} (h : s.ClockLaw)
    (hr : (rule s).state.ClockLaw) : (s.serve code w b r rule).ClockLaw :=
  State.serve_keeps (fun _ _ _ h => h.congr ⟨by simp, by simp, by simp⟩) (fun _ _ _ _ _ _ h => h.congr ⟨rfl, rfl, rfl⟩)
    (fun _ _ h => h.congr ⟨rfl, rfl, rfl⟩) h hr

/-! ### The commands of the clock, the mode and the lock -/

/-- SET MODE names CONFIG or RUN (R184). -/
theorem setModeOf_eq_some {p : List Byte} {m : Mode} (h : setModeOf p = some m) : m = .config ∨ m = .run := by
  simp only [setModeOf, Option.bind_eq_bind, Option.bind_eq_some_iff] at h
  obtain ⟨_, -, h⟩ := h
  split at h <;> cases h
  · exact .inl rfl
  · exact .inr rfl

/-- SET TIME names a position in its ranges (R68). -/
theorem setTimeOf_legal {p : List Byte} {t : Pos} (h : setTimeOf p = some t) : t.legal := by
  simp only [setTimeOf, Option.bind_eq_bind, Option.bind_eq_some_iff] at h
  obtain ⟨_, -, h⟩ := h
  split at h <;> cases h
  assumption

/-- LOCK names level 1 or 2 (R187). -/
theorem lockOf_eq_some {p : List Byte} {n : Nat} (h : lockOf p = some n) : n = 1 ∨ n = 2 := by
  simp only [lockOf, Option.bind_eq_bind, Option.bind_eq_some_iff] at h
  obtain ⟨_, -, h⟩ := h
  split at h <;> cases h
  · exact .inl rfl
  · exact .inr rfl

section Rules
variable {s : State} (p : List Byte)

/-- The entry to RUN with the clock set drops the pending time (R69, R183). -/
theorem State.ClockLaw.enterRun (h : s.ClockLaw) (hc : s.time.clockSet = true) : s.enterRun.ClockLaw where
  time := { h.time with here := h.time.here, pendingTime := by rintro p ⟨⟩ }
  mode := ⟨fun _ => ⟨hc, rfl⟩, fun _ => rfl, nofun, h.mode.2.2.2⟩

/-- CONFIG can be entered below lock level 2 (R184, R186, R187). -/
theorem State.modeLaw.config {t : State} (h : s.modeLaw) (hl : s.control.lock < 2) (hm : t.control.mode = .config)
    (ht : t.control.lock = s.control.lock) : t.modeLaw := by
  refine ⟨?_, ?_, ?_, ht ▸ h.2.2.2⟩
  · rw [hm]; nofun
  · omega
  · rw [hm]; nofun

theorem setModeRule_clockLaw (h : s.ClockLaw) : (setModeRule p s).state.ClockLaw := by
  refine takeOutsideBoot_state h fun m hm _ => ?_
  split_ifs with hclock hlock hbusy hsame hrun
  · exact h
  · exact h
  · exact h
  · exact h
  · exact h.enterRun (by simpa [hrun] using hclock)
  · have hconfig : m = .config := (setModeOf_eq_some hm).resolve_right hrun
    exact ⟨h.time, h.mode.config (by simpa [hconfig] using hlock) rfl rfl⟩

/-- A pending time waits outside RUN only: in RUN the clock is set, and SET TIME is refused (R68). -/
theorem setTimeRule_clockLaw (h : s.ClockLaw) : (setTimeRule p s).state.ClockLaw := by
  refine takeAlways_state h fun t ht => ?_
  split_ifs with hmode
  · exact h
  · refine ⟨{ h.time with here := h.time.here, pendingTime := ?_ }, ?_, h.mode.2⟩
    · rintro q ⟨⟩
      exact setTimeOf_legal ht
    · intro (hrun : s.control.mode = .run)
      exact absurd ⟨by rw [hrun]; nofun, (h.mode.1 hrun).1⟩ hmode

theorem trimTimeRule_clockLaw (h : s.ClockLaw) : (trimTimeRule p s).state.ClockLaw := by
  refine takeOutsideBoot_state h fun t _ _ => ?_
  split_ifs
  · exact h
  · exact ⟨{ h.time with here := h.time.here, trim := by dsimp only [trimBalance]; omega }, h.mode⟩

theorem restartRule_clockLaw (h : s.ClockLaw) : (restartRule p s).state.ClockLaw := by
  refine takeOutsideBoot_state h fun _ _ _ => ?_
  split_ifs with hl
  · exact h
  · exact ⟨h.time, h.mode.config (Nat.lt_of_not_le hl) rfl rfl⟩

/-- Level 2 is taken in RUN only, and no level in BOOT (R187). -/
theorem lockRule_clockLaw (h : s.ClockLaw) : (lockRule p s).state.ClockLaw := by
  refine takeOutsideBoot_state h fun level hlevel hboot => ?_
  split_ifs with hle hrun
  · exact h
  · exact h
  · have hlow := lockOf_eq_some hlevel
    refine ⟨h.time, h.mode.1, fun h2 => ?_, fun hb => absurd hb hboot, ?_⟩
    · exact not_not.mp fun hn => hrun ⟨h2, hn⟩
    · change level ≤ 2
      omega

end Rules

/-! ### Every request -/

/-- Every request keeps the laws: the rules that are no command of the clock, the mode or the lock leave all three alone in
every branch (R180). -/
theorem State.ClockLaw.serveCode {s : State} (code : Byte) (r : Request) (h : s.ClockLaw) :
    (serveCode code r s).ClockLaw := by
  have kept {t : State} (e : SameClock s t) : t.ClockLaw := h.congr e
  unfold Machine.serveCode
  split
  case h_1 => exact h.serve h
  case h_2 => exact h.serve (takeAlways_state h fun _ _ => h)
  case h_3 => exact h.serve (takeAlways_state h fun _ _ => h)
  case h_4 => exact h.serve (setModeRule_clockLaw _ h)
  case h_5 => exact h.serve (setTimeRule_clockLaw _ h)
  case h_6 => exact h.serve (trimTimeRule_clockLaw _ h)
  case h_7 => exact h.serve (restartRule_clockLaw _ h)
  case h_8 => exact h.serve (lockRule_clockLaw _ h)
  case h_9 =>
    split
    · exact h.serve (takeOutsideBoot_state h fun _ _ _ => kept ⟨rfl, rfl, rfl⟩)
    · exact h.serve (takeOutsideBoot_state h fun _ _ _ => by split <;> exact h)
  case h_10 =>
    split
    · exact h.serve (takeOutsideBoot_state h fun _ _ _ => kept ⟨rfl, rfl, rfl⟩)
    · exact h.serve (takeOutsideBoot_state h fun _ _ _ => by split <;> exact h)
  case h_11 =>
    refine h.serve (takeOutsideBoot_state h fun _ _ _ => ?_)
    split
    · exact h
    · split <;> exact kept ⟨rfl, rfl, rfl⟩
  case h_12 =>
    split
    · refine h.serve (takeAlways_state h fun _ _ => ?_)
      split_ifs <;> exact kept ⟨rfl, rfl, rfl⟩
    · exact h.serve (takeOutsideBoot_state h fun _ _ _ => h)
  case h_13 =>
    split
    · exact h.serve (takeOutsideBoot_state h fun _ _ _ => kept ⟨rfl, rfl, rfl⟩)
    · exact h.serve (takeOutsideBoot_state h fun _ _ _ => by split <;> exact h)
  case h_14 =>
    split
    · exact h.serve (takeOutsideBoot_state h fun _ _ _ => kept ⟨rfl, rfl, rfl⟩)
    · exact h.serve (takeOutsideBoot_state h fun _ _ _ => by split <;> exact h)
  case h_15 =>
    refine h.serve (takeOutsideBoot_state h fun _ _ _ => ?_)
    split
    · exact h
    · split <;> exact kept ⟨rfl, rfl, rfl⟩
  case h_16 =>
    refine h.serve (takeOutsideBoot_state h fun _ _ _ => ?_)
    split
    · exact h
    · split <;> exact kept ⟨rfl, rfl, rfl⟩
  case h_17 => exact h.serve (takeOutsideBoot_state h fun _ _ _ => by split <;> exact kept ⟨rfl, rfl, rfl⟩)
  case h_18 => exact h.serve (takeOutsideBoot_state h fun _ _ _ => by split <;> exact kept ⟨rfl, rfl, rfl⟩)
  case h_19 =>
    refine h.serve (takeOutsideBoot_state h fun _ _ _ => ?_)
    split
    · exact h
    · split <;> exact h
  case h_20 => exact h.serve (takeOutsideBoot_state h fun _ _ _ => by split <;> exact kept ⟨rfl, rfl, rfl⟩)
  case h_21 =>
    exact h.serve (takeOutsideBoot_state h fun _ _ _ => kept (by constructor <;> simp [Reply.plain, State.abortCheck]))
  case h_22 => exact h.serve (takeOutsideBoot_state h fun _ _ _ => h)
  case h_23 => exact h.serve (takeOutsideBoot_state h fun _ _ _ => h)
  case h_24 => exact h.serve (takeOutsideBoot_state h fun _ _ _ => h)
  case h_25 => exact h.serve (takeOutsideBoot_state h fun _ _ _ => h)
  case h_26 => exact h.serve (takeAlways_state h fun _ _ => by split <;> exact h)
  case h_27 => exact h.serve (takeAlways_state h fun _ _ => by split <;> exact kept ⟨rfl, rfl, rfl⟩)

/-! ### Boundaries (R63, R64, R69, R71 to R73, R185) -/

/-- A slice boundary inside a second leaves the time record in its ranges. -/
theorem TimeBase.Lawful.sliceBoundary {t : TimeBase} (h : t.Lawful) (hi : t.sliceIndex < 7) : t.sliceBoundary.Lawful :=
  { h with here := h.here, frameIndex := by simp [TimeBase.sliceBoundary], sliceIndex := Nat.succ_lt_succ hi }

/-- A second opens frame 0 and slice 0. -/
theorem TimeBase.Lawful.openSecond {t : TimeBase} (h : t.Lawful) : t.openSecond.Lawful :=
  { h with here := h.here, frameIndex := by simp [TimeBase.openSecond], sliceIndex := by simp [TimeBase.openSecond] }

theorem TimeBase.Lawful.moveTo {t : TimeBase} (h : t.Lawful) {p : Pos} (hp : p.legal) : (t.moveTo p).Lawful :=
  { h with here := hp, trim := by simp [TimeBase.moveTo] }

theorem TimeBase.Lawful.secondBoundary {t : TimeBase} (h : t.Lawful) (mode : Mode) :
    (t.secondBoundary mode).time.Lawful := by
  have hopen := h.openSecond
  unfold TimeBase.secondBoundary
  dsimp only
  split
  · rename_i p hp
    exact { hopen.moveTo (h.pendingTime p hp) with here := h.pendingTime p hp, pendingTime := by rintro q ⟨⟩ }
  · split_ifs with h0 hmode hpos
    · exact hopen.moveTo (Pos.next_legal h.here)
    · exact hopen.moveTo (Pos.shift_legal _ _)
    · exact hopen.moveTo (Pos.shift_legal _ _)
    · obtain ⟨hlow, hhigh⟩ := h.trim
      refine { hopen with here := h.here, trim := ?_ }
      change -4 ≤ t.trim + 1 ∧ t.trim + 1 ≤ 4
      omega

/-- A second boundary leaves the clock set where it was set, and sets it where a pending time takes effect (R69). -/
theorem TimeBase.secondBoundary_clockSet (t : TimeBase) (mode : Mode) :
    (t.secondBoundary mode).time.clockSet = (t.clockSet || t.pendingTime.isSome) := by
  unfold TimeBase.secondBoundary
  dsimp only
  split
  · simp [*]
  · split_ifs <;> simp [*, TimeBase.moveTo, TimeBase.hold, TimeBase.openSecond]

/-- A boundary keeps the laws: the auto-run start is taken only where a pending time has set the clock (R185). -/
theorem State.ClockLaw.boundary {s : State} {b : Bool} (h : s.ClockLaw) (hb : b = true ∨ s.time.sliceIndex < 7) :
    (s.boundary b).ClockLaw := by
  cases b with
  | false =>
    have hi : s.time.sliceIndex < 7 := by simpa using hb
    have hstart : s.autoRunStarts false = false := rfl
    refine ⟨?_, h.mode.congr ?_ ?_ ?_ ?_⟩
    · rw [State.boundary_time, hstart]
      exact h.time.sliceBoundary hi
    all_goals simp [hstart, TimeBase.sliceBoundary]
  | true =>
    obtain ⟨hrun, hlock, hboot, hlevel⟩ := h.mode
    have hpending := (s.time.secondBoundary_indices s.control.mode).2.2
    refine ⟨by rw [State.boundary_true_time]; exact h.time.secondBoundary _, ?_⟩
    unfold State.modeLaw
    rw [State.boundary_true_time, State.boundary_control, TimeBase.secondBoundary_clockSet, hpending]
    split
    · rename_i hs
      simp only [State.autoRunStarts, Bool.and_eq_true, decide_eq_true_eq] at hs
      exact ⟨fun _ => ⟨by simp [hs.2], rfl⟩, fun _ => rfl, nofun, hlevel⟩
    · exact ⟨fun hm => ⟨by simp [(hrun hm).1], rfl⟩, hlock, hboot, hlevel⟩

/-! ### Frame periods and the link (R62, R65, R66) -/

theorem State.ClockLaw.advance {s : State} (h : s.ClockLaw) : s.advance.ClockLaw := by
  unfold State.advance
  dsimp only
  split
  · exact ⟨{ h.time with here := h.time.here, frameIndex := ‹_› }, h.mode⟩
  · refine State.ClockLaw.boundary (h.congr ⟨rfl, rfl, rfl⟩) ?_
    simp only [decide_eq_true_eq]
    omega

/-- A loss declared opens a hold-over (R65). -/
theorem TimeBase.Lawful.lose {t : TimeBase} (h : t.Lawful) : t.lose.Lawful where
  missingRun := Nat.succ_pos _
  goodRun := h.goodRun
  holdLength := Nat.zero_le _
  frameIndex := h.frameIndex
  sliceIndex := h.sliceIndex
  here := h.here
  pendingTime := h.pendingTime
  trim := h.trim
  locked := nofun
  holdOver := fun _ => rfl

/-- A restoration declared ends start-up, whatever the runs have reached (R66). -/
theorem TimeBase.Lawful.regain {t u : TimeBase} (h : t.Lawful) {g n : Nat} (hn : n ≤ 4294967295)
    (hu : u = { t with goodRun := g, holdLength := n }) : u.regain.Lawful := by
  subst hu
  exact
    { missingRun := Nat.succ_pos _, goodRun := Nat.succ_pos _, holdLength := hn, frameIndex := h.frameIndex
      sliceIndex := h.sliceIndex, here := h.here, pendingTime := h.pendingTime, trim := h.trim
      locked := fun _ => ⟨rfl, rfl⟩, holdOver := nofun }

/-- A period without a good frame raises the missing run in LOCKED, and ends the good run in HOLD-OVER (R65, R66). -/
theorem TimeBase.countPeriod_missed_locked {t : TimeBase} (h : t.link = .locked) (hr : t.missingRun < 192) :
    t.countPeriod false = { t with missingRun := t.missingRun + 1 } := by
  have : min 192 (t.missingRun + 1) = t.missingRun + 1 := by omega
  simp [TimeBase.countPeriod, h, this]

theorem TimeBase.countPeriod_missed_holdOver {t : TimeBase} (h : t.link = .holdOver) :
    t.countPeriod false = { t with goodRun := 0, holdLength := min 4294967295 (t.holdLength + 1) } := by
  simp [TimeBase.countPeriod, h]

/-- Short of the lengths at which they declare, the runs stay in their ranges (R65, R66). -/
theorem TimeBase.Lawful.countPeriod {t : TimeBase} (h : t.Lawful) {good : Bool} (hl : t.loses good = false)
    (hr : t.regains good = false) : (t.countPeriod good).Lawful := by
  cases hlink : t.link with
  | locked =>
    cases good with
    | true =>
      rw [TimeBase.countPeriod_locked hlink]
      exact { h with here := h.here, missingRun := Nat.succ_pos _, holdOver := fun _ => rfl }
    | false =>
      have hm : t.missingRun < 191 := by simpa [TimeBase.loses, hlink] using hl
      rw [TimeBase.countPeriod_missed_locked hlink h.missingRun]
      exact { h with here := h.here, missingRun := Nat.succ_lt_succ hm, holdOver := by simp [hlink] }
  | holdOver =>
    have hn : min 4294967295 (t.holdLength + 1) ≤ 4294967295 := Nat.min_le_left ..
    cases good with
    | true =>
      have hg : t.goodRun < 47 := by simpa [TimeBase.regains, hlink] using hr
      rw [TimeBase.countPeriod_holdOver hlink h.goodRun]
      exact { h with here := h.here, goodRun := Nat.succ_lt_succ hg, holdLength := hn, locked := by simp [hlink] }
    | false =>
      rw [TimeBase.countPeriod_missed_holdOver hlink]
      exact { h with here := h.here, goodRun := Nat.succ_pos _, holdLength := hn, locked := by simp [hlink] }

@[simp] theorem State.loseLink_time (s : State) : s.loseLink.time = s.time.lose := by simp [State.loseLink]
@[simp] theorem State.loseLink_control (s : State) : s.loseLink.control = s.control := by simp [State.loseLink]
@[simp] theorem State.regainLink_control (s : State) : s.regainLink.control = s.control := by simp [State.regainLink]

theorem State.ClockLaw.loseLink {s : State} (h : s.ClockLaw) : s.loseLink.ClockLaw where
  time := by rw [State.loseLink_time]; exact h.time.lose
  mode := h.mode.congr (by simp) (by simp) (by simp [TimeBase.lose]) (by simp [TimeBase.lose])

theorem State.ClockLaw.regainLink {s : State} (h : s.ClockLaw) : s.regainLink.ClockLaw where
  time := by rw [State.regainLink_time]; exact h.time.regain h.time.holdLength rfl
  mode := h.mode.congr (by simp) (by simp) (by simp [TimeBase.regain]) (by simp [TimeBase.regain])

theorem TimeBase.countPeriod_clock (t : TimeBase) (good : Bool) :
    (t.countPeriod good).clockSet = t.clockSet ∧ (t.countPeriod good).pendingTime = t.pendingTime := by
  unfold TimeBase.countPeriod
  split <;> exact ⟨rfl, rfl⟩

/-- A frame period declares a loss, or a restoration after it is counted, or moves the runs alone (R65, R66). -/
theorem State.ClockLaw.countRuns {s : State} (good : Bool) (h : s.ClockLaw) : (s.countRuns good).ClockLaw := by
  obtain ⟨hclock, hpending⟩ := s.time.countPeriod_clock good
  unfold State.countRuns
  dsimp only
  split_ifs with hl hr
  · have hlost := h.loseLink
    exact ⟨{ hlost.time with here := hlost.time.here, holdLength := (by decide : 1 ≤ 4294967295) }, hlost.mode⟩
  · simp only [TimeBase.regains, Bool.and_eq_true, decide_eq_true_eq] at hr
    obtain ⟨⟨hlink, rfl⟩, -⟩ := hr
    refine ⟨?_, h.mode.congr (by simp) (by simp) (by simpa [TimeBase.regain] using hclock)
      (by simpa [TimeBase.regain] using hpending)⟩
    rw [State.regainLink_time]
    exact h.time.regain (Nat.min_le_left ..) (TimeBase.countPeriod_holdOver hlink h.time.goodRun)
  · exact ⟨h.time.countPeriod (by simpa using hl) (by simpa using hr), h.mode.congr rfl rfl hclock hpending⟩

/-! ### The boot image, and cells -/

/-- The end of the load leaves BOOT for CONFIG, or for RUN with the clock set (R183, R185, R190). -/
theorem State.ClockLaw.endLoad {s : State} (m : MemoryRead) (h : s.ClockLaw) (hb : s.control.mode = .boot) :
    (s.endLoad m).ClockLaw := by
  have hlock : s.control.lock < 2 := by rw [h.mode.2.2.1 hb]; decide
  unfold State.endLoad
  dsimp only
  split
  · exact ⟨h.time, h.mode.config hlock rfl rfl⟩
  · rename_i t _
    have haccepted : (State.acceptImage { s with control := { s.control with portLog := portActs m } } t
        (imageAutoRun m)).ClockLaw := ⟨h.time, h.mode.config hlock rfl rfl⟩
    split
    · rename_i hrun
      exact haccepted.enterRun (Bool.and_eq_true_iff.mp hrun).2
    · exact haccepted

theorem State.clockLaw_powerOn (s : State) (n : Fin 4) : (s.powerOn n).ClockLaw where
  time := (State.timeLaw_iff State.reset).mp State.reset_timeLaw
  mode := ⟨nofun, nofun, fun _ => rfl, by change (0 : Nat) ≤ 2; decide⟩

theorem State.spoil_sameClock (s : State) (bytes : List Byte) (f : CellFault) : SameClock s (s.spoil bytes f) := by
  unfold State.spoil
  split
  · exact .refl s
  · split <;> exact ⟨rfl, rfl, rfl⟩

theorem State.ClockLaw.takeCell {s : State} (cell : Cell) (h : s.ClockLaw) : (s.takeCell cell).ClockLaw := by
  have hup : ({ s with trunk := s.trunk.forwardUp cell } : State).ClockLaw := h.congr ⟨rfl, rfl, rfl⟩
  unfold State.takeCell
  dsimp only
  split
  · split
    · exact h.serveCode _ _
    · exact h.congr ⟨rfl, rfl, rfl⟩
  · split
    · exact hup.serveCode _ _
    · exact h.congr ⟨rfl, rfl, rfl⟩
  · exact hup

/-- Bytes that arrive first spoil a cell still in arrival; then they are spoilt too, or wait in the parser, or are taken as a
cell (R164, R165). -/
theorem State.receiveCell_cases (s : State) (bytes : List Byte) : ∃ u : State, (u = s ∨ ∃ arrived, u = s.spoil arrived .timeout)
    ∧ (s.receiveCell bytes = (u.spoil bytes .length).withParser .hunting
      ∨ (∃ p, s.receiveCell bytes = u.withParser p)
      ∨ ∃ cell, s.receiveCell bytes = (u.withParser .hunting).takeCell cell) := by
  unfold State.receiveCell
  extract_lets u
  refine ⟨u, ?_, ?_⟩
  · simp only [u]
    split
    · exact .inl rfl
    · exact .inr ⟨_, rfl⟩
  · clear_value u
    split
    · split_ifs
      · exact .inl rfl
      · exact .inr (.inl ⟨_, rfl⟩)
      · exact .inr (.inr ⟨_, rfl⟩)
    · exact .inr (.inl ⟨_, rfl⟩)

theorem State.ClockLaw.receiveCell {s : State} (bytes : List Byte) (h : s.ClockLaw) : (s.receiveCell bytes).ClockLaw := by
  obtain ⟨u, hu, hr⟩ := s.receiveCell_cases bytes
  have hfirst : u.ClockLaw := by
    rcases hu with rfl | ⟨arrived, rfl⟩
    · exact h
    · exact h.congr (s.spoil_sameClock _ _)
  rcases hr with hr | ⟨p, hr⟩ | ⟨cell, hr⟩ <;> rw [hr]
  · exact (hfirst.congr (u.spoil_sameClock _ _)).congr ⟨rfl, rfl, rfl⟩
  · exact hfirst.congr ⟨rfl, rfl, rfl⟩
  · exact State.ClockLaw.takeCell (s := u.withParser .hunting) _ (hfirst.congr ⟨rfl, rfl, rfl⟩)

/-! ### The step -/

/-- Every command keeps the laws of the time record and of the mode. -/
theorem exec_clockLaw {i : Instr} {s t : State} (h : s.ClockLaw) (hi : exec i s = .next t) : t.ClockLaw := by
  cases hc : codedRequest i with
  | some x =>
    rw [exec_coded hc] at hi
    obtain rfl := Host.Outcome.next.inj hi
    exact h.serveCode _ _
  | none =>
    cases i with
    | powerOn n => obtain rfl := Host.Outcome.next.inj hi; exact s.clockLaw_powerOn n
    | bootLoadEnd m =>
      change execBootLoadEnd m s = _ at hi
      unfold execBootLoadEnd at hi
      split at hi <;> obtain rfl := Host.Outcome.next.inj hi
      · exact h.endLoad m ‹_›
      · exact h
    | sampleFrame f =>
      obtain rfl := Host.Outcome.next.inj hi
      have hcounted := h.advance.countRuns (goodFrame f)
      split
      · exact hcounted.congr ⟨by simp, by simp, by simp⟩
      · exact hcounted.congr ⟨rfl, rfl, rfl⟩
    | framePeriod =>
      obtain rfl := Host.Outcome.next.inj hi
      exact (h.advance.countRuns false).congr ⟨rfl, rfl, rfl⟩
    | linkLoss =>
      change execLinkLoss s = _ at hi
      unfold execLinkLoss at hi
      split at hi <;> obtain rfl := Host.Outcome.next.inj hi
      · exact h.loseLink
      · exact h
    | linkRestoration =>
      change execLinkRestoration s = _ at hi
      unfold execLinkRestoration at hi
      split at hi <;> obtain rfl := Host.Outcome.next.inj hi
      · exact h.regainLink
      · exact h
    | sliceBoundary =>
      obtain rfl := Host.Outcome.next.inj hi
      have hb : decide (7 ≤ s.time.sliceIndex) = true ∨ s.time.sliceIndex < 7 := by rw [decide_eq_true_eq]; omega
      exact (h.boundary hb).congr ⟨rfl, rfl, rfl⟩
    | secondBoundary =>
      change execSecondBoundary s = _ at hi
      unfold execSecondBoundary at hi
      split at hi <;> obtain rfl := Host.Outcome.next.inj hi
      · exact h.congr ⟨rfl, rfl, rfl⟩
      · exact h.boundary (.inl rfl)
    | intervalTimerExpiry c =>
      change execIntervalTimerExpiry c s = _ at hi
      unfold execIntervalTimerExpiry at hi
      split at hi <;> obtain rfl := Host.Outcome.next.inj hi
      · exact h.congr ⟨by simp, by simp, by simp⟩
      · exact h
    | controlCell bytes => obtain rfl := Host.Outcome.next.inj hi; exact h.receiveCell _
    | cellTimeout arrived mark =>
      obtain rfl := Host.Outcome.next.inj hi
      exact (h.congr (s.spoil_sameClock _ _)).congr ⟨rfl, rfl, rfl⟩
    | cellLengthFault arrived =>
      obtain rfl := Host.Outcome.next.inj hi
      exact (h.congr (s.spoil_sameClock _ _)).congr ⟨rfl, rfl, rfl⟩
    | passThroughCell cell => obtain rfl := Host.Outcome.next.inj hi; exact h.congr ⟨rfl, rfl, rfl⟩
    | forwardCellWindow => obtain rfl := Host.Outcome.next.inj hi; exact h.congr ⟨rfl, rfl, rfl⟩
    | returnLaneSend => obtain rfl := Host.Outcome.next.inj hi; exact h.congr ⟨rfl, rfl, rfl⟩
    | _ => cases hc

/-- Settles O60: every command keeps the two laws together, and an idle step changes nothing. -/
theorem timeAndModeStayInRange : Obligations.TimeAndModeStayInRange := by
  intro s t ht hm h
  have hs : s.ClockLaw := ⟨s.timeLaw_iff.mp ht, hm⟩
  suffices hk : t.ClockLaw from ⟨t.timeLaw_iff.mpr hk.time, hk.mode⟩
  unfold step at h
  split at h
  · obtain rfl := Host.Outcome.next.inj h
    exact hs
  · rename_i rest _
    exact exec_clockLaw (s := { s with pending := rest }) (hs.congr ⟨rfl, rfl, rfl⟩) h

end Sys2Proof.Machine
end

section
/-! SUPPORT. The section step of the Weighting Filter Unit: rounding, saturation, the cascade; O49 (R16, R17, R19). -/
namespace Sys2Proof.Machine

/-! ### Rounding and saturation (R19, steps 2 and 3) -/

/-- The rounded quotient lies within half a unit of the exact one, and a tie goes up (R19). -/
theorem roundAccumulator_nearest (acc : Int) :
    268435456 * (2 * roundAccumulator acc - 1) ≤ 2 * acc ∧ 2 * acc < 268435456 * (2 * roundAccumulator acc + 1) := by
  unfold roundAccumulator
  omega

/-- The rounded quotient lies above the signal range where the exact one reaches half a unit above its end. -/
theorem roundAccumulator_above_iff (acc : Int) :
    2147483647 < roundAccumulator acc ↔ 268435456 * (2 * 2147483647 + 1) ≤ 2 * acc := by
  unfold roundAccumulator
  omega

/-- It lies below where the exact one is more than half a unit below the other end. -/
theorem roundAccumulator_below_iff (acc : Int) :
    roundAccumulator acc < -2147483648 ↔ 2 * acc < 268435456 * (2 * (-2147483648) - 1) := by
  unfold roundAccumulator
  omega

theorem saturate_above {y : Int} (h : 2147483647 < y) : saturate y = (2147483647, true) := if_pos h

theorem saturate_below {y : Int} (h : y < -2147483648) : saturate y = (-2147483648, true) := by
  rw [saturate, if_neg (by omega), if_pos h]

theorem saturate_inside {y : Int} (ha : ¬2147483647 < y) (hb : ¬y < -2147483648) : saturate y = (y, false) := by
  rw [saturate, if_neg ha, if_neg hb]

/-- Settles O49: a path is its cascade, and a step's output is the rounded accumulator, or the end of the range it passed. -/
theorem sectionStepRoundsAndSaturates : Obligations.SectionStepRoundsAndSaturates := by
  refine ⟨fun coefs st s => ⟨rfl, rfl, rfl⟩, ?_⟩
  intro k st s acc r above below
  have ha : 2147483647 < roundAccumulator acc ↔ above := roundAccumulator_above_iff acc
  have hb : roundAccumulator acc < -2147483648 ↔ below := roundAccumulator_below_iff acc
  have hout : r.2 = saturate (roundAccumulator acc) := rfl
  refine ⟨rfl, ?_⟩
  rw [hout]
  by_cases habove : 2147483647 < roundAccumulator acc
  · have hnot : ¬roundAccumulator acc < -2147483648 := by omega
    rw [saturate_above habove]
    exact ⟨by simp [ha.mp habove], fun _ => rfl, fun h => absurd (hb.mpr h) hnot, fun h => absurd (ha.mp habove) h⟩
  · by_cases hbelow : roundAccumulator acc < -2147483648
    · rw [saturate_below hbelow]
      exact ⟨by simp [hb.mp hbelow], fun h => absurd (ha.mpr h) habove, fun _ => rfl,
        fun _ h => absurd (hb.mp hbelow) h⟩
    · rw [saturate_inside habove hbelow]
      exact ⟨by simp [← ha, ← hb, habove, hbelow], fun h => absurd (ha.mpr h) habove, fun h => absurd (hb.mpr h) hbelow,
        fun _ _ => roundAccumulator_nearest acc⟩

end Sys2Proof.Machine
end

section
/-! SUPPORT. COEF SECTION: the 22 bytes of a write, its tests in order, the read; O19 (R17, R18, R23, R24). -/
namespace Sys2Proof.Machine

/-! ### Coefficients in bytes (R17, R175) -/

/-- A signed 32-bit field is read back from its bytes (R17, R170). -/
theorem signedField_beSigned {x : Int} (h : legalCoef x) : signedField (beSigned 4 x) 0 4 = x := by
  obtain ⟨hlow, hhigh⟩ := h
  unfold signedField beSigned
  rw [field_beBytes]
  norm_num
  split <;> omega

/-- Signed fields that spell the same number are equal. -/
theorem signedField_congr {p q : List Byte} {i j w : Nat} (h : field p i w = field q j w) :
    signedField p i w = signedField q j w := by
  unfold signedField
  rw [h]

@[simp] theorem beSigned_length (w : Nat) (x : Int) : (beSigned w x).length = w := beBytes_length ..

theorem coefBytes_length (i : Fin 6) (k : CoefSet) : (coefBytes i k).length = 22 := by simp [coefBytes]

/-- The head of a COEF SECTION names the weighting and the section, in the order A0, A1, A2, C0, C1, C2 (R18, R23). -/
theorem coefIndexOf_head (i : Fin 6) : coefIndexOf (i.val / 3) (i.val % 3) = some i := by
  fin_cases i <;> rfl

/-- No weighting but A and C, and no section above 2, is in the table (R23). -/
theorem coefIndexOf_eq_none {a b : Nat} (h : 1 < a ∨ 2 < b) : coefIndexOf a b = none := dif_neg (by omega)

/-- A COEF SECTION write that spells a coefficient set is read as it was spelt (R17, R23). -/
theorem coefWriteOf_bytes (i : Fin 6) {k : CoefSet} (hk : k.legal) : coefWriteOf (coefBytes i k) = some (i, k) := by
  obtain ⟨hb0, hb1, hb2, ha1, ha2⟩ := hk
  have hi := i.isLt
  have hlength : ofLength (coefBytes i k) 22 = some () := ofLength_eq_some.mpr (coefBytes_length i k)
  have hweighting : field (coefBytes i k) 0 1 = i.val / 3 := by
    simp [coefBytes, field_append_left, field_beBytes]
    omega
  have hsection : field (coefBytes i k) 1 1 = i.val % 3 := by
    simp [coefBytes, field_append_left, field_append_right, field_beBytes]
    omega
  have read {off : Nat} {x : Int} (hx : legalCoef x) (h : field (coefBytes i k) off 4 = field (beSigned 4 x) 0 4) :
      signedField (coefBytes i k) off 4 = x := (signedField_congr h).trans (signedField_beSigned hx)
  rw [coefWriteOf, hlength, hweighting, hsection, coefIndexOf_head, read hb0, read hb1, read hb2, read ha1, read ha2]
  · rfl
  all_goals simp [coefBytes, field_append_left, field_append_right]

/-- A COEF SECTION that names no section of the table is not read (R23, R180). -/
theorem coefWriteOf_unnamed {a b : Byte} (rest : List Byte) (h : 1 < a.toNat ∨ 2 < b.toNat) :
    coefWriteOf (a :: b :: rest) = none := by
  simp [coefWriteOf, coefIndexOf_eq_none h]

theorem coefReadOf_unnamed {a b : Byte} (rest : List Byte) (h : 1 < a.toNat ∨ 2 < b.toNat) :
    coefReadOf (a :: b :: rest) = none := by
  simp [coefReadOf, coefIndexOf_eq_none h]

theorem coefReadOf_bytes (i : Fin 6) : coefReadOf [BitVec.ofNat 8 (i.val / 3), BitVec.ofNat 8 (i.val % 3)] = some i := by
  fin_cases i <;> rfl

/-! ### The request -/

theorem takeAlways_some {α : Type} {s : State} {operands : Option α} {rule : α → Reply} {a : α} (h : operands = some a) :
    takeAlways s operands rule = rule a := by
  simp [takeAlways, h]

theorem takeAlways_none {α : Type} {s : State} {operands : Option α} {rule : α → Reply} (h : operands = none) :
    takeAlways s operands rule = Reply.plain s .badArgument [] := by
  simp [takeAlways, h, Reply.badArgument]

/-- A write is refused outside CONFIG, then at a lock level; else it makes the set the section's waiting one (R23). -/
theorem coefWriteRule_read {p : List Byte} {i : Fin 6} {k : CoefSet} (h : coefWriteOf p = some (i, k)) (s : State) :
    coefWriteRule p s =
      if s.control.mode ≠ .config then Reply.plain s .wrongMode [0]
      else if 1 ≤ s.control.lock then Reply.plain s .locked []
      else Reply.plain (s.writeCoefs i k) .pendingResult (coefBytes i k) := by
  rw [coefWriteRule, takeAlways_some h]
  rfl

/-- Settles O19: a write's tests in order and the waiting set, the read of the set in force, and what names no section. -/
theorem coefficientsWriteAndRead : Obligations.CoefficientsWriteAndRead := by
  intro r s i hr
  refine ⟨fun k hk hp => congrArg Host.Outcome.next ?_, fun hp hm => congrArg Host.Outcome.next ?_,
    fun a b rest hp h => ⟨congrArg Host.Outcome.next ?_, congrArg Host.Outcome.next ?_⟩⟩
  · have hrule := coefWriteRule_read (coefWriteOf_bytes i hk) s
    rw [← hp] at hrule
    split_ifs at hrule ⊢ <;> exact State.serve_plain hr hrule
  · exact State.serve_taken hr hm (hp ▸ coefReadOf_bytes i) rfl
  · exact State.serve_plain hr (takeAlways_none (hp ▸ coefWriteOf_unnamed rest h))
  · exact State.serve_refused hr (hp ▸ coefReadOf_unnamed rest h)

end Sys2Proof.Machine
end

section
/-! SUPPORT. RESTART: its refusals, what it clears and keeps, and its answer; O14 (R28, R166, R186). -/
namespace Sys2Proof.Machine

/-! ### A command that BOOT refuses (R180) -/

theorem takeOutsideBoot_boot {α : Type} {s : State} {operands : Option α} {rule : α → Reply} {a : α}
    (hm : s.control.mode = .boot) (h : operands = some a) : takeOutsideBoot s operands rule = Reply.plain s .wrongMode [0] := by
  simp [takeOutsideBoot, takeAlways, h, hm, Reply.wrongMode]

/-! ### What RESTART leaves (R186) -/

/-- The Trunk Interface after a RESTART: all queues, buffers and marks cleared, DRIVE OFF entered where the drive was on. -/
theorem Trunk.restart_driveOff (t : Trunk) (k : CheckEngine) : t.restart k.driveOff = { t with
    out := [], through := [], turn := .passThrough
    hub := (match k.drive with
      | some slot => [requestCell 4 true 71 0 [BitVec.ofNat 8 slot.val]]
      | none => [])
    retThrough := [], lastFault := none, discard := false, parser := .hunting } := by
  unfold CheckEngine.driveOff
  cases k.drive <;> rfl

theorem State.restart_coef (s : State) (i : Fin 6) : s.restart.coefs[i] = { s.coefs[i] with waiting := none } := by
  simp [State.restart, CoefSection.discard]

theorem State.restart_channel (s : State) (c : Chan) :
    s.restart.channels[c] = { Channel.reset with holdValue := s.channels[c].holdValue } := by
  simp [State.restart, Channel.restart]

theorem State.restart_group (s : State) (g : Grp) : s.restart.groups[g] = Group.reset := by simp [State.restart]

/-- Settles O14: the refusals in order, and the part a RESTART leaves, field by field. -/
theorem restartClearsAndKeeps : Obligations.RestartClearsAndKeeps := by
  intro r s hr hp
  have hread : noPayload r.payload = some () := ofLength_eq_some.mpr (by rw [hp]; rfl)
  refine ⟨fun hm => congrArg Host.Outcome.next ?_, fun hm hl => congrArg Host.Outcome.next ?_, fun hm hl => ⟨s.restart, ?_⟩⟩
  · exact State.serve_plain hr (takeOutsideBoot_boot hm hread)
  · exact State.serve_taken hr hm hread (if_pos hl)
  · refine ⟨congrArg Host.Outcome.next (State.serve_taken hr hm hread (if_neg (by omega))), rfl, rfl, rfl, rfl, rfl, rfl,
      s.restart_coef, fun c => ?_, s.restart_group, rfl, rfl, rfl, rfl, rfl, rfl, rfl, rfl, Trunk.restart_driveOff _ _⟩
    rw [State.restart_channel]
    exact ⟨rfl, rfl, rfl, rfl, rfl, rfl, rfl, rfl, rfl, rfl⟩

end Sys2Proof.Machine
end

section
/-! SUPPORT. Frame periods without a good frame: the runs below the lengths that declare, what is sent, and the boundary that
comes first; O32 (R21, R62, R63, R65, R66, R160). -/
namespace Sys2Proof.Machine

/-! ### A missed period (R65, R66, R160) -/

/-- Below the 192nd in LOCKED, a missed period declares nothing, and moves the runs alone. -/
theorem State.countRuns_missed {s : State} (h : s.time.link = .locked → s.time.missingRun < 191) :
    s.countRuns false = { s with time := s.time.countPeriod false } := by
  have hl : s.time.loses false = false := by
    cases hlink : s.time.link with
    | locked => simpa [TimeBase.loses, hlink] using h hlink
    | holdOver => simp [TimeBase.loses, hlink]
  simp [State.countRuns, hl, TimeBase.regains]

theorem exec_framePeriod (s : State) : exec .framePeriod s = .next (s.advance.countRuns false).carryNone := rfl

theorem exec_sampleFrame_bad {f : Frame} (hf : goodFrame f = false) (s : State) :
    exec (.sampleFrame f) s = .next ((s.advance.countRuns false).carryBad f) := by
  change execSampleFrame f s = _
  simp [execSampleFrame, hf]

/-- The part's own idle frame is a good frame of no slots (R159, R160). -/
theorem goodFrame_idleFrame : goodFrame idleFrame = true := by simp [goodFrame, idleFrame]

theorem State.carryNone_locked {s : State} (h : s.time.link = .locked) :
    s.carryNone = { s with trunk := { s.trunk with frameOut := none } } := by
  simp [State.carryNone, h]

theorem State.carryNone_holdOver {s : State} (h : s.time.link = .holdOver) :
    s.carryNone = { s with trunk := { s.trunk with frameOut := some idleFrame } } := by
  simp [State.carryNone, h]

/-- A missed period in LOCKED, below the 192nd: with no frame nothing is sent, and a bad frame unmodified. -/
theorem State.missed_locked {u : State} (h : u.time.link = .locked) (hr : u.time.missingRun < 191) :
    let missed : State := { u with time := { u.time with missingRun := u.time.missingRun + 1 } }
    (u.countRuns false).carryNone = { missed with trunk := { u.trunk with frameOut := none } }
      ∧ ∀ f, (u.countRuns false).carryBad f = { missed with trunk := { u.trunk with frameOut := some f } } := by
  have hcount : u.countRuns false = { u with time := { u.time with missingRun := u.time.missingRun + 1 } } := by
    rw [State.countRuns_missed fun _ => hr, TimeBase.countPeriod_missed_locked h (by omega)]
  rw [hcount]
  exact ⟨State.carryNone_locked h, fun _ => rfl⟩

/-- A missed period in HOLD-OVER: with no frame the idle frame is sent, and a bad frame unmodified. -/
theorem State.missed_holdOver {u : State} (h : u.time.link = .holdOver) :
    let missed : State := { u with time := { u.time with
      goodRun := 0, holdLength := min 4294967295 (u.time.holdLength + 1) } }
    (u.countRuns false).carryNone = { missed with trunk := { u.trunk with frameOut := some idleFrame } }
      ∧ ∀ f, (u.countRuns false).carryBad f = { missed with trunk := { u.trunk with frameOut := some f } } := by
  have hcount : u.countRuns false = { u with time := { u.time with
      goodRun := 0, holdLength := min 4294967295 (u.time.holdLength + 1) } } := by
    rw [State.countRuns_missed fun hl => absurd (h.symm.trans hl) nofun, TimeBase.countPeriod_missed_holdOver h]
  rw [hcount]
  exact ⟨State.carryNone_holdOver h, fun _ => rfl⟩

/-- Settles O32: the frame index advances, or the boundary of index 5,999 comes first; then the period is a missed one. -/
theorem missingFramesCountTheRun : Obligations.MissingFramesCountTheRun := by
  intro s
  refine ⟨?_, fun hlast ht hrun => ?_⟩
  · intro hin after
    have hadv := State.advance_inside hin
    constructor
    · intro hlink hrun missed
      obtain ⟨hnone, hbad⟩ := State.missed_locked (u := s.advance) (by rw [hadv]; exact hlink) (by rw [hadv]; exact hrun)
      refine ⟨?_, fun f hf => ?_⟩
      · rw [exec_framePeriod, hnone, hadv]
      · rw [exec_sampleFrame_bad hf, hbad, hadv]
    · intro hlink missed
      obtain ⟨hnone, hbad⟩ := State.missed_holdOver (u := s.advance) (by rw [hadv]; exact hlink)
      refine ⟨⟨idleFrame, goodFrame_idleFrame, rfl, rfl, ?_⟩, fun f hf => ?_⟩
      · rw [exec_framePeriod, hnone, hadv]
      · rw [exec_sampleFrame_bad hf, hbad, hadv]
  · obtain ⟨hopens, -⟩ := State.advance_opens hlast ht
    refine ⟨s.advance, (State.advance_boundary hlast ht).1, hopens.frameIndex, ?_⟩
    cases hlink : s.time.link with
    | locked =>
      obtain ⟨hnone, hbad⟩ := State.missed_locked (u := s.advance) (hopens.link.trans hlink)
        (by rw [hopens.missingRun]; exact hrun)
      rw [hopens.missingRun] at hnone hbad
      exact ⟨⟨none, by rw [exec_framePeriod, hnone], by simp⟩, fun f hf => by rw [exec_sampleFrame_bad hf, hbad]⟩
    | holdOver =>
      obtain ⟨hnone, hbad⟩ := State.missed_holdOver (u := s.advance) (hopens.link.trans hlink)
      rw [hopens.holdLength] at hnone hbad
      exact ⟨⟨some idleFrame, by rw [exec_framePeriod, hnone], by simp⟩, fun f hf => by rw [exec_sampleFrame_bad hf, hbad]⟩

end Sys2Proof.Machine
end

section
/-! SUPPORT. The records of a boot image: how they follow one another, and what each writes; O5 (R27, R189; log 15). -/
namespace Sys2Proof.Machine

/-! ### Records in turn (R189) -/

section Turn
variable {fuel i : Nat} {t : BootTables} {code len : Byte} {rest : List Byte}

/-- A record that would run past the end of the body is refused. -/
theorem takeRecords_overrun (h : rest.length < len.toNat) : takeRecords (fuel + 1) (code :: len :: rest) i t = .error i := by
  simp [takeRecords, h]

/-- A record whose write is refused is refused. -/
theorem takeRecords_refused (h : t.record code (rest.take len.toNat) = none) :
    takeRecords (fuel + 1) (code :: len :: rest) i t = .error i := by
  simp [takeRecords, h]

/-- A record taken leaves the tables it writes, and the records after it. -/
theorem takeRecords_taken {w : BootTables} (hl : len.toNat ≤ rest.length) (h : t.record code (rest.take len.toNat) = some w) :
    takeRecords (fuel + 1) (code :: len :: rest) i t = takeRecords fuel (rest.drop len.toNat) (i + 1) w := by
  simp [takeRecords, h, Nat.not_lt_of_le hl]

end Turn

/-! ### What a record writes (R189) -/

/-- A code names the command whose code it is (R174). -/
theorem commandOf_eq_some {code : Byte} {k : Command} (h : commandOf code = some k) : code = commandCode k := by
  have := List.find?_some h
  exact (beq_iff_eq.mp this).symm

section Record
variable (t : BootTables) (p : List Byte)

/-- A record of another command than the five writes is refused. -/
theorem BootTables.record_unnamed {code : Byte} (h : code.toNat ∉ [10, 11, 13, 20, 21]) : t.record code p = none := by
  unfold BootTables.record
  split
  case h_6 => rfl
  all_goals
    rename_i hk
    rw [commandOf_eq_some hk] at h
    exact absurd (by decide) h

/-- MAP CHANNEL writes bank A, and nothing else (R189). -/
theorem BootTables.record_mapChannel {c : Chan} {e : ChannelEntry} (h : mapChannelWriteOf p = some (.a, c, e)) :
    t.record 10 p = some { t with bankA := t.bankA.setChannel c e } := by
  change (match mapChannelWriteOf p with | some (.a, c, e) => _ | _ => none) = _
  rw [h]

theorem BootTables.record_mapChannel_refused (h : ∀ c e, mapChannelWriteOf p ≠ some (.a, c, e)) : t.record 10 p = none := by
  change (match mapChannelWriteOf p with | some (.a, c, e) => _ | _ => none) = _
  split
  · rename_i c e hw
    exact absurd hw (h c e)
  · rfl

/-- MAP GROUP writes bank A, and nothing else (R189). -/
theorem BootTables.record_mapGroup {g : Grp} {e : GroupEntry} (h : mapGroupWriteOf p = some (.a, g, e)) :
    t.record 11 p = some { t with bankA := t.bankA.setGroup g e } := by
  change (match mapGroupWriteOf p with | some (.a, g, e) => _ | _ => none) = _
  rw [h]

theorem BootTables.record_mapGroup_refused (h : ∀ g e, mapGroupWriteOf p ≠ some (.a, g, e)) : t.record 11 p = none := by
  change (match mapGroupWriteOf p with | some (.a, g, e) => _ | _ => none) = _
  split
  · rename_i g e hw
    exact absurd hw (h g e)
  · rfl

/-- COEF SECTION writes a waiting set, PERIOD ENTRY and GROUP LIMIT the staged schedule (R189). -/
theorem BootTables.record_coefSection : t.record 13 p = (coefWriteOf p).map fun a =>
    { t with coefs := t.coefs.set a.1 { t.coefs[a.1] with waiting := some a.2 } } := rfl

theorem BootTables.record_periodEntry : t.record 20 p = (periodWriteOf p).map fun a =>
    { t with schedules := t.schedules.writePeriod a.1 a.2 } := rfl

theorem BootTables.record_groupLimit : t.record 21 p = (limitWriteOf p).map fun a =>
    { t with schedules := t.schedules.writeLimit a.1 a.2.1 a.2.2 } := rfl

end Record

/-! ### A legal limit record as a payload (R93, R95, R175) -/

/-- The payload of a GROUP LIMIT of action write that spells a record. -/
def LimitRecord.payload (x : LimitRecord) (i : Per) (g : Grp) : LimitPayload where
  schedule := 0
  entry := BitVec.ofNat 8 i.val
  group := BitVec.ofNat 8 g.val
  action := 0
  mask := BitVec.ofNat 8 (x.alert.isSome.toNat + 2 * x.lmax.isSome.toNat + 4 * x.peak.isSome.toNat)
  leq := x.leq
  alert := x.alert.getD 65535
  lmax := x.lmax.getD 65535
  peak := x.peak.getD 65535
  penalty := x.penalty
  threshold := BitVec.ofNat 8 x.threshold

/-- Three flags as one byte, the first in its lowest bit (R174). -/
theorem flagBytes_three (a b c : Bool) :
    flagBytes 1 [a, b, c] = [BitVec.ofNat 8 (a.toNat + 2 * b.toNat + 4 * c.toNat)] := by
  revert a b c
  decide

theorem getLsbD_three_flags (a b c : Bool) :
    (BitVec.ofNat 8 (a.toNat + 2 * b.toNat + 4 * c.toNat)).getLsbD 0 = a
      ∧ (BitVec.ofNat 8 (a.toNat + 2 * b.toNat + 4 * c.toNat)).getLsbD 1 = b
      ∧ (BitVec.ofNat 8 (a.toNat + 2 * b.toNat + 4 * c.toNat)).getLsbD 2 = c := by
  revert a b c
  decide

theorem LimitRecord.payload_bytes (x : LimitRecord) (i : Per) (g : Grp) :
    (x.payload i g).bytes = [0, BitVec.ofNat 8 i.val, BitVec.ofNat 8 g.val] ++ limitBytes x := by
  have hmask : flagBytes 1 [x.alert.isSome, x.lmax.isSome, x.peak.isSome] = [(x.payload i g).mask] :=
    flagBytes_three ..
  simp only [limitBytes, hmask, LimitPayload.bytes, beBytes_one]
  rfl

/-- The mask of the payload has a bit for each level that the record has. -/
theorem LimitRecord.payload_mask (x : LimitRecord) (i : Per) (g : Grp) : (x.payload i g).mask.getLsbD 0 = x.alert.isSome
    ∧ (x.payload i g).mask.getLsbD 1 = x.lmax.isSome ∧ (x.payload i g).mask.getLsbD 2 = x.peak.isSome :=
  getLsbD_three_flags ..

section Legal
variable {x : LimitRecord} (h : x.legal) (i : Per) (g : Grp)
include h

theorem LimitRecord.legal.fits : (x.payload i g).fits := by
  obtain ⟨hl, ha, hm, hp, hn, -⟩ := h
  have level : ∀ o : Option Level, (∀ l ∈ o, legalLevel l) → o.getD 65535 < 65536 := by
    rintro (_ | l) ho
    · decide
    · exact lt_of_le_of_lt (ho l rfl) (by decide)
  exact ⟨lt_of_le_of_lt hl (by decide), level _ ha, level _ hm, level _ hp, lt_of_le_of_lt hn (by decide)⟩

theorem LimitRecord.legal.low : ¬(x.payload i g).tooHigh := by
  obtain ⟨hl, ha, hm, hp, -⟩ := h
  obtain ⟨m0, m1, m2⟩ := x.payload_mask i g
  have level : ∀ o : Option Level, (∀ l ∈ o, legalLevel l) → ¬(o.isSome = true ∧ 19999 < o.getD 65535) := by
    rintro (_ | l) ho ⟨hs, hlt⟩
    · cases hs
    · exact absurd (ho l rfl) (Nat.not_le_of_lt hlt)
  unfold LimitPayload.tooHigh
  rw [m0, m1, m2]
  rintro (h' | h' | h' | h')
  · exact absurd hl (Nat.not_le_of_lt h')
  · exact level _ ha h'
  · exact level _ hm h'
  · exact level _ hp h'

/-- A legal record is its own clamped form. -/
theorem LimitRecord.legal.record : (x.payload i g).record = x := by
  obtain ⟨-, -, -, -, hn, h1, h255⟩ := h
  obtain ⟨m0, m1, m2⟩ := x.payload_mask i g
  have level : ∀ o : Option Level, (if o.isSome then some (o.getD 65535) else none) = o := by
    rintro (_ | l) <;> rfl
  unfold LimitPayload.record
  rw [m0, m1, m2]
  have hthreshold : clamp 1 255 (x.payload i g).threshold.toNat = x.threshold := by
    have : (x.payload i g).threshold.toNat = x.threshold := Nat.mod_eq_of_lt (lt_of_le_of_lt h255 (by decide))
    rw [this, clamp_of_mem h1 h255]
  rw [hthreshold]
  simp only [LimitRecord.payload, level, clamp_of_mem (Nat.zero_le _) hn]

/-- A GROUP LIMIT write that spells a legal record is read as it was spelt (R93, R95). -/
theorem limitWriteOf_limitBytes :
    limitWriteOf ([0, BitVec.ofNat 8 i.val, BitVec.ofNat 8 g.val] ++ limitBytes x) = some (i, g, some x) := by
  have hi : (x.payload i g).entry.toNat = i.val := Nat.mod_eq_of_lt (lt_of_lt_of_le i.isLt (by decide))
  have hg : (x.payload i g).group.toNat = g.val := Nat.mod_eq_of_lt (lt_of_lt_of_le g.isLt (by decide))
  rw [← x.payload_bytes, limitWriteOf_write (h.fits i g) rfl hi hg rfl (h.low i g), h.record]

end Legal

/-- Action remove is read whatever its record's fields hold (R95; log 15). -/
theorem limitWriteOf_ignored (i : Per) (g : Grp) {ignored : List Byte} (h : ignored.length = 12) :
    limitWriteOf ([0, BitVec.ofNat 8 i.val, BitVec.ofNat 8 g.val, 1] ++ ignored) = some (i, g, none) := by
  have hi := i.isLt
  have hg := g.isLt
  simp [limitWriteOf, ofLength, h, scheduleNameOf, Nat.mod_eq_of_lt (show i.val < 256 by omega),
    Nat.mod_eq_of_lt (show g.val < 256 by omega)]

/-- A GROUP LIMIT of another schedule than the staged one is not read (R95). -/
theorem limitWriteOf_unstaged {b : Byte} (rest : List Byte) (h : b ≠ 0) : limitWriteOf (b :: rest) = none := by
  refine Option.eq_none_iff_forall_ne_some.mpr fun a ha => ?_
  simp only [limitWriteOf, Option.bind_eq_bind, Option.bind_eq_some_iff, field_cons_zero] at ha
  obtain ⟨-, -, name, hname, i, -, g, -, ha⟩ := ha
  split at ha
  · rename_i hstaged
    exact h (BitVec.eq_of_toNat_eq ((scheduleNameOf_staged _).mp (hstaged ▸ hname)))
  · cases ha

/-! ### O5 -/

/-- A record that names another map or schedule than bank A or the staged one is refused (R189). -/
theorem BootTables.record_misnamed (t : BootTables) {code b : Byte} (rest : List Byte) (hc : code ≠ 13) (hb : b ≠ 0) :
    t.record code (b :: rest) = none := by
  by_cases h : code.toNat ∈ [10, 11, 13, 20, 21]
  swap
  · exact t.record_unnamed _ h
  have named {n : Nat} (hn : n < 256) (h : code.toNat = n) : code = BitVec.ofNat 8 n :=
    BitVec.eq_of_toNat_eq (by simp [h, Nat.mod_eq_of_lt hn])
  simp only [List.mem_cons, List.not_mem_nil, or_false] at h
  rcases h with h | h | h | h | h
  · rw [named (by decide) h]
    refine t.record_mapChannel_refused _ fun c e hw => hb ?_
    obtain ⟨_, -, hp, -⟩ := mapChannelWriteOf_eq_some hw
    exact (List.cons.inj hp).1
  · rw [named (by decide) h]
    refine t.record_mapGroup_refused _ fun g e hw => hb ?_
    obtain ⟨_, -, hp, -⟩ := mapGroupWriteOf_eq_some hw
    exact (List.cons.inj hp).1
  · exact absurd (named (by decide) h) hc
  · rw [named (by decide) h]
    refine Option.map_eq_none_iff.mpr (Option.eq_none_iff_forall_ne_some.mpr ?_)
    rintro ⟨i, e⟩ hw
    exact hb (List.cons.inj (periodWriteOf_eq_some hw).2).1
  · rw [named (by decide) h]
    exact Option.map_eq_none_iff.mpr (limitWriteOf_unstaged rest hb)

/-- A record of another length than its command's write payload is refused (R189). -/
theorem BootTables.record_mislong (t : BootTables) {code : Byte} {p : List Byte} (h : code = 10 ∧ p.length ≠ 24
    ∨ code = 11 ∧ p.length ≠ 12 ∨ code = 13 ∧ p.length ≠ 22 ∨ code = 20 ∧ p.length ≠ 9 ∨ code = 21 ∧ p.length ≠ 16) :
    t.record code p = none := by
  have mislong {n : Nat} (h : p.length ≠ n) : ofLength p n = none := if_neg h
  rcases h with ⟨rfl, h⟩ | ⟨rfl, h⟩ | ⟨rfl, h⟩ | ⟨rfl, h⟩ | ⟨rfl, h⟩
  · exact t.record_mapChannel_refused _ fun c e => by rw [mapChannelWriteOf, mislong h]; nofun
  · exact t.record_mapGroup_refused _ fun g e => by rw [mapGroupWriteOf, mislong h]; nofun
  · rw [BootTables.record_coefSection, coefWriteOf, mislong h]; rfl
  · rw [BootTables.record_periodEntry, periodWriteOf, mislong h]; rfl
  · rw [BootTables.record_groupLimit, limitWriteOf, mislong h]; rfl

/-- Settles O5: how records follow one another, and what a record writes or is refused for. -/
theorem bootRecordsAreTakenInTurn : Obligations.BootRecordsAreTakenInTurn := by
  refine ⟨fun fuel i t => ⟨rfl, fun code => rfl, fun code len rest => ⟨takeRecords_overrun, fun h => ?_, ?_⟩⟩, fun t =>
    ⟨fun c e he => ?_, fun g e he => ?_, fun i k hk => ?_, fun i e he => ?_, fun i g x hx => ?_, fun i g ignored hl => ?_,
      fun code b rest hc hb => t.record_misnamed rest hc hb, fun code p h => t.record_mislong h⟩⟩
  · exact takeRecords_refused (t.record_unnamed _ h)
  · rintro p after rfl hp
    have htake : (p ++ after).take len.toNat = p := by rw [← hp, List.take_left]
    have hdrop : (p ++ after).drop len.toNat = after := by rw [← hp, List.drop_left]
    refine ⟨fun h => takeRecords_refused (htake.symm ▸ h), fun w h => ?_⟩
    rw [takeRecords_taken (by simp [hp]) (htake.symm ▸ h), hdrop]
  · obtain ⟨hs, hc⟩ := he.clamped
    have hw := mapChannelWriteOf_bytes .a c hs
    rw [hc] at hw
    exact t.record_mapChannel _ hw
  · obtain ⟨hs, hc⟩ := he.clamped
    have hw := mapGroupWriteOf_bytes .a g hs
    rw [hc] at hw
    exact t.record_mapGroup _ hw
  · rw [BootTables.record_coefSection, coefWriteOf_bytes i hk]; rfl
  · rw [BootTables.record_periodEntry, periodWriteOf_bytes i he]; rfl
  · rw [BootTables.record_groupLimit, limitWriteOf_limitBytes hx]; rfl
  · rw [BootTables.record_groupLimit, limitWriteOf_ignored i g hl]; rfl

end Sys2Proof.Machine
end

section
/-! SUPPORT. The end of the boot image load: the transactions of the memory port, the judgment step by step, and what a
discarded and an accepted image leave; O4 (R188, R190; log 4, 20, 53). -/
namespace Sys2Proof.Machine

/-! ### The memory port (R188) -/

/-- A transaction by the transfer whose acknowledgement it misses first, if any (R188; log 20). -/
theorem portTransaction_eq (a : PortAcks) (address n : Nat) : portTransaction a address n =
    if a.deviceWrite = false then [.start, .send 0xA0, .stop]
    else if a.addressHigh = false then [.start, .send 0xA0, .send (BitVec.ofNat 8 (address / 256)), .stop]
    else if a.addressLow = false then
      [.start, .send 0xA0, .send (BitVec.ofNat 8 (address / 256)), .send (BitVec.ofNat 8 (address % 256)), .stop]
    else if a.deviceRead = false then
      [.start, .send 0xA0, .send (BitVec.ofNat 8 (address / 256)), .send (BitVec.ofNat 8 (address % 256)),
        .repeatedStart, .send 0xA1, .stop]
    else [.start, .send 0xA0, .send (BitVec.ofNat 8 (address / 256)), .send (BitVec.ofNat 8 (address % 256)),
      .repeatedStart, .send 0xA1, .receive n, .stop] := by
  have hlow : BitVec.ofNat 8 (address % 256) = BitVec.ofNat 8 address := BitVec.eq_of_toNat_eq (by simp)
  obtain ⟨w, h, l, r⟩ := a
  rw [hlow]
  cases w
  · rfl
  cases h
  · rfl
  cases l
  · rfl
  cases r <;> rfl

/-! ### The judgment (R188) -/

section Judgment
variable {m : MemoryRead} {t : BootTables}

/-- Steps 1 to 3 are passed: the memory answered, and the body fits and has the header's CRC (R188). -/
structure SoundImage (m : MemoryRead) : Prop where
  header : acknowledged m.header = true
  length : imageLength m ≤ 8186
  body : acknowledged m.body = true
  check : (crc16 (imageBody m)).toNat = imageCheck m

theorem judgeImage_headerLost (h : acknowledged m.header = false) : judgeImage m t = .error .noResponse := by
  simp [judgeImage, h]

theorem judgeImage_tooLong (hh : acknowledged m.header = true) (h : 8186 < imageLength m) :
    judgeImage m t = .error .length := by
  simp [judgeImage, hh, h]

theorem judgeImage_bodyLost (hh : acknowledged m.header = true) (hl : imageLength m ≤ 8186)
    (h : acknowledged m.body = false) : judgeImage m t = .error .noResponse := by
  simp [judgeImage, hh, h, Nat.not_lt_of_le hl]

theorem judgeImage_badCheck (hh : acknowledged m.header = true) (hl : imageLength m ≤ 8186)
    (hb : acknowledged m.body = true) (h : (crc16 (imageBody m)).toNat ≠ imageCheck m) :
    judgeImage m t = .error .check := by
  simp [judgeImage, hh, hb, h, Nat.not_lt_of_le hl]


section Records
variable {w : BootTables} {n : Nat} (h : SoundImage m)
include h

theorem SoundImage.judge_refused {i : Nat} (hr : takeRecords (imageLength m + 1) (imageBody m) 0 t = .error i) :
    judgeImage m t = .error (.record i) := by
  simp [judgeImage, h.header, Nat.not_lt_of_le h.length, h.body, h.check, hr]

variable (hr : takeRecords (imageLength m + 1) (imageBody m) 0 t = .ok (w, n))
include hr

theorem SoundImage.judge_miscounted (hn : n ≠ imageCount m) :
    judgeImage m t = .error (.record (min n (imageCount m))) := by
  simp [judgeImage, h.header, Nat.not_lt_of_le h.length, h.body, h.check, hr, hn]

variable (hn : n = imageCount m)
include hn

theorem SoundImage.judge_badMap {f : TableFault} (hf : tableFault w.bankA = some f) :
    judgeImage m t = .error (.invalid f) := by
  simp [judgeImage, h.header, Nat.not_lt_of_le h.length, h.body, h.check, hr, hn, validateMap_eq_some hf]

variable (hm : tableFault w.bankA = none)
include hm

theorem SoundImage.judge_overlap {f : TableFault} (hf : firstOverlap w.schedules.staged = some f) :
    judgeImage m t = .error (.invalid f) := by
  simp [judgeImage, h.header, Nat.not_lt_of_le h.length, h.body, h.check, hr, hn,
    validateMap_of_tableFault_eq_none hm, hf]

theorem SoundImage.judge_ok (hf : firstOverlap w.schedules.staged = none) : judgeImage m t = .ok w := by
  simp [judgeImage, h.header, Nat.not_lt_of_le h.length, h.body, h.check, hr, hn,
    validateMap_of_tableFault_eq_none hm, hf]

end Records

end Judgment

/-! ### The end of the load (R190) -/

/-- A waiting set placed, by whether there is one (R25). -/
theorem CoefSection.place_eq (c : CoefSection) : c.place = (match c.waiting with
    | none => c
    | some k => { inForce := k, waiting := none, written := true }) := by
  rw [CoefSection.place]
  cases c.waiting <;> rfl

section EndLoad
variable {m : MemoryRead} {s : State} (hm : s.control.mode = .boot)

theorem exec_bootLoadEnd_outside (h : s.control.mode ≠ .boot) : exec (.bootLoadEnd m) s = .next s := if_neg h

include hm

theorem exec_bootLoadEnd_discarded {why : BootOutcome}
    (h : judgeImage m { bankA := s.router.bankA, schedules := s.schedules, coefs := s.coefs } = .error why) :
    exec (.bootLoadEnd m) s
      = .next (State.discardImage { s with control := { s.control with portLog := portActs m } } why) := by
  change execBootLoadEnd m s = _
  rw [execBootLoadEnd, if_pos hm, State.endLoad, h]

theorem exec_bootLoadEnd_accepted {w : BootTables}
    (h : judgeImage m { bankA := s.router.bankA, schedules := s.schedules, coefs := s.coefs } = .ok w) {t : State}
    (ht : t = State.acceptImage { s with control := { s.control with portLog := portActs m } } w (imageAutoRun m)) :
    exec (.bootLoadEnd m) s = .next (if imageAutoRun m = true ∧ s.time.clockSet = true then t.enterRun else t) := by
  subst ht
  change execBootLoadEnd m s = _
  rw [execBootLoadEnd, if_pos hm, State.endLoad, h]
  simp only [Bool.and_eq_true]

end EndLoad

/-! ### O4 -/

/-- Settles O4: the steps of R188 in order, each with its outcome. -/
theorem bootLoadFollowsItsSteps : Obligations.BootLoadFollowsItsSteps := by
  refine fun m s => ⟨exec_bootLoadEnd_outside, fun hm => ?_⟩
  intro transaction port discarded records
  have htransaction (a : PortAcks) (address n : Nat) : transaction a address n = portTransaction a address n :=
    (portTransaction_eq a address n).symm
  have hport : port = portActs m := by
    simp only [port, portActs, htransaction, Bool.and_eq_true, decide_eq_true_eq]
  have discard {why : BootOutcome}
      (h : judgeImage m { bankA := s.router.bankA, schedules := s.schedules, coefs := s.coefs } = .error why) :
      discarded why := by
    refine ⟨_, exec_bootLoadEnd_discarded hm h, ?_⟩
    rw [hport]
    rfl
  refine ⟨fun h => discard (judgeImage_headerLost h), fun hh h => discard (judgeImage_tooLong hh h),
    fun hh hl h => discard (judgeImage_bodyLost hh hl h), fun hh hl hb h => discard (judgeImage_badCheck hh hl hb h),
    fun hh hl hb hc => ?_⟩
  have sound : SoundImage m := ⟨hh, hl, hb, hc⟩
  refine ⟨fun i hr => discard (sound.judge_refused hr), fun w n hr =>
    ⟨fun hn => discard (sound.judge_miscounted hr hn), fun hn =>
      ⟨fun f hf => discard (sound.judge_badMap hr hn hf), fun ht f hf => discard (sound.judge_overlap hr hn ht hf),
        fun ht hf => ?_⟩⟩⟩
  have hx := exec_bootLoadEnd_accepted hm (sound.judge_ok hr hn ht hf) rfl
  have hcoefs (i : Fin 6) : (w.coefs.map CoefSection.place)[i] = (match w.coefs[i].waiting with
      | none => w.coefs[i]
      | some k => { inForce := k, waiting := none, written := true }) := by
    rw [Fin.getElem_fin, Vector.getElem_map]
    exact CoefSection.place_eq _
  rw [hport]
  by_cases hrun : imageAutoRun m = true ∧ s.time.clockSet = true
  · rw [if_pos hrun] at hx
    exact ⟨_, hx, rfl, rfl, rfl, rfl, rfl, hcoefs, (if_pos hrun).symm, by simp [hrun.1, hrun.2], rfl, rfl, rfl⟩
  · rw [if_neg hrun] at hx
    refine ⟨_, hx, rfl, rfl, rfl, rfl, rfl, hcoefs, (if_neg hrun).symm, ?_, rfl, rfl, rfl⟩
    change imageAutoRun m = _
    cases hauto : imageAutoRun m
    · rfl
    · rw [Bool.eq_false_iff.mpr fun hset => hrun ⟨hauto, hset⟩]; rfl

end Sys2Proof.Machine
end

section
/-! SUPPORT. What a boundary inside a second, and one that ends it, leaves of the coefficients, the groups and the slices; O35
(R25, R29, R32 to R38, R44, R63, R76 to R79, R111, R112). -/
namespace Sys2Proof.Machine

/-! ### A boundary inside a second or at its end -/

section
variable (s : State)

theorem State.autoRunStarts_false : s.autoRunStarts false = false := by simp [State.autoRunStarts]

/-- Inside a second a boundary takes no second boundary, and spends the mark of a RESTART. -/
theorem State.boundary_false_control : (s.boundary false).control = { s.control with restarted := false } := by
  rw [State.boundary_control, s.autoRunStarts_false]
  rfl

/-- Inside a second time goes to the next slice, and maps, schedules and exclusions stand. -/
theorem State.boundary_false_frame : (s.boundary false).time = s.time.sliceBoundary
    ∧ (s.boundary false).router = s.router ∧ (s.boundary false).schedules = s.schedules
    ∧ (s.boundary false).exclusions = s.exclusions := by
  rw [State.boundary_time, State.boundary_router, State.boundary_schedules, State.boundary_exclusions,
    s.autoRunStarts_false]
  exact ⟨rfl, rfl, rfl, rfl⟩

/-- Two states that agree in what a boundary makes of a part, short of its marks of control. -/
structure State.AgreesWith (t u : State) : Prop where
  time : t.time = u.time
  router : t.router = u.router
  coefs : t.coefs = u.coefs
  channels : t.channels = u.channels
  groups : t.groups = u.groups
  schedules : t.schedules = u.schedules
  exclusions : t.exclusions = u.exclusions
  check : t.check = u.check
  events : t.events = u.events

theorem State.agreesWith_control (u : State) (k : Control) : State.AgreesWith { u with control := k } u :=
  ⟨rfl, rfl, rfl, rfl, rfl, rfl, rfl, rfl, rfl⟩

/-- A boundary command leaves the boundary's state, and inside a second the marks of one that is no second boundary. -/
theorem exec_boundary_agrees {s : State} {b : Bool}
    (h : if b then s.control.secondTaken = false else s.time.sliceIndex < 7) :
    ∃ t, exec (if b then .secondBoundary else .sliceBoundary) s = .next t ∧ t.AgreesWith (s.boundary b)
      ∧ (b = false → t.control = { s.control with restarted := false, secondTaken := false }) := by
  cases b with
  | true => exact ⟨_, exec_secondBoundary h, (s.boundary true).agreesWith_control (s.boundary true).control, nofun⟩
  | false =>
    have h7 : decide (7 ≤ s.time.sliceIndex) = false := decide_eq_false (Nat.not_le.mpr h)
    refine ⟨_, ?_, (s.boundary false).agreesWith_control { (s.boundary false).control with secondTaken := false },
      fun _ => ?_⟩
    · change execSliceBoundary s = _
      simp only [execSliceBoundary, h7]
    · rw [s.boundary_false_control]

/-- The time record as a boundary leaves it stands at the position it opens. -/
theorem State.boundary_time_fields (b : Bool) : (s.boundary b).time.link = s.time.link
    ∧ (s.boundary b).time.held = (s.opening b).time.held
    ∧ (s.boundary b).time.runningSecond = (s.opening b).time.runningSecond
    ∧ (s.boundary b).time.sliceIndex = (s.opening b).time.sliceIndex := by
  refine ⟨(s.boundary_opens b).link, ?_, ?_, ?_⟩ <;> (rw [State.boundary_time]; split <;> rfl)

/-! ### Coefficients (R25) -/

theorem State.boundary_coefs (b : Bool) : (s.boundary b).coefs = coefsAtBoundary s.control.lock s.coefs := by
  have hopening : (s.opening b).coefs = coefsAtBoundary s.control.lock s.coefs := by cases b <;> rfl
  rw [← hopening]
  unfold State.boundary
  dsimp only
  split <;> simp [State.turnOver]

/-- A waiting set discarded, by whether there is one (R25). -/
theorem CoefSection.discard_eq (c : CoefSection) : c.discard = (match c.waiting with
    | none => c
    | some _ => { c with waiting := none }) := by
  obtain ⟨inForce, waiting, written⟩ := c
  cases waiting <;> rfl

/-- A waiting set comes into force at lock level 0 and is discarded at 1 and 2. -/
theorem coefsAtBoundary_get (lock : Nat) (coefs : Vector CoefSection 6) (i : Fin 6) : (coefsAtBoundary lock coefs)[i] =
    (match coefs[i].waiting with
      | none => coefs[i]
      | some k => if lock = 0 then { inForce := k, waiting := none, written := true }
          else { coefs[i] with waiting := none }) := by
  have hget : (coefsAtBoundary lock coefs)[i] = if lock = 0 then coefs[i].place else coefs[i].discard := by
    unfold coefsAtBoundary
    split <;> rw [Fin.getElem_fin, Vector.getElem_map] <;> rfl
  rw [hget, CoefSection.place_eq, CoefSection.discard_eq]
  cases coefs[i].waiting
  · exact ite_self _
  · rfl

end

/-! ### The slice in progress (R29) -/

/-- A channel with a slice in progress is not OFF, and that slice is taken in its state. -/
theorem State.slice_state {s : State} {c : Chan} {sl : Slice} (hlaw : s.channelLaw) (h : s.channels[c].slice = some sl) :
    s.channels[c].cond.state ≠ .off ∧ sl.takenIn = s.channels[c].cond.state := by
  obtain ⟨-, hoff, hon⟩ := hlaw c
  have hn : s.channels[c].cond.state ≠ .off := fun ho => by
    have hnone := (hoff ho).1
    rw [h] at hnone
    cases hnone
  have ht := (hon hn).1
  rw [h] at ht
  exact ⟨hn, Option.some.inj ht⟩

/-! ### The group slice (R76 to R78) -/

section
variable (s : State) (g : Grp)

/-- A member awaited by a group, with the slice that closes for it. -/
def State.awaits (c : Chan) (sl : Slice) : Prop :=
  s.groups[g].awaited.getLsbD c.val = true ∧ s.channels[c].slice = some sl

/-- The records a group awaits are those of its awaited members with a slice in progress. -/
theorem State.mem_awaitedRecords {r : SliceRecord × Suspect} : r ∈ s.awaitedRecords s.closedSlices g ↔
    ∃ c sl, s.awaits g c sl ∧ r = (s.recordOf c sl, s.channels[c].cond.suspect) := by
  simp only [State.awaitedRecords, List.mem_filterMap, channelsOf, List.mem_filter, List.mem_finRange, true_and,
    State.closedSlices_get, Option.map_map, Option.map_eq_some_iff, State.awaits, State.recordOf, Function.comp]
  constructor
  · rintro ⟨c, ha, sl, hs, rfl⟩
    exact ⟨c, sl, ⟨ha, hs⟩, rfl⟩
  · rintro ⟨c, sl, ⟨ha, hs⟩, rfl⟩
    exact ⟨c, ha, sl, hs, rfl⟩

/-- The admitted records are those of the awaited members that the admission takes, in channel order. -/
theorem State.groupSlice_admitted : (s.groupSlice s.closedSlices g).2 = (List.finRange 16).filterMap fun c : Chan =>
    if s.groups[g].awaited.getLsbD c.val then
      s.channels[c].slice.bind fun sl => admission (s.recordOf c sl) s.channels[c].cond.suspect
    else none := by
  unfold State.groupSlice State.awaitedRecords channelsOf
  dsimp only
  rw [List.filterMap_filterMap, List.filterMap_filter]
  refine congrArg (List.filterMap · _) (funext fun c => ?_)
  rw [State.closedSlices_get]
  cases s.channels[c].slice <;> rfl

theorem State.groupSlice_eq : (s.groupSlice s.closedSlices g).1 = formGroupSlice s.time.runningSecond s.time.sliceIndex
    (s.groupSlice s.closedSlices g).1.holdOver (s.groupSlice s.closedSlices g).1.discarded
    (s.groupSlice s.closedSlices g).2 := rfl

/-- Where no record is awaited the marks are those of the position handed. -/
theorem State.groupSlice_unawaited (h : ∀ c sl, ¬s.awaits g c sl) :
    (s.groupSlice s.closedSlices g).1.holdOver = s.time.handedHoldOver
      ∧ (s.groupSlice s.closedSlices g).1.discarded = s.time.held := by
  have hnil : s.awaitedRecords s.closedSlices g = [] := List.eq_nil_iff_forall_not_mem.mpr fun r hr => by
    obtain ⟨c, sl, ha, -⟩ := (s.mem_awaitedRecords g).mp hr
    exact h c sl ha
  unfold State.groupSlice
  rw [hnil]
  exact ⟨rfl, rfl⟩

/-- Otherwise they are those that every awaited record carries. -/
theorem State.groupSlice_awaited {holdOver discarded : Bool} (h : ∃ c sl, s.awaits g c sl)
    (hall : ∀ c sl, s.awaits g c sl → sl.holdOver = holdOver ∧ sl.discarded = discarded) :
    (s.groupSlice s.closedSlices g).1.holdOver = holdOver ∧ (s.groupSlice s.closedSlices g).1.discarded = discarded := by
  obtain ⟨c, sl, hc⟩ := h
  have hmem := (s.mem_awaitedRecords g).mpr ⟨c, sl, hc, rfl⟩
  cases hl : s.awaitedRecords s.closedSlices g with
  | nil => rw [hl] at hmem; cases hmem
  | cons r rest =>
    obtain ⟨d, x, hd, hr⟩ := (s.mem_awaitedRecords g).mp (hl ▸ List.mem_cons_self ..)
    unfold State.groupSlice
    rw [hl, hr]
    exact hall d x hd

/-- A record is admitted exactly where it was taken in LIVE and has data. -/
theorem admission_isSome (c : Chan) (sl : Slice) (u : Suspect) : (admission (s.recordOf c sl) u).isSome =
    (decide (sl.takenIn = .live) && (decide (4500 ≤ sl.n) && !sl.holdOver)) := by
  have hdata : (s.recordOf c sl).levels.isSome = (decide (4500 ≤ sl.n) && !sl.holdOver) := s.recordOf_hasData c sl
  unfold admission
  rw [← hdata, show (s.recordOf c sl).takenIn = sl.takenIn from rfl]
  split
  · rename_i h
    rw [Option.isSome_map, decide_eq_true h, Bool.true_and]
  · rename_i h
    rw [decide_eq_false h]
    rfl

/-- The count of a group slice is that of the awaited members in LIVE whose slice has data. -/
theorem State.groupSlice_count (hlaw : s.channelLaw) : (s.groupSlice s.closedSlices g).1.count =
    (List.finRange 16).countP fun d : Chan => s.groups[g].awaited.getLsbD d.val
      && decide (s.channels[d].cond.state = .live)
      && (s.channels[d].slice.any fun sl => decide (4500 ≤ sl.n) && !sl.holdOver) := by
  change (s.groupSlice s.closedSlices g).2.length = _
  rw [State.groupSlice_admitted, List.length_filterMap_eq_countP]
  refine congrArg (List.countP · _) (funext fun d => ?_)
  cases s.groups[g].awaited.getLsbD d.val with
  | false => rfl
  | true =>
    cases hs : s.channels[d].slice with
    | none => simp
    | some sl =>
      simp only [if_true, Option.bind_some, admission_isSome, Bool.true_and, Option.any_some, (State.slice_state hlaw hs).2]

/-- A group that an enabled entry drives takes its group slice, and tests it against the limits of its open window. -/
theorem State.slicedGroup_eq (h : s.router.active.groups[g].enabled = true) : s.slicedGroup g =
    (s.groups[g].takeSlice s.router.active.groups[g] (s.groupSlice s.closedSlices g).1
      (s.groupSlice s.closedSlices g).2).immediate g (decide (s.control.mode = .run))
        (covered s.exclusions g s.time.runningSecond) (s.groupSlice s.closedSlices g).1 := by
  rw [State.slicedGroup, State.groupAfterSlice, if_pos h]

/-- Inside a second a group keeps what its closing slice leaves of it, and awaits the members of the next. -/
theorem State.turnOver_group_inside : (s.turnOver (Config.order s.choices) false).1.groups[g] = { (s.slicedGroup g).1 with
    awaited := awaitedSet s.router.active (s.turnOver (Config.order s.choices) false).1.channels g } := by
  unfold State.slicedGroup
  simp only [State.turnOver, Vector.getElem_ofFn, Fin.getElem_fin, Bool.false_eq_true, if_false]
  rfl

theorem State.boundary_group_inside : (s.boundary false).groups[g] = { (s.slicedGroup g).1 with
    awaited := membersOf s.router.active (fun c => decide ((s.boundary false).channels[c].cond.state ≠ .off)) g } := by
  have hstate : (fun c : Chan => decide ((s.boundary false).channels[c].cond.state ≠ .off)) =
      fun c : Chan => decide ((s.turnOver (Config.order s.choices) false).1.channels[c].cond.state ≠ .off) := funext fun c => by
    rw [State.boundary_channel_state, State.turnOver_channel]
  rw [State.boundary_groups, s.autoRunStarts_false, if_neg Bool.false_ne_true, hstate, State.turnOver_group_inside,
    awaitedSet]

/-- The chains of a boundary hold those of its group slices. -/
theorem State.turnOver_sliceChains (b : Bool) : ∃ (before : Chains) (after : Grp → Chains),
    (s.turnOver (Config.order s.choices) b).2 =
      before ++ (List.finRange 8).flatMap fun g => (s.slicedGroup g).2 ++ after g := by
  have hchains : ∃ (before : Chains) (after : Grp → Chains), (s.turnOver (Config.order s.choices) b).2 =
      before ++ (List.finRange 8).flatMap fun g =>
        (Vector.ofFn fun g => s.groupAfterSlice s.closedSlices g)[g].2 ++ after g := ⟨_, _, rfl⟩
  obtain ⟨before, after, h⟩ := hchains
  refine ⟨before, after, h.trans ?_⟩
  simp only [Fin.getElem_fin, Vector.getElem_ofFn, State.slicedGroup]

/-- What a group slice raises is held in the Event Queue, or the queue is full. -/
theorem State.boundary_raises_sliced (b : Bool) {e : Event} (h : .event e ∈ (s.slicedGroup g).2.flatten) :
    (s.boundary b).raised e := by
  obtain ⟨l, hl, he⟩ := List.mem_flatten.mp h
  obtain ⟨before, after, hchains⟩ := s.turnOver_sliceChains b
  refine s.boundary_raised b (List.mem_flatten.mpr ⟨l, ?_, he⟩)
  rw [hchains]
  exact List.mem_append_right _ (List.mem_flatMap.mpr ⟨g, List.mem_finRange g, List.mem_append_left _ hl⟩)

end

/-! ### The record of a closing slice, and the slice that opens (R29, R32 to R38, R44) -/

section
variable (s : State) (b : Bool) (c : Chan)

/-- Row 1 of R48 is that of a channel that the activation disables. -/
theorem disturbance_disabled_iff (old new : ChannelEntry) (affected : Bool) (state : ChannelState) :
    disturbance old new affected state = some .disabled ↔ old.enabled = true ∧ new.enabled = false := by
  unfold disturbance
  cases old.enabled with
  | false =>
    simp only [Bool.false_and, Bool.not_false, Bool.true_and, Bool.false_eq_true, if_false, false_and, iff_false]
    split_ifs <;> nofun
  | true =>
    cases new.enabled with
    | false => simp
    | true =>
      simp only [Bool.not_true, Bool.and_false, Bool.true_and, Bool.false_eq_true, if_false, reduceCtorEq,
        and_false, iff_false]
      split_ifs <;> nofun

theorem State.rowAt_disabled_iff : s.rowAt b c = .disabled ↔
    s.router.active.channels[c].enabled = true ∧ (s.opening b).router.active.channels[c].enabled = false := by
  rw [← disturbance_disabled_iff _ _ (usesAffected (affectedA s.control.lock s.coefs) (affectedC s.control.lock s.coefs)
    (s.opening b).router.active.channels[c]) s.channels[c].cond.state, ← State.disturbed_eq]
  cases h : s.disturbed (s.opening b) c with
  | none => exact iff_of_false (State.rowAt_undisturbed h).2.2 nofun
  | some r => rw [State.rowAt_disturbed h, Option.some_inj]

/-- The latest record after a boundary: that of the slice that closes, if one does, and none of a channel disabled. -/
theorem State.boundary_latestSlice : (s.boundary b).channels[c].latestSlice =
    if s.rowAt b c = .disabled then none else (s.channels[c].recorded s.closedSlices[c]).latestSlice := by
  rw [State.boundary_channel_frame]
  exact s.turnedChannel_latestSlice b c

/-- Every channel that is not OFF opens an empty slice in its state, with the marks of the position handed. -/
theorem State.boundary_slice : (s.boundary b).channels[c].slice =
    if (s.boundary b).channels[c].cond.state = .off then none
    else some (Slice.opening (s.boundary b).channels[c].cond.state (decide (s.time.link = .holdOver))
      (s.boundary b).time.held) := by
  obtain ⟨-, hheld, -⟩ := s.boundary_time_fields b
  rw [State.boundary_channel_state, hheld, ← (s.opening_opens b).link, State.boundary_channel_frame]
  exact s.turnedChannel_slice b c

variable {s c}

theorem State.boundary_latestSlice_closed {sl : Slice} (h : s.channels[c].slice = some sl)
    (hon : (s.opening b).router.active.channels[c].enabled = true) :
    (s.boundary b).channels[c].latestSlice = some (s.recordOf c sl) := by
  have hrow : s.rowAt b c ≠ .disabled := fun hd => by
    rw [((s.rowAt_disabled_iff b c).mp hd).2] at hon
    cases hon
  rw [State.boundary_latestSlice, if_neg hrow, State.closedSlices_some h]
  rfl

/-- A channel without a slice in progress is OFF, and has no latest record to lose. -/
theorem State.boundary_latestSlice_unsliced (hlaw : s.channelLaw) (h : s.channels[c].slice = none) :
    s.channels[c].latestSlice = none ∧ (s.boundary b).channels[c].latestSlice = none := by
  obtain ⟨-, hoff, hon⟩ := hlaw c
  have hstate : s.channels[c].cond.state = .off := by_contra fun hn => by
    have ht := (hon hn).1
    rw [h] at ht
    cases ht
  have hlatest := (hoff hstate).2.2.1
  refine ⟨hlatest, ?_⟩
  rw [State.boundary_latestSlice, State.closedSlices_get, h]
  split
  · rfl
  · exact hlatest

theorem State.boundary_latestSlice_disabled (hlaw : s.channelLaw)
    (hoff : (s.opening b).router.active.channels[c].enabled = false) :
    (s.boundary b).channels[c].latestSlice = none := by
  cases h : s.channels[c].slice with
  | none => exact (State.boundary_latestSlice_unsliced b hlaw h).2
  | some sl =>
    have hon : s.router.active.channels[c].enabled = true := by_contra fun he =>
      (State.slice_state hlaw h).1 ((hlaw c).1.mpr (.inl (Bool.eq_false_iff.mpr he)))
    rw [State.boundary_latestSlice, if_pos ((s.rowAt_disabled_iff b c).mpr ⟨hon, hoff⟩)]

end

/-- The overload flag, by the overload count or by a saturation (R37). -/
theorem Slice.overloaded_iff (sl : Slice) (n : Nat) :
    sl.overloaded n = true ↔ n ≤ sl.clipCount ∨ sl.saturated = true := by
  simp [Slice.overloaded]

/-- The signal class by the rows of R38. -/
theorem Slice.signal_rows (sl : Slice) (threshold : Nat) : (sl.n = 0 → sl.signal threshold = .empty)
    ∧ (sl.n ≠ 0 → sl.span < threshold → sl.signal threshold = .silent)
    ∧ (sl.n ≠ 0 → threshold ≤ sl.span → sl.hasData = true → sl.signal threshold = .present)
    ∧ (sl.n ≠ 0 → threshold ≤ sl.span → ¬sl.hasData = true → sl.signal threshold = .sparse) := by
  unfold Slice.signal
  refine ⟨fun h => if_pos h, fun h hs => ?_, fun h hs hd => ?_, fun h hs hd => ?_⟩
  · rw [if_neg h, if_pos hs]
  · rw [if_neg h, if_neg (Int.not_lt.mpr hs), if_pos hd]
  · rw [if_neg h, if_neg (Int.not_lt.mpr hs), if_neg hd]

/-! ### O35 -/

/-- Settles O35: the time record and the coefficients, the groups inside a second, then the slices of every channel. -/
theorem sliceBoundaryClosesSlices : Obligations.SliceBoundaryClosesSlices := by
  intro second s hposition hlaw awaited
  obtain ⟨t, hexec, ht, hcontrol⟩ := exec_boundary_agrees hposition
  have hawaited (g : Grp) : awaited t g =
      membersOf s.router.active (fun c => decide ((s.boundary second).channels[c].cond.state ≠ .off)) g := by
    simp only [awaited, ht.channels]
  refine ⟨t, hexec, fun hinside => ?_, fun i => ?_, fun g hinside hg => ?_, fun g hinside hg => ?_, fun c => ?_⟩
  · subst hinside
    obtain ⟨htime, hrouter, hschedules, hexclusions⟩ := s.boundary_false_frame
    exact ⟨ht.time.trans htime, ht.router.trans hrouter, ht.schedules.trans hschedules,
      ht.exclusions.trans hexclusions, hcontrol rfl⟩
  · rw [ht.coefs, State.boundary_coefs]
    exact coefsAtBoundary_get _ _ i
  · subst hinside
    rw [hawaited, ht.groups, State.boundary_group_inside, s.slicedGroup_disabled g hg]
  · subst hinside
    refine ⟨(s.groupSlice s.closedSlices g).1, (s.groupSlice s.closedSlices g).2, ?_, ⟨?_, fun e he => ?_⟩,
      s.groupSlice_eq g, s.groupSlice_admitted g,
      ⟨s.groupSlice_unawaited g, fun holdOver discarded => s.groupSlice_awaited g⟩, rfl, rfl, s.groupSlice_count g hlaw⟩
    · rw [ht.groups, State.boundary_group_inside, s.slicedGroup_enabled g hg]
    · rw [hawaited, ht.groups, State.boundary_group_inside, s.slicedGroup_eq g hg]
    · rw [← s.slicedGroup_eq g hg] at he
      rw [ht.events]
      exact s.boundary_raises_sliced g false he
  rw [ht.router, ht.channels, ht.time, State.boundary_router]
  refine ⟨fun sl hsl hon => ?_, fun hsl => ?_, State.boundary_latestSlice_disabled second hlaw, fun hoff => ?_,
    fun hon => ?_⟩
  · refine ⟨s.recordOf c sl, State.boundary_latestSlice_closed second hsl hon, rfl, rfl,
      (State.slice_state hlaw hsl).2, rfl, rfl, rfl, rfl, rfl, rfl, ?_, sl.overloaded_iff _⟩
    intro e data i p span
    obtain ⟨hempty, hsilent, hpresent, hsparse⟩ := sl.signal_rows e.absentThreshold
    have hdata : sl.hasData = true ↔ data := sl.hasData_iff
    rw [hdata] at hpresent hsparse
    exact ⟨fun hd => if_pos (hdata.mpr hd), fun hd => if_neg fun h => hd (hdata.mp h), fun _ _ => rfl, hempty, hsilent,
      hpresent, hsparse⟩
  · obtain ⟨hold, hnew⟩ := State.boundary_latestSlice_unsliced second hlaw hsl
    rw [hold, hnew]
  · rw [State.boundary_slice, if_pos hoff]
  · rw [State.boundary_slice, if_neg hon]
    rfl

end Sys2Proof.Machine
end

section
/-! SUPPORT. The rows of R48 by what decides them, and what each leaves of a channel, its account and its events; O36 (R22, R25,
R44, R46, R48, R50 to R55, R59, R60, R85, R141, R142, R161; log 31, 32, 48). -/
namespace Sys2Proof.Machine

/-! ### The counts of a closing slice (R50, R52) -/

section
variable (k : Condition) {r : SliceRecord}

theorem Condition.count_settling (h : r.takenIn = .settling) : k.count r =
    if r.hasData then { k with settleCount := min 8 (k.settleCount + 1) } else k := by
  simp only [Condition.count, h]

theorem Condition.count_restored (h : r.takenIn = .absent) (hs : r.signal = .present) :
    (k.count r).restoreCount = min 8 (k.restoreCount + 1) := by
  simp only [Condition.count, h, hs]

end

/-! ### The row that the counts decide (R48) -/

section
variable {n : Nat} {restart : Bool} {k : Condition}

theorem decideRow_restore (h : k.restoreHeld = true) {t : ChannelState} (ht : t = .live ∨ t = .settling) :
    decideRow none (some t) n restart k = .restore := by
  rcases ht with rfl | rfl <;> simp [decideRow, h]

theorem decideRow_settled (h : k.restoreHeld = false) (hc : 8 ≤ k.settleCount) :
    decideRow none (some .settling) n restart k = .settled := by
  simp [decideRow, h, hc]

theorem decideRow_settling (h : k.restoreHeld = false) (hc : k.settleCount < 8) :
    decideRow none (some .settling) n false k = .kept := by
  simp [decideRow, h, hc]

theorem decideRow_absent (h : k.restoreHeld = false) (hc : n ≤ k.silentCount) :
    decideRow none (some .live) n restart k = .absent := by
  simp [decideRow, h, hc]

theorem decideRow_restored (hc : 8 ≤ k.restoreCount) : decideRow none (some .absent) n restart k = .restored := by
  simp [decideRow, hc]

theorem decideRow_unsliced : decideRow none none n restart k = if restart then .restart else .kept := by
  simp [decideRow]

end

/-! ### The channel as its row meets it -/

section
variable {s : State} {b : Bool} {c : Chan} {sl : Slice}

/-- Where nothing disturbs it a channel with a slice takes the row that its counts decide. -/
theorem State.rowAt_sliced (hd : s.disturbed (s.opening b) c = none) (hs : s.channels[c].slice = some sl)
    (hr : s.control.restarted = false) : s.rowAt b c =
      decideRow none (some sl.takenIn) s.router.active.channels[c].absentIntegration.slices false (s.counted b c) := by
  rw [State.rowAt_eq, hd, State.closedSlices_some hs, hr]
  rfl

/-- The counts that decide the row are those of the closing slice. -/
theorem State.counted_sliced (hs : s.channels[c].slice = some sl) : s.counted b c =
    { s.channels[c].cond.count (s.recordOf c sl) with request := (s.counted b c).request } := by
  rw [State.counted, State.closedSlices_some hs]
  rfl

/-- The row meets the condition so counted, but for its request and its suspect field. -/
theorem State.metAt_sliced (hs : s.channels[c].slice = some sl) : s.metAt b c =
    { s.channels[c].cond.count (s.recordOf c sl) with
      request := (s.metAt b c).request, suspect := (s.metAt b c).suspect } := by
  rw [State.metAt, State.metCondition, State.turnAt_record, State.closedSlices_some hs]
  rfl

variable (s b c)

/-- The condition after a boundary: the row applied at the position opened; the request is the arbiter's too. -/
theorem State.boundary_cond : (s.boundary b).channels[c].cond = { (s.metAt b c).apply (s.rowAt b c)
      (s.closedSlices[c].map (·.takenIn)) ((s.opening b).time.runningSecond, (s.opening b).time.sliceIndex) with
    request := (s.boundary b).channels[c].cond.request } := by
  have hcond := congrArg Channel.cond (s.boundary_channel_frame b c)
  rw [State.turnedChannel_cond] at hcond
  exact hcond

/-- The position a boundary opens. -/
def State.here : Option (Nat × Nat) := some ((s.opening b).time.runningSecond, (s.opening b).time.sliceIndex)

/-! ### What the rows leave (R22, R25, R46, R161) -/

/-- A channel that a boundary sends to SETTLING: its filters cleared, and an empty slice opened there. -/
structure State.Settles : Prop where
  state : (s.boundary b).channels[c].cond.state = .settling
  settleCount : (s.boundary b).channels[c].cond.settleCount = 0
  enteredAt : (s.boundary b).channels[c].cond.enteredAt = s.here b
  levelPath : (s.boundary b).channels[c].levelPath = PathState.zero
  peakPath : (s.boundary b).channels[c].peakPath = PathState.zero
  slice : (s.boundary b).channels[c].slice =
    some (Slice.opening .settling (decide (s.time.link = .holdOver)) (s.boundary b).time.held)

theorem Condition.apply_settles {r : Row} (h : r.settles = true) (k : Condition) (t : Option ChannelState) (p : Nat × Nat) :
    (k.apply r t p).state = .settling ∧ (k.apply r t p).settleCount = 0 ∧ (k.apply r t p).enteredAt = some p := by
  revert h
  cases r <;> simp [Row.settles, Condition.apply]

theorem Condition.apply_restoreHeld (k : Condition) (r : Row) (t : Option ChannelState) (p : Nat × Nat) :
    (k.apply r t p).restoreHeld = false := by cases r <;> rfl

theorem State.boundary_restoreHeld : (s.boundary b).channels[c].cond.restoreHeld = false := by
  rw [State.boundary_cond]
  exact Condition.apply_restoreHeld ..

variable {s b c}

theorem State.Settles.of_row (h : (s.rowAt b c).settles = true) : s.Settles b c := by
  obtain ⟨hstate, hcount, hposition⟩ := Condition.apply_settles h (s.metAt b c) (s.closedSlices[c].map (·.takenIn))
    ((s.opening b).time.runningSecond, (s.opening b).time.sliceIndex)
  have hnow : (s.boundary b).channels[c].cond.state = .settling := by rw [State.boundary_cond]; exact hstate
  refine ⟨hnow, ?_, ?_, ?_, ?_, ?_⟩
  · rw [State.boundary_cond]; exact hcount
  · rw [State.boundary_cond]; exact hposition
  · rw [State.boundary_channel_frame, State.turnedChannel_levelPath, if_pos h]
  · rw [State.boundary_channel_frame, State.turnedChannel_peakPath, if_pos h]
  · rw [State.boundary_slice, hnow]; rfl

/-! ### Requests (R53, R54) -/

/-- A start held is decided either way: a channel that is not CHECKING keeps no request past its row. -/
theorem spentRequest_unchecked (r : Row) {t : Option ChannelState} (h : t ≠ some .checking) (q : CheckRequest) :
    spentRequest r t q = .none := by
  cases q with
  | endHeld => exact if_neg fun hr => h hr.1
  | _ => rfl

theorem Condition.apply_request (k : Condition) (r : Row) {t : Option ChannelState} (h : t ≠ some .checking)
    (p : Nat × Nat) : (k.apply r t p).request = .none := by
  have hspent := spentRequest_unchecked r h k.request
  cases r with
  | disabled => rfl
  | _ => exact hspent

/-- A channel taken in another state than CHECKING, which the boundary neither makes LIVE nor starts to check, has no request
left. -/
theorem State.boundary_request_spent (hlive : (s.boundary b).channels[c].cond.state ≠ .live)
    (hrow : s.rowAt b c ≠ .checkStart) (ht : s.closedSlices[c].map (·.takenIn) ≠ some .checking) :
    (s.boundary b).channels[c].cond.request = .none := by
  have hstarts : ¬(s.selection b).starts (s.opening b).router.active c = true := fun h =>
    hlive ((s.boundary_channel_state b c).trans (State.selection_starts h))
  have hends : ¬(s.resolved b).ends.getLsbD c.val = true := fun h => hrow (State.resolved_ends h)
  rw [State.boundary_channel, Channel.afterSelection_frame]
  dsimp only
  rw [if_neg hstarts, State.turnedChannel_cond]
  dsimp only
  rw [Condition.apply_request _ _ ht, State.resolved_withdrawn, requestAfter, if_neg hends]
  exact ite_self _

/-! ### A disturbed channel under check (R25, R139) -/

/-- A check that a commit ends is INCOMPLETE, if it has a result. -/
theorem CheckEngine.atBoundary_commit {k : CheckEngine} {record : Chan → Option SliceRecord} {old new : ChannelMap}
    {disturbed : Chan → Bool} {second : Nat} {d x : Chan} {r : CheckRecord} (h : k.channel = some d)
    (hc : k.commitEnds d old new disturbed = true)
    (hr : (k.atBoundary record old new disturbed second).decided = some (x, r)) : r.code = .incomplete := by
  have taken (hs : k.takes) : r.code = .incomplete := by
    cases hrec : (record d).filter (fun r => decide (r.takenIn = .checking)) with
    | none =>
      rw [CheckEngine.atBoundary_unrecorded k record old new disturbed second h hs hrec, if_pos hc] at hr
      cases hr
      rfl
    | some y =>
      obtain ⟨hy, ht⟩ := Option.filter_eq_some_iff.mp hrec
      rw [CheckEngine.atBoundary_recorded k record old new disturbed second h hs hy (of_decide_eq_true ht), if_pos hc] at hr
      split at hr <;> (cases hr; rfl)
  cases hs : k.stage with
  | idle =>
    have hq : k.atBoundary record old new disturbed second = .quiet k := by simp only [CheckEngine.atBoundary, h, hs]
    rw [hq] at hr
    cases hr
  | starting =>
    rw [CheckEngine.atBoundary_starting k record old new disturbed second h hs, if_pos hc] at hr
    cases hr
    rfl
  | ending =>
    rw [CheckEngine.atBoundary_ending k record old new disturbed second h hs] at hr
    cases hr
  | pre => exact taken (.inl hs)
  | establish => exact taken (.inr (.inl hs))
  | measure => exact taken (.inr (.inr hs))

/-- A disturbed channel takes no result but INCOMPLETE. -/
theorem State.resultFor_disturbed (hd : (s.disturbed (s.opening b) c).isSome = true) {r : CheckRecord}
    (h : resultFor c (s.decidedAt b) = some r) : r.code = .incomplete := by
  have hc : s.check.channel = some c := by_contra fun hn => by
    rw [State.resultFor_unchecked hn] at h
    cases h
  obtain ⟨x, hx⟩ : ∃ x, s.decidedAt b = some (x, r) := by
    cases hdec : s.decidedAt b with
    | none => rw [hdec] at h; cases h
    | some p =>
      obtain ⟨x, r'⟩ := p
      rw [hdec, resultFor] at h
      split at h
      · cases h; exact ⟨x, rfl⟩
      · cases h
  rw [State.decidedAt, Option.or_eq_some_iff] at hx
  rcases hx with hclose | ⟨-, hresolved⟩
  · rw [State.closing_eq] at hclose
    refine CheckEngine.atBoundary_commit hc ((CheckEngine.commitEnds_iff ..).mpr (.inl ⟨c, ?_, hd⟩)) hclose
    simp [CheckEngine.involved, hc]
  · rw [State.resolved] at hresolved
    rcases (s.closing b).engine.resolveStart_cases (fun d => decide (s.rowAt b d = .checkStart))
      (s.opening b).time.runningSecond with ⟨hu, -⟩ | ⟨e, -, hdecided, -⟩
    · rw [hu.decided] at hresolved
      cases hresolved
    · rw [hdecided] at hresolved
      cases hresolved
      rfl

/-! ### The balance of a channel that no counted result meets (R140, R141) -/

/-- The balance of such a channel goes up with a timer that expires at a second boundary, and stands otherwise. -/
theorem State.boundary_balance (hmap : (s.opening b).router.active = s.router.active)
    (hres : ∀ r, resultFor c (s.decidedAt b) = some r → ¬r.counts) :
    (b = true ∧ s.channels[c].account.expires s.control.mode s.router.active.channels[c] →
      (s.boundary b).channels[c].account.balance = raisedBalance s.channels[c].account.balance)
    ∧ (¬(b = true ∧ s.channels[c].account.expires s.control.mode s.router.active.channels[c]) →
      (s.boundary b).channels[c].account.balance = s.channels[c].account.balance) := by
  have hbalance : (s.boundary b).channels[c].account.balance = (s.accountAt b c).1.balance := by
    rw [State.boundary_channel_account, State.turnedChannel_account]
    split <;> rfl
  rw [hbalance]
  cases b with
  | false =>
    refine ⟨nofun, fun _ => ?_⟩
    rw [State.accountAt_false]
    cases hr : resultFor c (s.decidedAt false) with
    | none => rfl
    | some r =>
      change (s.channels[c].account.result r).balance = _
      rw [CheckAccount.result_uncounted (hres r hr)]
  | true =>
    simp only [true_and]
    rw [State.accountAt_true, hmap]
    cases hr : resultFor c (s.decidedAt true) with
    | none =>
      rw [CheckAccount.atSecond_count (.refl _)]
      exact CheckAccount.countSecond_balance ..
    | some r =>
      obtain ⟨-, -, huncounted⟩ := CheckAccount.atSecond_decided (.refl s.router.active.channels[c])
        s.channels[c].account (Config.order s.choices) c s.control.mode r (s.closedSecond true c)
      obtain ⟨-, hstands, hraised⟩ := huncounted (hres r hr)
      exact ⟨hraised, hstands⟩

/-! ### The rows at a boundary whose map stands (R48) -/

/-- Where the map stands a channel is disturbed exactly by a coefficient change of a weighting it uses. -/
theorem State.disturbed_changes (hmap : (s.opening b).router.active = s.router.active) (hlaw : s.channelLaw)
    (h : s.changes c) : s.disturbed (s.opening b) c = some .coefChange := by
  obtain ⟨hlock, hoff, hw⟩ := h
  have hen : s.router.active.channels[c].enabled = true :=
    by_contra fun he => hoff ((hlaw c).1.mpr (.inl (Bool.eq_false_iff.mpr he)))
  rw [State.disturbed_coefs hmap, hen, (usesAffected_iff s _).mpr ⟨hlock, hw⟩, decide_eq_true hoff]
  rfl

theorem State.disturbed_unchanged (hmap : (s.opening b).router.active = s.router.active) (h : ¬s.changes c) :
    s.disturbed (s.opening b) c = none := by
  rw [State.disturbed_coefs hmap, if_neg]
  rw [Bool.and_eq_true, Bool.and_eq_true, decide_eq_true_eq]
  rintro ⟨⟨-, hu⟩, hoff⟩
  obtain ⟨hlock, hw⟩ := (usesAffected_iff s _).mp hu
  exact h ⟨hlock, hoff, hw⟩

/-- Row 11: after a RESTART every channel is OFF, and one that the active map enables settles. -/
theorem State.rowAt_restarted (hmap : (s.opening b).router.active = s.router.active) (hlaw : s.channelLaw)
    (hr : s.control.restarted = true) :
    s.rowAt b c = if s.router.active.channels[c].enabled then .restart else .kept := by
  have hoff : s.channels[c].cond.state = .off := (hlaw c).1.mpr (.inr hr)
  have hslice : s.channels[c].slice = none := ((hlaw c).2.1 hoff).1
  rw [State.rowAt_eq, State.disturbed_unchanged hmap fun h => h.2.1 hoff, State.closedSlices_get, hslice, hr, hmap]
  exact decideRow_unsliced

section
variable (hd : s.disturbed (s.opening b) c = none) (hs : s.channels[c].slice = some sl) (hr : s.control.restarted = false)
include hd hs hr

theorem State.rowAt_restore (h : s.channels[c].cond.restoreHeld = true) (ht : sl.takenIn = .live ∨ sl.takenIn = .settling) :
    s.rowAt b c = .restore := by
  rw [State.rowAt_sliced hd hs hr]
  exact decideRow_restore (by rw [State.counted_restoreHeld, h]) ht

/-- The eighth data slice of SETTLING (R50). -/
theorem State.rowAt_settled (ht : sl.takenIn = .settling) (h : s.channels[c].cond.restoreHeld = false)
    (h7 : s.channels[c].cond.settleCount = 7) (hdata : sl.hasData = true) : s.rowAt b c = .settled := by
  have hcount : (s.counted b c).settleCount = 8 := by
    rw [State.counted_sliced hs, Condition.count_settling _ (show (s.recordOf c sl).takenIn = .settling from ht),
      State.recordOf_hasData, if_pos hdata, h7]
    rfl
  rw [State.rowAt_sliced hd hs hr, ht]
  exact decideRow_settled (by rw [State.counted_restoreHeld, h]) (by rw [hcount])

theorem State.rowAt_settling (ht : sl.takenIn = .settling) (h : s.channels[c].cond.restoreHeld = false)
    (h7 : s.channels[c].cond.settleCount < 7) : s.rowAt b c = .kept := by
  have hcount : (s.counted b c).settleCount < 8 := by
    rw [State.counted_sliced hs, Condition.count_settling _ (show (s.recordOf c sl).takenIn = .settling from ht)]
    split
    · exact lt_of_le_of_lt (Nat.min_le_right ..) (by omega)
    · exact lt_trans h7 (by decide)
  rw [State.rowAt_sliced hd hs hr, ht]
  exact decideRow_settling (by rw [State.counted_restoreHeld, h]) hcount

/-- A silent slice that brings the silent count to the integration (R51). -/
theorem State.rowAt_absent (ht : sl.takenIn = .live) (h : s.channels[c].cond.restoreHeld = false) (hn : 0 < sl.n)
    (hspan : sl.span < s.router.active.channels[c].absentThreshold) (h40 : s.channels[c].cond.silentCount < 40)
    (hcount : s.router.active.channels[c].absentIntegration.slices ≤ s.channels[c].cond.silentCount + 1) :
    s.rowAt b c = .absent := by
  rw [State.rowAt_sliced hd hs hr, ht]
  refine decideRow_absent (by rw [State.counted_restoreHeld, h]) ?_
  rw [State.counted_silentCount _ _ _ hs, State.recordOf_silent ht hn hspan]
  omega

/-- The eighth PRESENT slice of ABSENT (R52). -/
theorem State.rowAt_restored (ht : sl.takenIn = .absent) (h7 : s.channels[c].cond.restoreCount = 7)
    (hdata : sl.hasData = true) (hspan : (s.router.active.channels[c].absentThreshold : Int) ≤ sl.span) :
    s.rowAt b c = .restored := by
  have hn : sl.n ≠ 0 := by
    have := (sl.hasData_iff.mp hdata).1
    omega
  have hcount : (s.counted b c).restoreCount = 8 := by
    rw [State.counted_sliced hs]
    refine (Condition.count_restored _ ht ?_).trans (by rw [h7]; rfl)
    exact (sl.signal_rows _).2.2.1 hn hspan hdata
  rw [State.rowAt_sliced hd hs hr, ht]
  exact decideRow_restored (by rw [hcount])

end

/-! ### What they leave -/

/-- A row that makes a channel LIVE (R50, R52). -/
theorem State.boundary_live (h : s.rowAt b c = .settled ∨ s.rowAt b c = .restored) :
    (s.boundary b).channels[c].cond.state = .live ∧ (s.boundary b).channels[c].cond.silentCount = 0
      ∧ (s.boundary b).channels[c].cond.enteredAt = s.here b := by
  rw [State.boundary_cond]
  rcases h with h | h <;> rw [h] <;> exact ⟨rfl, rfl, rfl⟩

/-- Row 8 refuses a start held (R51, R53). -/
theorem State.boundary_absent (h : s.rowAt b c = .absent) (hs : s.channels[c].slice = some sl) (ht : sl.takenIn = .live) :
    (s.boundary b).channels[c].cond.state = .absent ∧ (s.boundary b).channels[c].cond.restoreCount = 0
      ∧ (s.boundary b).channels[c].cond.request = .none ∧ (s.boundary b).channels[c].cond.enteredAt = s.here b := by
  have hstate : (s.boundary b).channels[c].cond.state = .absent := by rw [State.boundary_state, h]; rfl
  refine ⟨hstate, by rw [State.boundary_cond, h]; rfl, ?_, by rw [State.boundary_cond, h]; rfl⟩
  refine State.boundary_request_spent (by rw [hstate]; nofun) (by rw [h]; nofun) ?_
  rw [State.closedSlices_some hs]
  exact fun hx => by cases (Option.some.inj hx).symm.trans ht

theorem State.boundary_checkStart (h : s.rowAt b c = .checkStart) : (s.boundary b).channels[c].cond.state = .checking
    ∧ (s.boundary b).channels[c].cond.enteredAt = s.here b := by
  rw [State.boundary_cond, h]
  exact ⟨rfl, rfl⟩

/-- A channel that goes on SETTLING counts its closing slice where it has data (R50). -/
theorem State.boundary_kept_settling (h : s.rowAt b c = .kept) (hs : s.channels[c].slice = some sl)
    (ht : sl.takenIn = .settling) :
    (s.boundary b).channels[c].cond.enteredAt = s.channels[c].cond.enteredAt
      ∧ (s.boundary b).channels[c].cond.settleCount = if sl.hasData then min 8 (s.channels[c].cond.settleCount + 1)
          else s.channels[c].cond.settleCount := by
  rw [State.boundary_cond, h, State.metAt_sliced hs,
    Condition.count_settling _ (show (s.recordOf c sl).takenIn = .settling from ht), State.recordOf_hasData]
  cases sl.hasData <;> exact ⟨rfl, rfl⟩

/-- The sample last sent in its slot is the hold value of a channel that a boundary quenches (R161). -/
theorem State.boundary_holdValue (hmap : (s.opening b).router.active = s.router.active)
    (h : (s.rowAt b c).quenches = true) :
    (s.boundary b).channels[c].holdValue = s.trunk.lastSent[s.router.active.channels[c].sourceSlot] := by
  rw [State.boundary_channel_frame, State.turnedChannel_eq]
  exact (if_pos h).trans (congrArg (fun m : ChannelMap => s.trunk.lastSent[m.channels[c].sourceSlot]) hmap)

/-- Rows 8 and 9 raise SIGNAL ABSENT and SIGNAL RESTORED (R59). -/
theorem State.boundary_raises_absent (h : s.rowAt b c = .absent) :
    (s.boundary b).raised (Event.plain s.time.runningSecond .signalAbsent (.channel c)) := by
  refine State.boundary_raises_channelEvent (c := c) (List.mem_flatten.mpr ⟨_, List.mem_cons_self .., ?_⟩)
  rw [State.turnAt_row, h]
  exact List.mem_cons_self ..

theorem State.boundary_raises_restored (h : s.rowAt b c = .restored) {r : SliceRecord} {l : SliceLevels}
    (hrec : s.closedSlices[c] = some r) (hl : r.levels = some l) : (s.boundary b).raised
      { Event.plain s.time.runningSecond .signalRestored (.channel c) with level := some l.lt } := by
  refine State.boundary_raises_channelEvent (c := c) (List.mem_flatten.mpr ⟨_, List.mem_cons_self .., ?_⟩)
  rw [State.turnAt_row, h, State.turnAt_record, hrec]
  change _ ∈ [Emission.event { Event.plain s.time.runningSecond .signalRestored (.channel c) with
    level := r.levels.map (·.lt) }]
  rw [hl]
  exact List.mem_cons_self ..

/-! ### The requests of the check in progress (R53, R54, R133) -/

/-- Where nothing is changed a check in STARTING withdraws no start. -/
theorem State.closing_standing (hst : s.Stands b) (hs : s.check.stage = .starting) : s.closing b = .quiet s.check := by
  cases hc : s.check.channel with
  | none => exact State.closing_none hc b
  | some d =>
    rw [State.closing_starting hc hs, if_neg]
    rw [hst.map, CheckEngine.commitEnds_same]
    rintro ⟨x, -, hx⟩
    rw [hst.undisturbed x] at hx
    cases hx

theorem State.rowAt_checkStart (hst : s.Stands b) (hstage : s.check.stage = .starting)
    (hs : s.channels[c].slice = some sl) (ht : sl.takenIn = .live) (h : s.channels[c].cond.restoreHeld = false)
    (hq : s.channels[c].cond.request = .startHeld) (hn : 0 < sl.n)
    (hspan : (s.router.active.channels[c].absentThreshold : Int) ≤ sl.span) : s.rowAt b c = .checkStart := by
  refine (State.rowAt_checkStart_iff (hst.undisturbed c)).mpr ⟨by rw [hs, ← ht]; rfl, ?_, h, ?_⟩
  · rw [State.counted_request, State.closing_standing hst hstage, hq]
    exact requestAfter_none _
  · rw [State.counted_silentCount _ _ _ hs, State.recordOf_present ht hn hspan]
    exact AbsentIntegration.slices_pos _

/-- In ENDING the end held of a CHECKING channel is taken. -/
theorem State.rowAt_ending (hcheck : s.checkLaw) (hd : s.disturbed (s.opening b) c = none)
    (hs : s.channels[c].slice = some sl) (ht : sl.takenIn = .checking) (hstate : s.channels[c].cond.state = .checking)
    (hstage : s.check.stage = .ending) : s.rowAt b c = .checkEnd := by
  obtain ⟨hbusy, -, hchannel⟩ := hcheck
  have hq : s.channels[c].cond.request = .endHeld := ((hchannel c).1 hstate).2.2 hstage
  obtain ⟨d, hch⟩ : ∃ d, s.check.channel = some d := Option.isSome_iff_exists.mp (by
    rw [hbusy, CheckEngine.busy, hstage]
    rfl)
  refine State.rowAt_checkEnd hd hs ht ?_
  rw [State.counted_request, State.closing_eq, CheckEngine.atBoundary_ending _ _ _ _ _ _ hch hstage, hq]
  exact requestAfter_none _

end

/-! ### Row 4 (R22, R25, R44, R85, R142) -/

/-- What a coefficient change leaves of a channel beside its settling. -/
structure State.Recoefficiented (s : State) (b : Bool) (c : Chan) : Prop where
  silentCount : (s.boundary b).channels[c].cond.silentCount = 0
  restoreCount : (s.boundary b).channels[c].cond.restoreCount = 0
  ring : (s.boundary b).channels[c].ring = []
  latestSecond : (s.boundary b).channels[c].latestSecond = none
  forming : (s.boundary b).channels[c].forming = some SecondForming.empty
  suspect : (s.boundary b).channels[c].cond.suspect = s.channels[c].cond.suspect
  quiet : (s.boundary b).channels[c].account.quiet = 0

theorem State.Recoefficiented.of_disturbed {s : State} {b : Bool} {c : Chan}
    (h : s.disturbed (s.opening b) c = some .coefChange) : s.Recoefficiented b c := by
  have hrow : s.rowAt b c = .coefChange := State.rowAt_disturbed h
  refine ⟨?_, ?_, ?_, ?_, ?_, ?_, ?_⟩
  · rw [State.boundary_cond, hrow]; rfl
  · rw [State.boundary_cond, hrow]; rfl
  · rw [State.boundary_channel_frame, State.turnedChannel_ring, hrow]; rfl
  · rw [State.boundary_channel_frame, State.turnedChannel_latestSecond, hrow]; rfl
  · rw [State.boundary_channel_frame, State.turnedChannel_forming, hrow]; rfl
  · rw [State.boundary_suspect]
    cases hr : resultFor c (s.decidedAt b) with
    | none => rfl
    | some r =>
      have hi : r.code = .incomplete := State.resultFor_disturbed (by rw [h]; rfl) hr
      change suspectAfter r.code _ = _
      rw [hi]
      rfl
  · rw [State.boundary_channel_account, State.turnedChannel_account, hrow]; rfl

/-- A start held is refused by row 4: the check is in STARTING, and its channel not yet CHECKING (R53). -/
theorem State.boundary_refuses_start {s : State} {b : Bool} {c : Chan} (hlaw : s.channelLaw) (hcheck : s.checkLaw)
    (hd : s.disturbed (s.opening b) c = some .coefChange) (hoff : s.channels[c].cond.state ≠ .off)
    (hq : s.channels[c].cond.request = .startHeld) : (s.boundary b).channels[c].cond.request = .none := by
  have hrow : s.rowAt b c = .coefChange := State.rowAt_disturbed hd
  obtain ⟨hchecking, hstarting⟩ := hcheck.2.2 c
  have hnot : s.channels[c].cond.state ≠ .checking := fun h => by
    have hquench := (hchecking h).2.1
    rw [(hstarting hq).2] at hquench
    cases hquench
  refine State.boundary_request_spent ?_ (by rw [hrow]; nofun) ?_
  · rw [State.boundary_state, hrow]
    nofun
  · rw [State.closedSlices_get, Option.map_map]
    exact fun h => hnot (Option.some.inj (((hlaw c).2.2 hoff).1.symm.trans h))

/-! ### O36 -/

/-- Settles O36: a coefficient change, a RESTART's first boundary, and the rows by the counts and the requests. -/
theorem channelsSettleFallSilentReturn : Obligations.ChannelsSettleFallSilentReturn := by
  intro second s c hposition hlaw hcheck
  have hmap : (s.opening second).router.active = s.router.active := by
    cases second with
    | true => rw [State.opening_true_router, Router.activate_none hposition.2]
    | false => rfl
  obtain ⟨t, hexec, ht, -⟩ := exec_boundary_agrees (s := s) (b := second) (by
    cases second with
    | true => exact hposition.1
    | false => exact hposition)
  refine ⟨t, hexec, ?_⟩
  have hraised (x : Event) (h : (s.boundary second).raised x) : t.raised x := by
    unfold State.raised
    rw [ht.events]
    exact h
  rw [ht.channels, ht.time]
  intro e ch cond next now here changes settles expires
  obtain ⟨-, -, hsecond, hindex⟩ := s.boundary_time_fields second
  have hhere : here = s.here second := by simp only [here, State.here, hsecond, hindex]
  have hsettles (h : (s.rowAt second c).settles = true) : settles := by
    have hx := State.Settles.of_row h
    exact ⟨hx.state, hx.settleCount, hx.enteredAt.trans hhere.symm, hx.levelPath, hx.peakPath, hx.slice⟩
  have hchanges (hc : changes) (hoff : cond.state ≠ .off) : s.changes c := ⟨hc.1, hoff, hc.2⟩
  refine ⟨fun hc hoff => ?_, fun hr => ⟨fun hen => ?_, fun hen => ?_⟩, fun sl hs hc hr => ?_⟩
  · have hd := State.disturbed_changes hmap hlaw (hchanges hc hoff)
    have hrow : s.rowAt second c = .coefChange := State.rowAt_disturbed hd
    have hset := hsettles (by rw [hrow]; rfl)
    have hleft := State.Recoefficiented.of_disturbed hd
    obtain ⟨hraise, hstand⟩ := State.boundary_balance hmap (c := c) fun r hres hcounts => by
      rw [CheckRecord.counts, State.resultFor_disturbed (by rw [hd]; rfl) hres] at hcounts
      simp at hcounts
    refine ⟨hset, hleft.silentCount, hleft.restoreCount, s.boundary_restoreHeld second c, hleft.ring, hleft.latestSecond,
      hleft.forming, hleft.suspect, hleft.quiet, State.boundary_refuses_start hlaw hcheck hd hoff, ?_⟩
    change (s.boundary second).channels[c].account.balance = _
    by_cases hex : expires
    · rw [hraise hex, raisedBalance]
      simp only [hex, true_and]
      rfl
    · rw [hstand hex, if_neg fun h => hex h.1]
  · have hrow := State.rowAt_restarted (c := c) hmap hlaw hr
    rw [if_pos hen] at hrow
    refine ⟨hsettles (by rw [hrow]; rfl), ?_⟩
    change (s.boundary second).channels[c].forming = _
    rw [State.boundary_channel_frame, State.turnedChannel_forming, hrow]
    rfl
  · have hrow := State.rowAt_restarted (c := c) hmap hlaw hr
    have hoff : (s.boundary second).channels[c].cond.state = .off := by
      rw [State.boundary_state, hrow, if_neg (by rw [hen]; nofun)]
      exact (hlaw c).1.mpr (.inr hr)
    exact ⟨hoff, by rw [State.boundary_slice, if_pos hoff]⟩
  have hd : s.disturbed (s.opening second) c = none := State.disturbed_unchanged hmap fun h => hc ⟨h.1, h.2.2⟩
  obtain ⟨-, htaken⟩ := State.slice_state hlaw hs
  intro data span
  have hdata : data ↔ sl.hasData = true := sl.hasData_iff.symm
  refine ⟨fun hst hheld => ?_, fun hst hheld h7 hdat => ?_, fun hst hheld h7 => ?_,
    fun hst hheld hn hspan h40 hint => ?_, fun hst h7 hdat hspan => ?_, fun hst hend => ?_,
    fun hst hheld hq hn hspan hquiet => ?_⟩
  · have hrow := State.rowAt_restore hd hs hr hheld (by rw [htaken]; exact hst)
    refine ⟨hsettles (by rw [hrow]; rfl), s.boundary_restoreHeld second c, ?_⟩
    rintro rfl
    change (s.boundary false).channels[c].ring = _
    rw [State.boundary_channel_frame, State.turnedChannel_ring, hrow, State.closedSecond_false]
    rfl
  · have hrow := State.rowAt_settled hd hs hr (htaken.trans hst) hheld h7 (hdata.mp hdat)
    rw [hhere]
    exact State.boundary_live (.inl hrow)
  · have hrow := State.rowAt_settling hd hs hr (htaken.trans hst) hheld h7
    obtain ⟨hentered, hcount⟩ := State.boundary_kept_settling hrow hs (htaken.trans hst)
    refine ⟨?_, hentered, fun hdat => ?_, fun hdat => ?_⟩
    · change (s.boundary second).channels[c].cond.state = _
      rw [State.boundary_state, hrow]
      exact hst
    · refine hcount.trans ?_
      rw [if_pos (hdata.mp hdat)]
      exact Nat.min_eq_right (Nat.succ_le_succ (Nat.le_of_lt h7))
    · exact hcount.trans (if_neg fun h => hdat (hdata.mpr h))
  · have hrow := State.rowAt_absent hd hs hr (htaken.trans hst) hheld hn hspan h40 hint
    obtain ⟨hstate, hrestore, hrequest, hentered⟩ := State.boundary_absent hrow hs (htaken.trans hst)
    exact ⟨hstate, hrestore, hrequest, hentered.trans hhere.symm, hraised _ (State.boundary_raises_absent hrow),
      State.boundary_holdValue hmap (by rw [hrow]; rfl)⟩
  · have hrow := State.rowAt_restored hd hs hr (htaken.trans hst) h7 (hdata.mp hdat) hspan
    obtain ⟨hstate, hsilent, hentered⟩ := State.boundary_live (.inr hrow)
    have hon : (s.opening second).router.active.channels[c].enabled = true := by
      rw [hmap]
      exact by_contra fun he => (State.slice_state hlaw hs).1 ((hlaw c).1.mpr (.inl (Bool.eq_false_iff.mpr he)))
    have hlevels : (s.recordOf c sl).levels = some (sl.levels e.sensitivity) := if_pos (hdata.mp hdat)
    refine ⟨hstate, hsilent, hentered.trans hhere.symm, ?_, s.recordOf c sl, sl.levels e.sensitivity,
      State.boundary_latestSlice_closed second hs hon, hlevels,
      hraised _ (State.boundary_raises_restored hrow (State.closedSlices_some hs) hlevels)⟩
    change (s.boundary second).channels[c].levelPath = _
    rw [State.boundary_channel_frame, State.turnedChannel_levelPath, hrow]
    rfl
  · have hrow := State.rowAt_ending hcheck hd hs (htaken.trans hst) hst hend
    exact hsettles (by rw [hrow]; rfl)
  · have hstage := ((hcheck.2.2 c).2 hq).2
    have hrow := State.rowAt_checkStart ⟨hmap, hquiet⟩ hstage hs (htaken.trans hst) hheld hq hn hspan
    obtain ⟨hstate, hentered⟩ := State.boundary_checkStart hrow
    exact ⟨hstage, hstate, hentered.trans hhere.symm⟩

end Sys2Proof.Machine
end

section
/-! SUPPORT. The conditions of the channels: what each command leaves of them, and O56 (R29, R40, R44, R49, R85, R186). -/
namespace Sys2Proof.Machine

/-! ### The law, channel by channel -/

/-- The law of one channel, OFF exactly where `off` says (R29, R40, R44, R49, R85). -/
structure Channel.Lawful (ch : Channel) (off : Prop) : Prop where
  state : ch.cond.state = .off ↔ off
  idle : ch.cond.state = .off →
    ch.slice = none ∧ ch.forming = none ∧ ch.latestSlice = none ∧ ch.latestSecond = none ∧ ch.ring = []
  served : ch.cond.state ≠ .off → ch.slice.map (·.takenIn) = some ch.cond.state ∧ ch.forming.isSome = true

/-- Why a channel is OFF: the active map has it disabled, or a RESTART was taken since the last boundary (R49, R186). -/
def State.holdsOff (s : State) (c : Chan) : Prop :=
  s.router.active.channels[c].enabled = false ∨ s.control.restarted = true

theorem State.channelLaw_iff (s : State) : s.channelLaw ↔ ∀ c : Chan, s.channels[c].Lawful (s.holdsOff c) :=
  forall_congr' fun _ => ⟨fun ⟨h1, h2, h3⟩ => ⟨h1, h2, h3⟩, fun ⟨h1, h2, h3⟩ => ⟨h1, h2, h3⟩⟩

/-- Two channels in one state that hold the same history, their slices taken in the same state. -/
structure Channel.SameHeld (ch dh : Channel) : Prop where
  state : dh.cond.state = ch.cond.state
  slice : dh.slice.map (·.takenIn) = ch.slice.map (·.takenIn)
  forming : dh.forming = ch.forming
  latestSlice : dh.latestSlice = ch.latestSlice
  latestSecond : dh.latestSecond = ch.latestSecond
  ring : dh.ring = ch.ring

theorem Channel.SameHeld.refl (ch : Channel) : ch.SameHeld ch := ⟨rfl, rfl, rfl, rfl, rfl, rfl⟩

theorem Channel.SameHeld.trans {a b c : Channel} (h : a.SameHeld b) (k : b.SameHeld c) : a.SameHeld c :=
  ⟨k.state.trans h.state, k.slice.trans h.slice, k.forming.trans h.forming, k.latestSlice.trans h.latestSlice,
    k.latestSecond.trans h.latestSecond, k.ring.trans h.ring⟩

theorem Channel.Lawful.congr {ch dh : Channel} {off : Prop} (h : ch.Lawful off) (e : ch.SameHeld dh) : dh.Lawful off where
  state := by rw [e.state]; exact h.state
  idle hoff := by
    obtain ⟨hslice, hheld⟩ := h.idle (e.state ▸ hoff)
    refine ⟨Option.map_eq_none_iff.mp (e.slice.trans (Option.map_eq_none_iff.mpr hslice)), ?_⟩
    rwa [e.forming, e.latestSlice, e.latestSecond, e.ring]
  served hon := by
    rw [e.state] at hon
    rw [e.slice, e.forming, e.state]
    exact h.served hon

/-- Two states with the same active map and RESTART mark, whose channels hold the same. -/
structure SameHeld (s t : State) : Prop where
  active : t.router.active = s.router.active
  restarted : t.control.restarted = s.control.restarted
  channels : ∀ c : Chan, s.channels[c].SameHeld t.channels[c]

theorem SameHeld.trans {s t u : State} (h : SameHeld s t) (k : SameHeld t u) : SameHeld s u :=
  ⟨k.active.trans h.active, k.restarted.trans h.restarted, fun c => (h.channels c).trans (k.channels c)⟩

/-- Where the channels themselves stand. -/
theorem SameHeld.of_channels {s t : State} (ha : t.router.active = s.router.active)
    (hr : t.control.restarted = s.control.restarted) (hc : t.channels = s.channels) : SameHeld s t :=
  ⟨ha, hr, fun c => by rw [hc]; exact .refl _⟩

/-- The law reads the active map, the RESTART mark, and what the channels hold. -/
theorem State.channelLaw.congr {s t : State} (h : s.channelLaw) (e : SameHeld s t) : t.channelLaw := by
  rw [State.channelLaw_iff] at h ⊢
  intro c
  have hoff : t.holdsOff c = s.holdsOff c := by rw [State.holdsOff, e.active, e.restarted]; rfl
  rw [hoff]
  exact (h c).congr (e.channels c)

/-- A request keeps the law where its rule does. -/
theorem State.channelLaw.serve {s : State} {code : Byte} {w b : Bool} {r : Request} {rule : State → Reply}
    (h : s.channelLaw) (hr : (rule s).state.channelLaw) : (s.serve code w b r rule).channelLaw :=
  State.serve_keeps (Q := State.channelLaw) (fun _ _ _ h => h.congr (.of_channels (by simp) (by simp) (by simp)))
    (fun _ _ _ _ _ _ h => h.congr (.of_channels rfl rfl rfl)) (fun _ _ h => h.congr (.of_channels rfl rfl rfl)) h hr

/-! ### What moves a channel between boundaries -/

/-- A check's step moves the held request and the account. -/
theorem Channel.checkStep_sameHeld (ch : Channel) (x : CheckClose) (c : Chan) : ch.SameHeld (ch.checkStep x c) :=
  ⟨rfl, rfl, rfl, rfl, rfl, rfl⟩

/-- The end of a check between boundaries leaves every channel in its state (R138). -/
theorem State.endCheck_sameHeld (s : State) (why : CheckReason) : SameHeld s (s.endCheck why) where
  active := by simp
  restarted := by simp
  channels c := by
    unfold State.endCheck
    dsimp only
    split
    · exact .refl _
    · simp only [Fin.getElem_fin, Vector.getElem_ofFn]
      exact Channel.checkStep_sameHeld ..

/-- A RESTART leaves every channel OFF with its history cleared (R186). -/
theorem State.channelLaw_restart (s : State) : s.restart.channelLaw := by
  rw [State.channelLaw_iff]
  intro c
  have hc : s.restart.channels[c] = s.channels[c].restart := by simp [State.restart]
  rw [hc]
  exact ⟨iff_of_true rfl (.inr rfl), fun _ => ⟨rfl, rfl, rfl, rfl, rfl⟩, fun h => absurd rfl h⟩

/-- A sample enters the slice in progress. -/
theorem Channel.takeSample_sameHeld (ch : Channel) (k : Vector CoefSection 6) (e : ChannelEntry) (x : Sample) :
    ch.SameHeld (ch.takeSample k e x) := by
  cases h : ch.slice with
  | none => rw [Channel.takeSample_none h]; exact .refl _
  | some sl => rw [Channel.takeSample_some h]; exact ⟨rfl, by rw [h]; rfl, rfl, rfl, rfl, rfl⟩

theorem State.carryGood_sameHeld (s : State) (f : Frame) : SameHeld s (s.carryGood f) where
  active := rfl
  restarted := rfl
  channels c := by
    simp only [State.carryGood, State.routeSamples, Fin.getElem_fin, Vector.getElem_ofFn]
    split
    · exact Channel.takeSample_sameHeld ..
    · exact .refl _

theorem Channel.markHoldOver_sameHeld (ch : Channel) : ch.SameHeld ch.markHoldOver :=
  ⟨rfl, by rw [Channel.markHoldOver, Option.map_map]; rfl, rfl, rfl, rfl, rfl⟩

/-- The records of a step leave what the channels hold. -/
theorem State.emit_sameHeld (s : State) (n : Nat) (l : Chains) : SameHeld s (s.emit n l) :=
  .of_channels (by simp) (by simp) (by simp)

/-- A declared loss marks the slices in progress and ends a check (R31, R65). -/
theorem State.loseLink_sameHeld (s : State) : SameHeld s s.loseLink := by
  have hmarked : SameHeld s { s with time := s.time.lose, channels := s.channels.map Channel.markHoldOver } :=
    ⟨rfl, rfl, fun c => by simpa using Channel.markHoldOver_sameHeld _⟩
  unfold State.loseLink
  exact (hmarked.trans (State.endCheck_sameHeld _ .link)).trans (State.emit_sameHeld ..)

/-- A declared restoration holds the restores and owes checks (R55, R66, R67). -/
theorem State.regainLink_sameHeld (s : State) : SameHeld s s.regainLink := by
  unfold State.regainLink
  refine .trans ?_ (State.emit_sameHeld _ _ _)
  refine ⟨rfl, rfl, fun c => ?_⟩
  simp only [Fin.getElem_fin, Vector.getElem_ofFn]
  exact ⟨rfl, rfl, rfl, rfl, rfl, rfl⟩

/-- A timer's expiry moves the account of its channel (R140, R141). -/
theorem State.set_account_sameHeld (s : State) (c : Chan) (a : CheckAccount) :
    SameHeld s { s with channels := s.channels.set c { s.channels[c] with account := a } } where
  active := rfl
  restarted := rfl
  channels d := by
    simp only [Fin.getElem_fin, Vector.getElem_set]
    split
    · rename_i hcd
      obtain rfl : c = d := Fin.ext hcd
      exact ⟨rfl, rfl, rfl, rfl, rfl, rfl⟩
    · exact .refl _

/-! ### Every request -/

/-- Every request keeps the law: CHECK ABORT and RESTART alone touch a channel, and only RESTART its state (R138, R186). -/
theorem State.channelLaw.serveCode {s : State} (code : Byte) (r : Request) (h : s.channelLaw) :
    (serveCode code r s).channelLaw := by
  have kept {t : State} (ha : t.router.active = s.router.active) (hr : t.control.restarted = s.control.restarted)
      (hc : t.channels = s.channels) : t.channelLaw := h.congr (.of_channels ha hr hc)
  unfold Machine.serveCode
  split
  case h_1 => exact h.serve h
  case h_2 | h_3 => exact h.serve (takeAlways_state h fun _ _ => h)
  case h_4 | h_6 | h_8 =>
    refine h.serve (takeOutsideBoot_state h fun _ _ _ => ?_)
    split_ifs <;> exact kept rfl rfl rfl
  case h_5 =>
    refine h.serve (takeAlways_state h fun _ _ => ?_)
    split_ifs <;> exact kept rfl rfl rfl
  case h_7 =>
    refine h.serve (takeOutsideBoot_state h fun _ _ _ => ?_)
    split_ifs
    · exact h
    · exact s.channelLaw_restart
  case h_9 | h_10 =>
    split
    · exact h.serve (takeOutsideBoot_state h fun _ _ _ => kept (by simp [Reply.plain]) rfl rfl)
    · exact h.serve (takeOutsideBoot_state h fun _ _ _ => by split <;> exact h)
  case h_11 | h_15 | h_16 | h_19 =>
    refine h.serve (takeOutsideBoot_state h fun _ _ _ => ?_)
    split
    · exact h
    · split <;> exact kept rfl rfl rfl
  case h_12 =>
    split
    · refine h.serve (takeAlways_state h fun _ _ => ?_)
      split_ifs <;> exact kept rfl rfl rfl
    · exact h.serve (takeOutsideBoot_state h fun _ _ _ => h)
  case h_13 | h_14 =>
    split
    · exact h.serve (takeOutsideBoot_state h fun _ _ _ => kept rfl rfl rfl)
    · exact h.serve (takeOutsideBoot_state h fun _ _ _ => by split <;> exact h)
  case h_17 | h_18 | h_20 => exact h.serve (takeOutsideBoot_state h fun _ _ _ => by split <;> exact kept rfl rfl rfl)
  case h_21 =>
    refine h.serve (takeOutsideBoot_state h fun _ _ _ => (h.congr (s.endCheck_sameHeld .abort)).congr ?_)
    exact .of_channels rfl rfl rfl
  case h_22 | h_23 | h_24 | h_25 => exact h.serve (takeOutsideBoot_state h fun _ _ _ => h)
  case h_26 | h_27 => exact h.serve (takeAlways_state h fun _ _ => by split <;> exact kept rfl rfl rfl)

/-! ### Boundaries (R48) -/

/-- The rows that bring a channel into SETTLING with a fresh second in formation (R40). -/
def Row.opensAfresh : Row → Bool
  | .enabled | .remapped | .coefChange | .restart => true
  | _ => false

theorem Row.opensAfresh_effect {r : Row} (h : r.opensAfresh = true) (st : ChannelState) (f : Option SecondForming) :
    r.state st = .settling ∧ formingAfter r f = some SecondForming.empty := by
  cases r with
  | enabled | remapped | coefChange | restart => exact ⟨rfl, rfl⟩
  | _ => cases h

/-- Every other row but row 1 leaves the second in formation, and a channel that is not OFF stays so. -/
theorem Row.continues_effect {r : Row} (hd : r ≠ .disabled) (h : r.opensAfresh = false) {st : ChannelState}
    (hst : st ≠ .off) (f : Option SecondForming) : r.state st ≠ .off ∧ formingAfter r f = f := by
  cases r with
  | enabled | remapped | coefChange | restart => cases h
  | disabled => exact absurd rfl hd
  | kept => exact ⟨hst, rfl⟩
  | _ => exact ⟨nofun, rfl⟩

section
variable {s : State} {b : Bool} {c : Chan}

/-- Rows 1 to 4 by the entries that meet at the boundary. -/
theorem disturbance_some {old new : ChannelEntry} {affected : Bool} {st : ChannelState} {r : Row}
    (h : disturbance old new affected st = some r) :
    (r = .disabled ∧ new.enabled = false) ∨ (r.opensAfresh = true ∧ new.enabled = true) := by
  unfold disturbance at h
  split_ifs at h with h1 h2 h3 h4 <;> cases h <;> simp_all [Row.opensAfresh]

theorem disturbance_none {old new : ChannelEntry} {affected : Bool} {st : ChannelState}
    (h : disturbance old new affected st = none) : new.enabled = old.enabled := by
  unfold disturbance at h
  cases ho : old.enabled <;> cases hn : new.enabled <;> simp_all

/-- What a boundary's row finds and does: it disables; or opens afresh; or continues a channel that is not OFF; or keeps
one that is (R48). -/
theorem State.rowAt_cases (hlaw : s.channelLaw) :
    (s.rowAt b c = .disabled ∧ (s.opening b).router.active.channels[c].enabled = false)
    ∨ ((s.rowAt b c).opensAfresh = true ∧ (s.opening b).router.active.channels[c].enabled = true)
    ∨ (s.rowAt b c ≠ .disabled ∧ (s.rowAt b c).opensAfresh = false ∧ s.channels[c].cond.state ≠ .off
        ∧ (s.opening b).router.active.channels[c].enabled = true)
    ∨ (s.rowAt b c = .kept ∧ s.channels[c].cond.state = .off
        ∧ (s.opening b).router.active.channels[c].enabled = false) := by
  cases hd : s.disturbed (s.opening b) c with
  | some r =>
    rw [State.rowAt_disturbed hd]
    exact (disturbance_some (State.disturbed_eq ▸ hd)).imp_right .inl
  | none =>
    have hen := disturbance_none (State.disturbed_eq ▸ hd)
    obtain ⟨hstate, hidle, -⟩ := hlaw c
    by_cases hoff : s.channels[c].cond.state = .off
    · have hrow : s.rowAt b c = if s.control.restarted && (s.opening b).router.active.channels[c].enabled then .restart
          else .kept := by
        rw [State.rowAt_eq, hd, State.closedSlices_get, (hidle hoff).1]
        exact decideRow_unsliced
      cases hnew : (s.opening b).router.active.channels[c].enabled with
      | false => exact .inr (.inr (.inr ⟨by rw [hrow, hnew, Bool.and_false]; rfl, hoff, rfl⟩))
      | true =>
        have hrestarted : s.control.restarted = true :=
          (hstate.mp hoff).resolve_left (by rw [← hen, hnew]; nofun)
        exact .inr (.inl ⟨by rw [hrow, hnew, hrestarted]; rfl, rfl⟩)
    · have hon : (s.opening b).router.active.channels[c].enabled = true := by
        rw [hen]
        exact by_contra fun h => hoff (hstate.mpr (.inl (Bool.eq_false_iff.mpr h)))
      obtain ⟨-, -, hdis⟩ := State.rowAt_undisturbed hd
      cases ho : (s.rowAt b c).opensAfresh with
      | true => exact .inr (.inl ⟨rfl, hon⟩)
      | false => exact .inr (.inr (.inl ⟨hdis, rfl, hoff, hon⟩))

/-- A channel that is not OFF after a boundary, with a second in formation, opens its slice in its state (R29, R40). -/
theorem State.turnedChannel_served (hon : (s.turnedChannel b c).cond.state ≠ .off)
    (hforming : (s.turnedChannel b c).forming.isSome = true) :
    (s.turnedChannel b c).Lawful False where
  state := iff_false_intro hon
  idle h := absurd h hon
  served _ := ⟨by rw [State.turnedChannel_slice, if_neg hon]; rfl, hforming⟩

/-- A channel that the map disables goes OFF, and its history with it (R11, R46, R85). -/
theorem State.turnedChannel_disabled (h : s.rowAt b c = .disabled) : (s.turnedChannel b c).Lawful True := by
  have hoff : (s.turnedChannel b c).cond.state = .off := by rw [State.turnedChannel_state, h]; rfl
  refine ⟨iff_true_intro hoff, fun _ => ⟨?_, ?_, ?_, ?_, ?_⟩, fun hn => absurd hoff hn⟩
  · rw [State.turnedChannel_slice, if_pos hoff]
  · rw [State.turnedChannel_forming, h]; rfl
  · rw [State.turnedChannel_latestSlice, if_pos h]
  · rw [State.turnedChannel_latestSecond, h]; rfl
  · rw [State.turnedChannel_ring, h]; rfl

/-- A channel kept in OFF forms nothing, and holds nothing still. -/
theorem State.turnedChannel_keptOff (hlaw : s.channelLaw) (h : s.rowAt b c = .kept)
    (hoff : s.channels[c].cond.state = .off) : (s.turnedChannel b c).Lawful True := by
  obtain ⟨hslice, hforming, hlatest, hsecond, hring⟩ := (hlaw c).2.1 hoff
  have hunclosed : s.closedSlices[c] = none := by rw [State.closedSlices_get, hslice]; rfl
  have hclosed : s.closedSecond b c = none := by
    cases b with
    | false => exact s.closedSecond_false c
    | true => rw [State.closedSecond_true, hunclosed, h]; exact congrArg (Option.map _) hforming
  have hstate : (s.turnedChannel b c).cond.state = .off := by rw [State.turnedChannel_state, h]; exact hoff
  refine ⟨iff_true_intro hstate, fun _ => ⟨?_, ?_, ?_, ?_, ?_⟩, fun hn => absurd hstate hn⟩
  · rw [State.turnedChannel_slice, if_pos hstate]
  · rw [State.turnedChannel_forming, h, hclosed, hunclosed]; exact hforming
  · rw [State.turnedChannel_latestSlice, h, hunclosed]; exact hlatest
  · rw [State.turnedChannel_latestSecond, h, hclosed]; exact hsecond
  · rw [State.turnedChannel_ring, h, hclosed]; exact hring

/-- A channel in service keeps a second in formation, the one that closes giving way to an empty one (R40). -/
theorem State.turnedChannel_continues (hlaw : s.channelLaw) (hd : s.rowAt b c ≠ .disabled)
    (ho : (s.rowAt b c).opensAfresh = false) (hon : s.channels[c].cond.state ≠ .off) :
    (s.turnedChannel b c).Lawful False := by
  have hforming := ((hlaw c).2.2 hon).2
  obtain ⟨hstate, hkept⟩ := Row.continues_effect hd ho hon
    ((s.closedSecond b c).elim (s.channels[c].recorded s.closedSlices[c]).forming fun _ => some SecondForming.empty)
  refine State.turnedChannel_served (by rwa [State.turnedChannel_state]) ?_
  rw [State.turnedChannel_forming, hkept]
  cases s.closedSecond b c with
  | some x => rfl
  | none =>
    rw [Channel.recorded_frame]
    cases s.closedSlices[c] with
    | none => exact hforming
    | some r => exact (Option.isSome_map ..).trans hforming

/-- A boundary gives every channel the state of its entry and spends the mark of a RESTART (R48, R49). -/
theorem State.channelLaw.boundary (b : Bool) (h : s.channelLaw) : (s.boundary b).channelLaw := by
  rw [State.channelLaw_iff]
  intro c
  have hframe : (s.turnedChannel b c).SameHeld (s.boundary b).channels[c] := by
    rw [State.boundary_channel_frame]
    exact ⟨rfl, rfl, rfl, rfl, rfl, rfl⟩
  have hmark : (s.boundary b).control.restarted = false := by
    rw [State.boundary_control]; split <;> rfl
  have hoff : (s.boundary b).holdsOff c ↔ (s.opening b).router.active.channels[c].enabled = false := by
    rw [State.holdsOff, State.boundary_router, hmark]
    simp
  rw [propext hoff]
  refine Channel.Lawful.congr ?_ hframe
  rcases State.rowAt_cases (b := b) (c := c) h with ⟨hrow, hen⟩ | ⟨hrow, hen⟩ | ⟨hrow, hcont, hst, hen⟩ | ⟨hrow, hst, hen⟩
  · rw [eq_true hen]
    exact State.turnedChannel_disabled hrow
  · rw [hen, Bool.true_eq_false]
    have heffect := fun st f => Row.opensAfresh_effect hrow st f
    exact State.turnedChannel_served (by rw [State.turnedChannel_state, (heffect _ none).1]; nofun)
      (by rw [State.turnedChannel_forming, (heffect .off _).2]; rfl)
  · rw [hen, Bool.true_eq_false]
    exact State.turnedChannel_continues h hrow hcont hst
  · rw [eq_true hen]
    exact State.turnedChannel_keptOff h hrow hst

end

/-! ### Frame periods, the boot image and cells -/

theorem State.channelLaw.advance {s : State} (h : s.channelLaw) : s.advance.channelLaw := by
  unfold State.advance
  dsimp only
  split
  · exact h.congr (.of_channels rfl rfl rfl)
  · exact State.channelLaw.boundary _ (h.congr (.of_channels rfl rfl rfl))

theorem State.channelLaw.countRuns {s : State} (good : Bool) (h : s.channelLaw) : (s.countRuns good).channelLaw := by
  unfold State.countRuns
  dsimp only
  split_ifs
  · exact (h.congr s.loseLink_sameHeld).congr (.of_channels rfl rfl rfl)
  · exact State.channelLaw.congr (s := { s with time := s.time.countPeriod good }) h (State.regainLink_sameHeld _)
  · exact h.congr (.of_channels rfl rfl rfl)

/-- The end of the load touches tables, time and mode, and no channel (R190). -/
theorem State.endLoad_sameHeld (s : State) (m : MemoryRead) : SameHeld s (s.endLoad m) := by
  unfold State.endLoad
  dsimp only
  split
  · exact .of_channels rfl rfl rfl
  · split <;> exact .of_channels rfl rfl rfl

theorem State.spoil_sameHeld (s : State) (bytes : List Byte) (f : CellFault) : SameHeld s (s.spoil bytes f) := by
  unfold State.spoil
  split
  · exact .of_channels rfl rfl rfl
  · split <;> exact .of_channels rfl rfl rfl

theorem State.channelLaw.takeCell {s : State} (cell : Cell) (h : s.channelLaw) : (s.takeCell cell).channelLaw := by
  have hup : ({ s with trunk := s.trunk.forwardUp cell } : State).channelLaw := h.congr (.of_channels rfl rfl rfl)
  unfold State.takeCell
  dsimp only
  split
  · split
    · exact h.serveCode _ _
    · exact h.congr (.of_channels rfl rfl rfl)
  · split
    · exact hup.serveCode _ _
    · exact h.congr (.of_channels rfl rfl rfl)
  · exact hup

theorem State.channelLaw.receiveCell {s : State} (bytes : List Byte) (h : s.channelLaw) :
    (s.receiveCell bytes).channelLaw := by
  obtain ⟨u, hu, hr⟩ := s.receiveCell_cases bytes
  have hfirst : u.channelLaw := by
    rcases hu with rfl | ⟨arrived, rfl⟩
    · exact h
    · exact h.congr (s.spoil_sameHeld _ _)
  rcases hr with hr | ⟨p, hr⟩ | ⟨cell, hr⟩ <;> rw [hr]
  · exact (hfirst.congr (u.spoil_sameHeld _ _)).congr (.of_channels rfl rfl rfl)
  · exact hfirst.congr (.of_channels rfl rfl rfl)
  · exact State.channelLaw.takeCell (s := u.withParser .hunting) _ (hfirst.congr (.of_channels rfl rfl rfl))

/-! ### The step -/

/-- Every command keeps the law of the channels. -/
theorem exec_channelLaw {i : Instr} {s t : State} (h : s.channelLaw) (hi : exec i s = .next t) : t.channelLaw := by
  cases hc : codedRequest i with
  | some x =>
    rw [exec_coded hc] at hi
    obtain rfl := Host.Outcome.next.inj hi
    exact h.serveCode _ _
  | none =>
    cases i with
    | powerOn n =>
      obtain rfl := Host.Outcome.next.inj hi
      exact State.reset_channelLaw.congr (.of_channels rfl rfl rfl)
    | bootLoadEnd m =>
      change execBootLoadEnd m s = _ at hi
      unfold execBootLoadEnd at hi
      split at hi <;> obtain rfl := Host.Outcome.next.inj hi
      · exact h.congr (s.endLoad_sameHeld m)
      · exact h
    | sampleFrame f =>
      obtain rfl := Host.Outcome.next.inj hi
      have hcounted := h.advance.countRuns (goodFrame f)
      split
      · exact hcounted.congr (State.carryGood_sameHeld ..)
      · exact hcounted.congr (.of_channels rfl rfl rfl)
    | framePeriod =>
      obtain rfl := Host.Outcome.next.inj hi
      exact (h.advance.countRuns false).congr (.of_channels rfl rfl rfl)
    | linkLoss =>
      change execLinkLoss s = _ at hi
      unfold execLinkLoss at hi
      split at hi <;> obtain rfl := Host.Outcome.next.inj hi
      · exact h.congr s.loseLink_sameHeld
      · exact h
    | linkRestoration =>
      change execLinkRestoration s = _ at hi
      unfold execLinkRestoration at hi
      split at hi <;> obtain rfl := Host.Outcome.next.inj hi
      · exact h.congr s.regainLink_sameHeld
      · exact h
    | sliceBoundary =>
      obtain rfl := Host.Outcome.next.inj hi
      exact (h.boundary _).congr (.of_channels rfl rfl rfl)
    | secondBoundary =>
      change execSecondBoundary s = _ at hi
      unfold execSecondBoundary at hi
      split at hi <;> obtain rfl := Host.Outcome.next.inj hi
      · exact h.congr (.of_channels rfl rfl rfl)
      · exact h.boundary true
    | intervalTimerExpiry c =>
      change execIntervalTimerExpiry c s = _ at hi
      unfold execIntervalTimerExpiry at hi
      split at hi <;> obtain rfl := Host.Outcome.next.inj hi
      · exact h.congr ((s.set_account_sameHeld c _).trans (State.emit_sameHeld ..))
      · exact h
    | controlCell bytes => obtain rfl := Host.Outcome.next.inj hi; exact h.receiveCell _
    | cellTimeout arrived mark =>
      obtain rfl := Host.Outcome.next.inj hi
      exact (h.congr (s.spoil_sameHeld _ _)).congr (.of_channels rfl rfl rfl)
    | cellLengthFault arrived =>
      obtain rfl := Host.Outcome.next.inj hi
      exact (h.congr (s.spoil_sameHeld _ _)).congr (.of_channels rfl rfl rfl)
    | passThroughCell cell => obtain rfl := Host.Outcome.next.inj hi; exact h.congr (.of_channels rfl rfl rfl)
    | forwardCellWindow => obtain rfl := Host.Outcome.next.inj hi; exact h.congr (.of_channels rfl rfl rfl)
    | returnLaneSend => obtain rfl := Host.Outcome.next.inj hi; exact h.congr (.of_channels rfl rfl rfl)
    | _ => cases hc

/-- Settles O56: every command keeps the law of the channels, and an idle step changes nothing. -/
theorem channelsHoldTheirState : Obligations.ChannelsHoldTheirState := by
  intro s t hlaw h
  unfold step at h
  split at h
  · obtain rfl := Host.Outcome.next.inj h
    exact hlaw
  · rename_i rest _
    exact exec_channelLaw (s := { s with pending := rest }) (hlaw.congr (.of_channels rfl rfl rfl)) h

end Sys2Proof.Machine
end

section
/-! SUPPORT. Enclosures in fixed point against the real numbers, and the level of an intensity; O43 (R34, R35, R43). -/
namespace Sys2Proof.Machine

/-! ### Enclosures -/

/-- A pair of whole numbers encloses a real number at `p` bits. -/
structure Encloses (p : Nat) (b : Nat × Nat) (x : ℝ) : Prop where
  low : (b.1 : ℝ) ≤ 2 ^ p * x
  high : 2 ^ p * x ≤ (b.2 : ℝ)

section
variable {p : Nat} {a b : Nat × Nat} {x y : ℝ}

theorem Encloses.scaled_nonneg (h : Encloses p b x) : 0 ≤ 2 ^ p * x := (Nat.cast_nonneg _).trans h.low

/-- The number 1, exactly. -/
theorem encloses_one : Encloses p (2 ^ p, 2 ^ p) 1 := by constructor <;> simp

/-- The product of two enclosures: the lower end rounded down, the upper end up. -/
theorem mulBounds_encloses (ha : Encloses p a x) (hb : Encloses p b y) : Encloses p (mulBounds p a b) (x * y) := by
  have hp : (0 : ℝ) < 2 ^ p := by positivity
  have hxy : 2 ^ p * (x * y) = 2 ^ p * x * (2 ^ p * y) / 2 ^ p := by field_simp
  refine ⟨?_, ?_⟩ <;> rw [hxy]
  · calc ((a.1 * b.1 / 2 ^ p : ℕ) : ℝ) ≤ ((a.1 * b.1 : ℕ) : ℝ) / ((2 ^ p : ℕ) : ℝ) := Nat.cast_div_le
      _ = (a.1 : ℝ) * b.1 / 2 ^ p := by push_cast; rfl
      _ ≤ 2 ^ p * x * (2 ^ p * y) / 2 ^ p :=
        div_le_div_of_nonneg_right (mul_le_mul ha.low hb.low (Nat.cast_nonneg _) ha.scaled_nonneg) hp.le
  · rw [div_le_iff₀ hp]
    have hfloor : a.2 * b.2 ≤ (a.2 * b.2 / 2 ^ p + 1) * 2 ^ p := by
      rw [Nat.add_one_mul]
      exact (Nat.lt_div_mul_add (by positivity)).le
    calc 2 ^ p * x * (2 ^ p * y) ≤ (a.2 : ℝ) * b.2 := mul_le_mul ha.high hb.high hb.scaled_nonneg (Nat.cast_nonneg _)
      _ ≤ ((a.2 * b.2 / 2 ^ p + 1 : ℕ) : ℝ) * 2 ^ p := by exact_mod_cast hfloor

end

/-- The power by squaring encloses `y * x^e`. -/
theorem powBounds_encloses {p : Nat} : ∀ {fuel e : Nat} {base acc : Nat × Nat} {x y : ℝ}, e < 2 ^ fuel →
    Encloses p base x → Encloses p acc y → Encloses p (powBounds p fuel e base acc) (y * x ^ e)
  | 0, e, _, _, x, y, he, _, hacc => by
    obtain rfl : e = 0 := by simpa using he
    simpa [powBounds] using hacc
  | fuel + 1, e, _, _, x, y, he, hbase, hacc => by
    have hsplit : x ^ e = x ^ (e % 2) * (x * x) ^ (e / 2) := by
      rw [← pow_two, ← pow_mul, ← pow_add, Nat.mod_add_div]
    have hhalf : e / 2 < 2 ^ fuel := by rw [pow_succ] at he; omega
    rw [powBounds, hsplit, ← mul_assoc]
    refine powBounds_encloses hhalf (mulBounds_encloses hbase hbase) ?_
    rcases Nat.mod_two_eq_zero_or_one e with h | h
    · simpa [h] using hacc
    · simpa [h] using mulBounds_encloses hacc hbase

/-- What the `n`-th powers say of a fixed-point root of 10. -/
theorem encloses_root {p r n : Nat} (hn : n ≠ 0) (hl : r ^ n ≤ 10 * 2 ^ (n * p)) (hu : 10 * 2 ^ (n * p) < (r + 1) ^ n) :
    Encloses p (r, r + 1) ((10 : ℝ) ^ ((1 : ℝ) / n)) := by
  have hscaled : (2 ^ p * (10 : ℝ) ^ ((1 : ℝ) / n)) ^ n = 10 * 2 ^ (n * p) := by
    rw [mul_pow, one_div, Real.rpow_inv_natCast_pow (by norm_num) hn, ← pow_mul, mul_comm p, mul_comm]
  constructor
  · refine le_of_pow_le_pow_left₀ hn (by positivity) ?_
    rw [hscaled]
    exact_mod_cast hl
  · refine le_of_pow_le_pow_left₀ hn (by positivity) ?_
    rw [hscaled]
    exact_mod_cast hu.le

/-- `root256` encloses `10^(1/2000)` at 256 bits. -/
theorem encloses_root256 : Encloses 256 (root256, root256 + 1) ((10 : ℝ) ^ ((1 : ℝ) / 2000)) := by
  have h := encloses_root (by decide) root256_pow_le lt_succ_root256_pow
  rwa [Nat.cast_ofNat] at h

/-- An enclosure of `10^(e/2000)` from one of its root. -/
theorem tenPower_encloses {p root : Nat} (h : Encloses p (root, root + 1) ((10 : ℝ) ^ ((1 : ℝ) / 2000))) (e : Nat) :
    Encloses p (tenPower p root e) ((10 : ℝ) ^ ((e : ℝ) / 2000)) := by
  have hb := powBounds_encloses (fuel := 11) (e := e % 2000) (by omega) h encloses_one
  have hvalue : (10 : ℝ) ^ ((e : ℝ) / 2000) = 1 * ((10 : ℝ) ^ ((1 : ℝ) / 2000)) ^ (e % 2000) * 10 ^ (e / 2000) := by
    have he : (e : ℝ) / 2000 = 1 / 2000 * ((e % 2000 : ℕ) : ℝ) + ((e / 2000 : ℕ) : ℝ) := by
      have hdiv : (e : ℝ) = ((e % 2000 : ℕ) : ℝ) + 2000 * ((e / 2000 : ℕ) : ℝ) := by
        exact_mod_cast (Nat.mod_add_div e 2000).symm
      linarith
    rw [he, Real.rpow_add (by norm_num), Real.rpow_mul (by norm_num), Real.rpow_natCast, Real.rpow_natCast, one_mul]
  obtain ⟨hlow, hhigh⟩ := hb
  have ht : (0 : ℝ) ≤ 10 ^ (e / 2000) := by positivity
  constructor <;> rw [hvalue, ← mul_assoc]
  · calc (((tenPower p root e).1 : ℕ) : ℝ)
        = ((powBounds p 11 (e % 2000) (root, root + 1) (2 ^ p, 2 ^ p)).1 : ℝ) * 10 ^ (e / 2000) := by
          simp only [tenPower]; push_cast; rfl
      _ ≤ _ := mul_le_mul_of_nonneg_right hlow ht
  · calc _ ≤ ((powBounds p 11 (e % 2000) (root, root + 1) (2 ^ p, 2 ^ p)).2 : ℝ) * 10 ^ (e / 2000) :=
          mul_le_mul_of_nonneg_right hhigh ht
      _ = (((tenPower p root e).2 : ℕ) : ℝ) := by simp only [tenPower]; push_cast; rfl

/-! ### Enclosures of intensities -/

/-- A pair of integers encloses a real number at `p` bits. -/
structure EnclosesInt (p : Nat) (b : Int × Int) (x : ℝ) : Prop where
  low : (b.1 : ℝ) ≤ 2 ^ p * x
  high : 2 ^ p * x ≤ (b.2 : ℝ)

/-- The integer below a fraction of integers, and the next one above it. -/
theorem floor_div_bounds (n : Int) {d : Nat} (hd : 0 < d) :
    ((n / (d : Int) : Int) : ℝ) ≤ (n : ℝ) / d ∧ (n : ℝ) / d ≤ ((n / (d : Int) + 1 : Int) : ℝ) := by
  have hd' : (0 : ℝ) < d := by exact_mod_cast hd
  have hz : (0 : Int) < d := by exact_mod_cast hd
  rw [le_div_iff₀ hd', div_le_iff₀ hd']
  exact ⟨by exact_mod_cast Int.ediv_mul_le n hz.ne', by exact_mod_cast (Int.lt_ediv_add_one_mul_self n hz).le⟩

/-- The ends of a rational multiple of an enclosed number, by the sign of its numerator. -/
def scaledBounds (q : Rat) (b : Nat × Nat) : Int × Int :=
  if 0 ≤ q.num then (q.num * b.1 / q.den, q.num * b.2 / q.den + 1) else (q.num * b.2 / q.den, q.num * b.1 / q.den + 1)

theorem scaledBounds_encloses {p : Nat} {b : Nat × Nat} {x : ℝ} (h : Encloses p b x) (q : Rat) :
    EnclosesInt p (scaledBounds q b) (q * x) := by
  obtain ⟨hlow, hhigh⟩ := h
  have hd : (0 : ℝ) < q.den := by exact_mod_cast q.den_pos
  have hq : 2 ^ p * ((q : ℝ) * x) = q.num * (2 ^ p * x) / q.den := by
    rw [Rat.cast_def]
    ring
  have hfloor (k : Nat) := floor_div_bounds (q.num * (k : Int)) q.den_pos
  simp only [Int.cast_mul, Int.cast_natCast] at hfloor
  unfold scaledBounds
  split
  · rename_i hn
    have hn' : (0 : ℝ) ≤ q.num := by exact_mod_cast hn
    constructor <;> rw [hq]
    · exact (hfloor b.1).1.trans (by gcongr)
    · exact le_trans (by gcongr) (hfloor b.2).2
  · rename_i hn
    have hn' : (q.num : ℝ) ≤ 0 := by exact_mod_cast (not_le.mp hn).le
    constructor <;> rw [hq]
    · exact (hfloor b.2).1.trans (div_le_div_of_nonneg_right (mul_le_mul_of_nonpos_left hhigh hn') hd.le)
    · exact (div_le_div_of_nonneg_right (mul_le_mul_of_nonpos_left hlow hn') hd.le).trans (hfloor b.1).2

theorem intensityValue_append (a : Intensity) (t : Nat × Rat) :
    intensityValue (a ++ [t]) = intensityValue a + t.2 * (10 : ℝ) ^ ((t.1 : ℝ) / 1000) := by
  simp [intensityValue]

/-- A term adds the ends of its own enclosure. -/
theorem intensityBounds_append (p root : Nat) (a : Intensity) (t : Nat × Rat) :
    intensityBounds p root (a ++ [t]) =
      ((intensityBounds p root a).1 + (scaledBounds t.2 (tenPower p root (2 * t.1))).1,
        (intensityBounds p root a).2 + (scaledBounds t.2 (tenPower p root (2 * t.1))).2) := by
  unfold intensityBounds scaledBounds
  rw [List.foldl_append, List.foldl_cons, List.foldl_nil]
  dsimp only
  split <;> simp only [add_assoc]

/-- The enclosure of an intensity encloses the real number it stands for. -/
theorem intensityBounds_encloses {p root : Nat} (h : Encloses p (root, root + 1) ((10 : ℝ) ^ ((1 : ℝ) / 2000)))
    (a : Intensity) : EnclosesInt p (intensityBounds p root a) (intensityValue a) := by
  induction a using List.reverseRecOn with
  | nil => constructor <;> simp [intensityBounds, intensityValue]
  | append_singleton a t ih =>
    have hexp : ((2 * t.1 : ℕ) : ℝ) / 2000 = (t.1 : ℝ) / 1000 := by push_cast; ring
    obtain ⟨hlow, hhigh⟩ := scaledBounds_encloses (tenPower_encloses h (2 * t.1)) t.2
    rw [hexp] at hlow hhigh
    rw [intensityBounds_append, intensityValue_append]
    constructor <;> rw [mul_add, Int.cast_add]
    · exact add_le_add ih.low hlow
    · exact add_le_add ih.high hhigh

/-! ### Comparisons (R34) -/

/-- The boundary below the level `c`, in the real numbers: half a step of 0.01 dB below it (R34). -/
noncomputable def levelBoundary (c : Nat) : ℝ := (10 : ℝ) ^ ((2 * (c : ℝ) - 1) / 2000)

/-- The power that the comparison encloses is ten times the boundary. -/
theorem levelBoundary_ten (c : Nat) : (10 : ℝ) ^ (((2 * c + 1999 : ℕ) : ℝ) / 2000) = 10 * levelBoundary c := by
  have he : ((2 * c + 1999 : ℕ) : ℝ) / 2000 = 1 + (2 * (c : ℝ) - 1) / 2000 := by push_cast; ring
  rw [he, Real.rpow_add (by norm_num), Real.rpow_one, levelBoundary]

theorem compareAt_eq (a : Intensity) (c : Nat) : compareAt 256 a c =
    if ((tenPower 256 root256 (2 * c + 1999)).2 : Int) < 10 * (intensityBounds 256 root256 a).1 then some true
    else if 10 * (intensityBounds 256 root256 a).2 < ((tenPower 256 root256 (2 * c + 1999)).1 : Int) then some false
    else none := by
  simp [compareAt, rootFloor]

/-- What 256 bits decide is so in the real numbers. -/
theorem compareAt_sound {a : Intensity} {c : Nat} :
    (compareAt 256 a c = some true → levelBoundary c < intensityValue a)
    ∧ (compareAt 256 a c = some false → intensityValue a ≤ levelBoundary c) := by
  have hp : (0 : ℝ) < 2 ^ 256 := by positivity
  obtain ⟨hvlow, hvhigh⟩ := intensityBounds_encloses encloses_root256 a
  obtain ⟨htlow, hthigh⟩ := tenPower_encloses encloses_root256 (2 * c + 1999)
  rw [levelBoundary_ten] at htlow hthigh
  rw [compareAt_eq]
  split_ifs with habove hbelow
  · refine ⟨fun _ => ?_, nofun⟩
    have habove' : ((tenPower 256 root256 (2 * c + 1999)).2 : ℝ) < 10 * ((intensityBounds 256 root256 a).1 : ℝ) := by
      exact_mod_cast habove
    refine lt_of_mul_lt_mul_left ?_ hp.le
    linarith
  · refine ⟨nofun, fun _ => ?_⟩
    have hbelow' : 10 * ((intensityBounds 256 root256 a).2 : ℝ) < ((tenPower 256 root256 (2 * c + 1999)).1 : ℝ) := by
      exact_mod_cast hbelow
    refine le_of_mul_le_mul_left ?_ hp
    linarith
  · exact ⟨nofun, nofun⟩

/-- A comparison that 256 bits decide is decided there. -/
theorem exceeds_decided {a : Intensity} {c : Nat} (h : (compareAt 256 a c).isSome = true) :
    compareAt 256 a c = some (exceeds a c) := by
  obtain ⟨b, hb⟩ := Option.isSome_iff_exists.mp h
  have hfuel : doublings a = (doublings a - 1) + 1 := by unfold doublings; omega
  rw [exceeds, hfuel, exceedsFrom, hb]

/-! ### The search (R34) -/

/-- Halving ends at a level whose lower boundary is exceeded, and whose upper one is not, short of the end. -/
theorem levelSearch_spec (a : Intensity) (top : Nat) : ∀ (fuel lo hi : Nat), lo < hi → hi ≤ lo + 2 ^ fuel → hi ≤ top →
    exceeds a lo = true → (hi < top → exceeds a hi = false) →
      levelSearch a fuel lo hi < top ∧ exceeds a (levelSearch a fuel lo hi) = true
        ∧ (levelSearch a fuel lo hi + 1 < top → exceeds a (levelSearch a fuel lo hi + 1) = false)
  | 0, lo, hi, hlt, hfuel, htop, hlo, hhi => by
    obtain rfl : hi = lo + 1 := by rw [pow_zero] at hfuel; omega
    exact ⟨htop, hlo, hhi⟩
  | fuel + 1, lo, hi, hlt, hfuel, htop, hlo, hhi => by
    rw [pow_succ] at hfuel
    unfold levelSearch
    dsimp only
    split
    · rename_i hm
      exact levelSearch_spec a top fuel _ hi (by omega) (by omega) htop hm hhi
    · rename_i hm
      by_cases hmid : lo < (lo + hi) / 2
      · exact levelSearch_spec a top fuel lo _ hmid (by omega) (by omega) hlo fun _ => Bool.eq_false_iff.mpr hm
      · obtain hself : (lo + hi) / 2 = lo := by omega
        exact absurd hlo (hself ▸ hm)

/-! ### O43 -/

/-- Settles O43: what 256 bits decide holds in the real numbers, and the search ends between two boundaries. -/
theorem levelsRoundToNearestStep : Obligations.LevelsRoundToNearestStep := by
  intro a hdecided l boundary
  have hboundary (c : Nat) : boundary (2 * (c : Int) - 1) = levelBoundary c := by
    simp only [boundary, levelBoundary]
    push_cast
    rfl
  have hbelow (c : Nat) (hc : c ≤ 20000) (he : exceeds a c = true) : boundary (2 * (c : Int) - 1) < intensityValue a := by
    rw [hboundary]
    exact compareAt_sound.1 (he ▸ exceeds_decided (hdecided c hc))
  have habove (c : Nat) (hc : c ≤ 20000) (he : exceeds a c = false) : intensityValue a ≤ boundary (2 * (c : Int) - 1) := by
    rw [hboundary]
    exact compareAt_sound.2 (he ▸ exceeds_decided (hdecided c hc))
  cases h0 : exceeds a 0 with
  | false =>
    have hl : l = (0, true) := by simp only [l, levelOf, h0, Bool.false_eq_true, if_false]
    rw [hl]
    exact ⟨Nat.zero_le _, iff_of_true rfl (habove 0 (Nat.zero_le _) h0), fun _ => rfl, nofun⟩
  | true =>
    obtain ⟨htop, hlow, hhigh⟩ := levelSearch_spec a 20000 15 0 20000 (by omega) (by norm_num) le_rfl h0
      (fun h => absurd h (lt_irrefl _))
    have hl : l = (levelSearch a 15 0 20000, false) := by simp only [l, levelOf, h0, if_true]
    rw [hl]
    refine ⟨Nat.le_of_lt_succ htop, iff_of_false nofun (not_le.mpr (hbelow 0 (Nat.zero_le _) h0)), nofun, fun _ => ?_⟩
    refine ⟨hbelow _ htop.le hlow, fun hlt => ?_⟩
    have hnext := habove (levelSearch a 15 0 20000 + 1) htop (hhigh (Nat.succ_lt_succ hlt))
    convert hnext using 2
    push_cast
    ring

end Sys2Proof.Machine
end

section
/-! SUPPORT. Exact intensities by their coefficients, and the two ways to exclude a second; O48 (R43, R103, R105). -/
namespace Sys2Proof.Machine

/-! ### Coefficients (R43) -/

/-- The coefficient of `10^(n/1000)` in an intensity. -/
def coefficient : Intensity → Nat → Rat
  | [], _ => 0
  | t :: rest, n => (if t.1 = n then t.2 else 0) + coefficient rest n

theorem coefficient_addTerm (r : Nat) (q : Rat) (a : Intensity) (n : Nat) :
    coefficient (addTerm r q a) n = (if r = n then q else 0) + coefficient a n := by
  induction a with
  | nil =>
    unfold addTerm
    split
    · simp_all
    · rfl
  | cons t rest ih =>
    unfold addTerm
    split
    · split
      · simp [‹q = 0›]
      · rfl
    · split
      · rename_i heq
        rw [coefficient, ← heq, ← add_assoc]
        split
        · rename_i hzero
          split_ifs <;> simp [hzero]
        · rw [coefficient]
          split_ifs <;> simp
      · rw [coefficient, coefficient, ih]
        ring

theorem coefficient_addIntensity (a b : Intensity) (n : Nat) :
    coefficient (addIntensity a b) n = coefficient a n + coefficient b n := by
  unfold addIntensity
  induction a generalizing b with
  | nil => exact (zero_add _).symm
  | cons t rest ih =>
    rw [List.foldl_cons, ih, coefficient_addTerm, coefficient]
    ring

theorem coefficient_negated (a : Intensity) (n : Nat) : coefficient (scaleIntensity (-1) a) n = -coefficient a n := by
  rw [scaleIntensity, if_neg (by decide)]
  induction a with
  | nil => rfl
  | cons t rest ih =>
    rw [List.map_cons, coefficient, ih, coefficient]
    split_ifs <;> ring

theorem coefficient_subIntensity (a b : Intensity) (n : Nat) :
    coefficient (subIntensity a b) n = coefficient a n - coefficient b n := by
  rw [subIntensity, coefficient_addIntensity, coefficient_negated]
  ring

/-- Below its residues an intensity has no coefficient. -/
theorem coefficient_below {a : Intensity} {n : Nat} (h : ∀ x ∈ a.map (·.1), n < x) : coefficient a n = 0 := by
  induction a with
  | nil => rfl
  | cons t rest ih =>
    rw [List.map_cons, List.forall_mem_cons] at h
    rw [coefficient, if_neg h.1.ne', ih h.2, add_zero]

theorem canonicalIntensity_cons {t : Nat × Rat} {rest : Intensity} (h : canonicalIntensity (t :: rest)) :
    (∀ x ∈ rest.map (·.1), t.1 < x) ∧ t.2 ≠ 0 ∧ canonicalIntensity rest ∧ coefficient (t :: rest) t.1 = t.2 := by
  obtain ⟨hrise, hterms⟩ := h
  rw [List.map_cons, List.pairwise_cons] at hrise
  rw [List.forall_mem_cons] at hterms
  refine ⟨hrise.1, hterms.1.2, ⟨hrise.2, hterms.2⟩, ?_⟩
  rw [coefficient, if_pos rfl, coefficient_below hrise.1, add_zero]

/-- Two intensities held in canonical form are one where their coefficients agree (log 5). -/
theorem canonicalIntensity_ext {a b : Intensity} (ha : canonicalIntensity a) (hb : canonicalIntensity b)
    (h : ∀ n, coefficient a n = coefficient b n) : a = b := by
  induction a generalizing b with
  | nil =>
    cases b with
    | nil => rfl
    | cons u rest =>
      obtain ⟨-, hu, -, hcoef⟩ := canonicalIntensity_cons hb
      exact absurd ((h u.1).trans hcoef).symm hu
  | cons t as ih =>
    obtain ⟨htbelow, ht, has, htcoef⟩ := canonicalIntensity_cons ha
    cases b with
    | nil => exact absurd (htcoef.symm.trans (h t.1)) ht
    | cons u bs =>
      obtain ⟨hubelow, hu, hbs, hucoef⟩ := canonicalIntensity_cons hb
      have hfirst : t.1 = u.1 := by
        rcases lt_trichotomy t.1 u.1 with hlt | heq | hlt
        · have hzero : coefficient (u :: bs) t.1 = 0 := coefficient_below (by
            rw [List.map_cons, List.forall_mem_cons]
            exact ⟨hlt, fun x hx => hlt.trans (hubelow x hx)⟩)
          exact absurd (htcoef.symm.trans ((h t.1).trans hzero)) ht
        · exact heq
        · have hzero : coefficient (t :: as) u.1 = 0 := coefficient_below (by
            rw [List.map_cons, List.forall_mem_cons]
            exact ⟨hlt, fun x hx => hlt.trans (htbelow x hx)⟩)
          exact absurd (hucoef.symm.trans ((h u.1).symm.trans hzero)) hu
      have hsecond : t.2 = u.2 := by rw [← htcoef, h, hfirst, hucoef]
      obtain rfl : t = u := Prod.ext hfirst hsecond
      rw [ih has hbs fun n => add_left_cancel (h n)]

/-- The difference of two intensities in canonical form has it. -/
theorem subIntensity_canonical {a b : Intensity} (ha : canonicalIntensity a) (hb : canonicalIntensity b) :
    canonicalIntensity (subIntensity a b) := by
  refine addIntensity_canonical ?_ ha
  obtain ⟨hrise, hterms⟩ := hb
  rw [scaleIntensity, if_neg (by decide)]
  refine ⟨by simpa [List.map_map, Function.comp_def] using hrise, fun t ht => ?_⟩
  obtain ⟨u, hu, rfl⟩ := List.mem_map.mp ht
  obtain ⟨hlt, hne⟩ := hterms u hu
  exact ⟨hlt, mul_ne_zero (by decide) hne⟩

/-! ### Two windows, of which one took a record that was excluded for the other (R103, R105) -/

/-- The window `w` has taken the record `r`, and the window `u` counts it as excluded; otherwise they have taken the same. -/
structure Window.TookMore (r : GroupSecond) (w u : Window) : Prop where
  expected : w.expected = u.expected
  data : w.data = u.data + r.data
  excluded : w.excluded + 8 = u.excluded
  onsets : w.onsets = u.onsets + r.onsets
  overload : w.overload = u.overload + r.overload
  canonical : canonicalIntensity w.sum ∧ canonicalIntensity u.sum
  sum : ∀ n, coefficient w.sum n = coefficient u.sum n + coefficient r.sum n

theorem Window.takeRecord_excluded (w : Window) {x : GroupSecond} (h : x.excluded = true) :
    w.takeRecord x = { w with expected := w.expected + 8, excluded := w.excluded + 8 } := if_pos h

theorem Window.takeRecord_included (w : Window) {x : GroupSecond} (h : x.excluded = false) : w.takeRecord x =
    { w with
      expected := w.expected + 8
      data := w.data + x.data
      sum := addIntensity w.sum x.sum
      onsets := w.onsets + x.onsets
      overload := w.overload + x.overload
      maxLevel := maxOption w.maxLevel x.maxLevel
      maxPeak := maxOption w.maxPeak x.maxPeak
      flags := { w.flags with suspect := w.flags.suspect || x.suspect, holdOver := w.flags.holdOver || x.holdOver } } :=
  if_neg (Bool.eq_false_iff.mp h)

/-- A window's sum stays in canonical form. -/
theorem Window.takeRecord_canonical {w : Window} {x : GroupSecond} (hw : canonicalIntensity w.sum)
    (hx : canonicalIntensity x.sum) : canonicalIntensity (w.takeRecord x).sum := by
  cases h : x.excluded with
  | true => rw [w.takeRecord_excluded h]; exact hw
  | false => rw [w.takeRecord_included h]; exact addIntensity_canonical hw hx

theorem Window.foldl_takeRecord_canonical {l : List GroupSecond} {w : Window} (hw : canonicalIntensity w.sum)
    (hl : ∀ x ∈ l, canonicalIntensity x.sum) : canonicalIntensity (l.foldl Window.takeRecord w).sum := by
  induction l generalizing w with
  | nil => exact hw
  | cons x rest ih =>
    rw [List.forall_mem_cons] at hl
    exact ih (Window.takeRecord_canonical hw hl.1) hl.2

/-- The record that one window takes and the other excludes. -/
theorem Window.tookMore_takeRecord {w : Window} {r : GroupSecond} (hr : r.excluded = false)
    (hw : canonicalIntensity w.sum) (hsum : canonicalIntensity r.sum) :
    Window.TookMore r (w.takeRecord r) (w.takeRecord { r with excluded := true }) := by
  rw [w.takeRecord_included hr, w.takeRecord_excluded rfl]
  exact ⟨rfl, rfl, rfl, rfl, rfl, ⟨addIntensity_canonical hw hsum, hw⟩, coefficient_addIntensity _ _⟩

/-- Any other record is taken, or excluded, by both. -/
theorem Window.TookMore.takeRecord {r x : GroupSecond} {w u : Window} (h : Window.TookMore r w u)
    (hx : canonicalIntensity x.sum) : Window.TookMore r (w.takeRecord x) (u.takeRecord x) := by
  obtain ⟨hexpected, hdata, hexcluded, honsets, hoverload, ⟨hw, hu⟩, hsum⟩ := h
  cases he : x.excluded with
  | true =>
    rw [w.takeRecord_excluded he, u.takeRecord_excluded he]
    refine ⟨?_, hdata, ?_, honsets, hoverload, ⟨hw, hu⟩, hsum⟩ <;> dsimp only <;> omega
  | false =>
    rw [w.takeRecord_included he, u.takeRecord_included he]
    refine ⟨?_, ?_, hexcluded, ?_, ?_, ⟨addIntensity_canonical hw hx, addIntensity_canonical hu hx⟩, fun n => ?_⟩
    case refine_5 =>
      rw [coefficient_addIntensity, coefficient_addIntensity, hsum]
      ring
    all_goals dsimp only; omega

theorem Window.TookMore.foldl_takeRecord {r : GroupSecond} {l : List GroupSecond} {w u : Window}
    (h : Window.TookMore r w u) (hl : ∀ x ∈ l, canonicalIntensity x.sum) :
    Window.TookMore r (l.foldl Window.takeRecord w) (l.foldl Window.takeRecord u) := by
  induction l generalizing w u with
  | nil => exact h
  | cons x rest ih =>
    rw [List.forall_mem_cons] at hl
    exact ih (h.takeRecord hl.1) hl.2

/-- Subtracting the record leaves the exact sum of the other window. -/
theorem Window.TookMore.subtract_sum {r : GroupSecond} {w u : Window} (h : Window.TookMore r w u)
    (hr : canonicalIntensity r.sum) : (w.subtract r).sum = u.sum :=
  canonicalIntensity_ext (subIntensity_canonical h.canonical.1 hr) h.canonical.2 fun n => by
    rw [Window.subtract, coefficient_subIntensity, h.sum, add_sub_cancel_right]

/-! ### O48 -/

/-- Settles O48: from the record on, one window has taken exactly that record more, which the subtraction takes back. -/
theorem retroactiveEqualsProspective : Obligations.RetroactiveEqualsProspective := by
  intro w before after r hw hall hr late early
  rw [List.forall_mem_append, List.forall_mem_cons] at hall
  obtain ⟨hbefore, hsum, hafter⟩ := hall
  have hmore := (Window.tookMore_takeRecord hr (Window.foldl_takeRecord_canonical hw hbefore) hsum).foldl_takeRecord hafter
  simp only [late, early, List.foldl_append, List.foldl_cons]
  refine ⟨hmore.expected, ?_, hmore.excluded, hmore.subtract_sum hsum, ?_, ?_, rfl⟩
  · exact Nat.sub_eq_of_eq_add hmore.data
  · exact Nat.sub_eq_of_eq_add hmore.onsets
  · exact Nat.sub_eq_of_eq_add hmore.overload

end Sys2Proof.Machine
end

section
/-! SUPPORT. The reads of checks, levels and statistics; O24 (R45, R86, R88, R146, R147). -/
namespace Sys2Proof.Machine

/-! ### The bytes of absent and signed fields (R170, R175) -/

@[simp] theorem beOption_length (w : Nat) (x : Option Nat) : (beOption w x).length = w := beBytes_length ..
@[simp] theorem secondOptionBytes_length (x : Option Nat) : (secondOptionBytes x).length = 5 := beBytes_length ..
@[simp] theorem beSignedOption_length (w : Nat) (x : Option Int) : (beSignedOption w x).length = w := by
  cases x <;> exact beBytes_length ..

/-- A signed number in one byte. -/
theorem beSigned_one (i : Int) : beSigned 1 i = [BitVec.ofInt 8 i] := by
  rw [beSigned, beBytes_one]
  congr 1
  apply BitVec.eq_of_toNat_eq
  simp
  omega

theorem checkRecordBytes_length (x : Option CheckRecord) : (checkRecordBytes x).length = 17 := by
  cases x <;> simp [checkRecordBytes]

theorem sliceRecordBytes_length (x : Option SliceRecord) : (sliceRecordBytes x).length = 30 := by
  cases x <;> simp [sliceRecordBytes]

theorem channelSecondBytes_length (x : Option ChannelSecond) : (channelSecondBytes x).length = 9 := by
  cases x <;> simp [channelSecondBytes]

/-- The yes-or-no byte "sweep pending" (R131, R147). -/
theorem yesNoCode_sweepPending (k : CheckEngine) : BitVec.ofNat 8 (yesNoCode k.sweepPending) =
    if k.sweep ≠ 0 ∨ (k.stage ≠ .idle ∧ k.kind = .manual) then 0 else 1 := by
  have hpending : k.sweepPending = decide (k.sweep ≠ 0 ∨ (k.stage ≠ .idle ∧ k.kind = .manual)) := by
    simp only [CheckEngine.sweepPending, CheckEngine.busy, Bool.decide_or, Bool.decide_and]
  rw [hpending]
  split <;> rename_i h <;> simp only [h, decide_true, decide_false, yesNoCode] <;> rfl

/-- The statistics of a ring, its valid entries counted (R84, R88). -/
theorem statsBytes_eq (ring : List RingEntry) : statsBytes ring =
    beBytes 2 ring.length ++ beBytes 2 (ring.countP (·.level.isSome))
      ++ beBytes 2 (ring.countP fun e => e.level.isSome && e.overload)
      ++ secondOptionBytes (ring.head?.map (·.second)) ++ secondOptionBytes (ring.getLast?.map (·.second))
      ++ levelBytes (percentile ring 10) ++ levelBytes (percentile ring 50) ++ levelBytes (percentile ring 90) := by
  rw [statsBytes, validLevels, List.length_filterMap_eq_countP, overloadedValid]

/-! ### The channel a read names -/

theorem channelArgOf_bytes (c : Chan) : channelArgOf [BitVec.ofNat 8 c.val] = some c := by
  have hc : c.val % 256 = c.val := Nat.mod_eq_of_lt (by omega)
  simp [channelArgOf, ofLength, hc]

/-- There is no channel above 15 (R180). -/
theorem channelArgOf_above {b : Byte} (h : 15 < b.toNat) : channelArgOf [b] = none := by
  have hb : ¬b.toNat < 16 := by omega
  simp [channelArgOf, indexOf, hb]

/-- Settles O24: each rule hands over nothing and leaves the state, and its bytes are those the statement lists. -/
theorem readsAnswerWithoutEffect : Obligations.ReadsAnswerWithoutEffect := by
  intro r s hr hm
  refine ⟨fun c hp => ?_, fun b hp hb => ?_, fun hp => congrArg Host.Outcome.next (State.serve_taken (a := ()) hr hm ?_ ?_)⟩
  · intro ch state
    have hread : channelArgOf r.payload = some c := hp ▸ channelArgOf_bytes c
    refine ⟨⟨_, congrArg Host.Outcome.next (State.serve_taken hr hm hread ?_), rfl, checkRecordBytes_length _⟩,
      ⟨_, congrArg Host.Outcome.next (State.serve_taken hr hm hread ?_), rfl, ?_⟩,
      congrArg Host.Outcome.next (State.serve_taken hr hm hread ?_)⟩
    · simp only [beSigned_one, beBytes_one, List.append_assoc, List.cons_append, List.nil_append]
      rfl
    · simp only [beBytes_one, List.cons_append, List.nil_append]
      rfl
    · rw [List.length_append, sliceRecordBytes_length, channelSecondBytes_length]
    · simp only [statsBytes_eq, beBytes_one, List.append_assoc, List.cons_append, List.nil_append]
      rfl
  · have hnone : channelArgOf r.payload = none := hp ▸ channelArgOf_above hb
    exact ⟨congrArg Host.Outcome.next (State.serve_refused hr hnone),
      congrArg Host.Outcome.next (State.serve_refused hr hnone), congrArg Host.Outcome.next (State.serve_refused hr hnone)⟩
  · rw [hp]; rfl
  · simp only [beBytes_one, yesNoCode_sweepPending]

end Sys2Proof.Machine
end

section
/-! SUPPORT. The declaration of link loss, with the check it ends; O33 (R31, R63, R65, R137, R138, R154, R160). -/
namespace Sys2Proof.Machine

/-! ### The early end of a check (R137, R138) -/

/-- What the early end of a check of channel `c` gives: the drive off, an INCOMPLETE result that leaves the manual sweep, the
starts withdrawn in STARTING and the ends held in the later stages. -/
structure CheckEngine.EndedEarly (k : CheckEngine) (c : Chan) (why : CheckReason) (second : Nat) (x : CheckClose) :
    Prop where
  stage : x.engine.stage = if k.stage = .starting then .idle else .ending
  drive : x.engine.drive = none
  held : k.stage ≠ .starting → x.engine.channel = some c ∧ x.engine.decided = some (.incomplete, why)
  sweep : ∀ d : Chan, x.engine.sweep.getLsbD d.val =
    (k.sweep.getLsbD d.val && !(decide (k.kind = .manual) && decide (d = c)))
  decided : x.decided = some (c, CheckRecord.incomplete why second k.kind)
  cells : x.cells = k.driveOff
  request : ∀ (d : Chan) (q : CheckRequest), requestAfter x.ends x.withdrawn d q =
    if k.involved d = true then (if k.stage = .starting then .none else .endHeld) else q

/-- In STARTING the check goes to IDLE, its starts withdrawn. -/
theorem CheckEngine.endEarly_starting {k : CheckEngine} {c : Chan} (hc : k.channel = some c) (hs : k.stage = .starting)
    (why : CheckReason) (n : Nat) : k.EndedEarly c why n (k.endEarly why n) := by
  have hx : k.endEarly why n =
      .ended k c (CheckRecord.incomplete why n k.kind) 0 (k.involvedSet fun _ => true) := by
    simp only [CheckEngine.endEarly, hs, hc]
  rw [hx]
  refine ⟨?_, ?_, fun h => absurd hs h, k.toIdle.sweepResult_sweep c _, rfl, rfl, fun d q => ?_⟩
  · rw [CheckClose.ended, CheckEngine.sweepResult_frame, hs]; rfl
  · rw [CheckClose.ended, CheckEngine.sweepResult_frame]; rfl
  · simp only [CheckClose.ended, requestAfter, BitVec.ofNat_eq_ofNat, BitVec.getLsbD_zero, involvedSet_getLsbD,
      Bool.and_true, hs, if_true, Bool.false_eq_true, if_false]

/-- In PRE, ESTABLISH and MEASURE it goes to ENDING, its ends held. -/
theorem CheckEngine.endEarly_running {k : CheckEngine} {c : Chan} (hc : k.channel = some c)
    (hs : k.stage = .pre ∨ k.stage = .establish ∨ k.stage = .measure) (why : CheckReason) (n : Nat) :
    k.EndedEarly c why n (k.endEarly why n) := by
  have hns : k.stage ≠ .starting := by rintro h; rw [h] at hs; simp at hs
  have hx : k.endEarly why n =
      { engine := { k with stage := .ending, drive := none, decided := some (.incomplete, why) }.sweepResult c
          (CheckRecord.incomplete why n k.kind)
        cells := k.driveOff
        decided := some (c, CheckRecord.incomplete why n k.kind)
        ends := k.involvedSet fun _ => true
        withdrawn := 0 } := by
    rcases hs with h | h | h <;> simp only [CheckEngine.endEarly, h, hc]
  rw [hx]
  refine ⟨?_, ?_, fun _ => ?_, CheckEngine.sweepResult_sweep _ c _, rfl, rfl, fun d q => ?_⟩
  · dsimp only
    rw [CheckEngine.sweepResult_frame, if_neg hns]
  · dsimp only
    rw [CheckEngine.sweepResult_frame]
  · dsimp only
    rw [CheckEngine.sweepResult_frame]
    exact ⟨hc, rfl⟩
  · simp only [requestAfter, BitVec.ofNat_eq_ofNat, BitVec.getLsbD_zero, involvedSet_getLsbD, Bool.and_true, hns, if_false,
      Bool.false_eq_true]

theorem CheckEngine.endEarly_ended {k : CheckEngine} {c : Chan} (hc : k.channel = some c)
    (hq : ¬(k.stage = .idle ∨ k.stage = .ending)) (why : CheckReason) (n : Nat) :
    k.EndedEarly c why n (k.endEarly why n) := by
  cases hs : k.stage with
  | idle => exact absurd (.inl hs) hq
  | starting => exact k.endEarly_starting hc hs why n
  | pre => exact k.endEarly_running hc (.inl hs) why n
  | establish => exact k.endEarly_running hc (.inr (.inl hs)) why n
  | measure => exact k.endEarly_running hc (.inr (.inr hs)) why n
  | ending => exact absurd (.inr hs) hq

/-- Between checks, and once one is ENDING, there is none to end. -/
theorem State.endCheck_quiet {s : State} (h : s.check.stage = .idle ∨ s.check.stage = .ending) (why : CheckReason) :
    s.endCheck why = s := by
  have hx : s.check.endEarly why s.time.runningSecond = .quiet s.check := by
    rcases h with h | h <;> simp only [CheckEngine.endEarly, h]
  rw [State.endCheck, hx]
  rfl

theorem State.endCheck_ended {s : State} {c : Chan} {why : CheckReason} {x : CheckClose}
    (hx : s.check.endEarly why s.time.runningSecond = x) (h : s.check.EndedEarly c why s.time.runningSecond x) :
    s.endCheck why = { s with
      check := x.engine
      channels := Vector.ofFn fun d => s.channels[d].checkStep x d
      trunk := s.trunk.handHubAll s.check.driveOff } := by
  rw [State.endCheck, hx, h.cells]
  simp only [h.decided]

section
variable {k : CheckEngine} {c : Chan} {why : CheckReason} {n : Nat} {x : CheckClose} (h : k.EndedEarly c why n x)
include h

/-- The checked channel's account takes the INCOMPLETE result, and the retry delay of 60 (R137, R141). -/
theorem Channel.checkStep_checked (ch : Channel) : (ch.checkStep x c).account =
    { ch.account with retry := 60, record := some (CheckRecord.incomplete why n k.kind) } := by
  simp only [Channel.checkStep, h.decided, if_true]
  rw [CheckAccount.result_incomplete _ rfl]

/-- A channel that is no part of the check keeps its request and its account. -/
theorem Channel.checkStep_uninvolved (hc : k.channel = some c) (ch : Channel) {d : Chan} (hd : k.involved d = false) :
    ch.checkStep x d = ch := by
  have hne : c ≠ d := by
    rintro rfl
    simp [CheckEngine.involved, hc] at hd
  simp only [Channel.checkStep, h.request, hd, h.decided, if_neg hne, Bool.false_eq_true, if_false]

theorem Channel.checkStep_involved (ch : Channel) {d : Chan} (hd : k.involved d = true) :
    (ch.checkStep x d).cond.request = if k.stage = .starting then .none else .endHeld := by
  simp only [Channel.checkStep, h.request, hd, if_true]

end

/-! ### An event stored (R155, R157) -/

section
variable (s : State) (n : Nat) (e : Event)

theorem State.notify_frame (code : Byte) (p : List Byte) :
    s.notify n code p = { s with trunk := (s.notify n code p).trunk } := by
  rcases s.notify_cases n code p with ⟨-, h⟩ | ⟨-, h⟩ <;> rw [h]

theorem State.notify_frameOut (code : Byte) (p : List Byte) : (s.notify n code p).trunk.frameOut = s.trunk.frameOut := by
  rcases s.notify_cases n code p with ⟨-, h⟩ | ⟨-, h⟩ <;> rw [h]

/-- Storing an event touches the Event Queue and, by its notice, the Trunk Interface, where it leaves the frame sent. -/
theorem State.storeEvent_frame : s.storeEvent n e =
    { s with events := (s.storeEvent n e).events, trunk := (s.storeEvent n e).trunk } := by
  unfold State.storeEvent
  dsimp only
  split
  · rw [State.notify_frame]
  · rfl

theorem State.storeEvent_frameOut : (s.storeEvent n e).trunk.frameOut = s.trunk.frameOut := by
  unfold State.storeEvent
  dsimp only
  split
  · rw [State.notify_frameOut]
  · rfl

/-- A part with another hold-over length, which no notice tells. -/
def State.withHoldLength (length : Nat) : State := { s with time := { s.time with holdLength := length } }

theorem State.storeEvent_holdLength (length : Nat) :
    (s.withHoldLength length).storeEvent n e = (s.storeEvent n e).withHoldLength length := by
  unfold State.withHoldLength State.storeEvent State.notify
  dsimp only
  split
  · split <;> rfl
  · rfl

end

theorem Trunk.handHubAll_frameOut (t : Trunk) (cells : List Cell) : (t.handHubAll cells).frameOut = t.frameOut := by
  unfold Trunk.handHubAll
  induction cells generalizing t with
  | nil => rfl
  | cons cell rest ih =>
    rw [List.foldl_cons, ih]
    unfold Trunk.handHub
    split <;> rfl

theorem State.endCheck_frameOut (s : State) (why : CheckReason) : (s.endCheck why).trunk.frameOut = s.trunk.frameOut := by
  unfold State.endCheck
  dsimp only
  split
  · rfl
  · exact Trunk.handHubAll_frameOut ..

/-- The early end of a check touches the check, the channels and the hub queue (R138). -/
theorem State.endCheck_frame (s : State) (why : CheckReason) : s.endCheck why =
    { s with
      channels := (s.endCheck why).channels, check := (s.endCheck why).check, trunk := (s.endCheck why).trunk } := by
  unfold State.endCheck
  dsimp only
  split <;> rfl

/-- The early end of a check does not read the hold-over length. -/
theorem State.endCheck_holdLength (s : State) (why : CheckReason) (length : Nat) :
    (s.withHoldLength length).endCheck why = (s.endCheck why).withHoldLength length := by
  unfold State.withHoldLength State.endCheck
  dsimp only
  split <;> rfl

/-! ### Link loss (R31, R65, R154, R160) -/

/-- The part as a loss finds its check and its queue: in HOLD-OVER, every slice in progress marked. -/
def State.lost (u : State) (length index : Nat) : State :=
  { u with
    time := { u.time with link := .holdOver, holdLength := length, missingRun := 0, frameIndex := index }
    channels := u.channels.map Channel.markHoldOver }

/-- LINK LOST, in the second in progress. -/
def State.lossEvent (u : State) : Event := Event.plain u.time.runningSecond .linkLost .none

/-- The part after a declared loss: the check in progress ended, then LINK LOST stored. -/
def State.struck (u : State) (length index : Nat) : State :=
  ((u.lost length index).endCheck .link).storeEvent 0 u.lossEvent

/-- The part with a frame sent. -/
def State.sending (s : State) (sent : Option Frame) : State := { s with trunk := { s.trunk with frameOut := sent } }

theorem State.loseLink_eq (s : State) : s.loseLink = s.struck 0 s.time.frameIndex := by
  rw [State.loseLink, State.emit_single]
  rfl

/-- A loss sends no frame of its own. -/
theorem State.struck_frameOut (u : State) (length index : Nat) :
    (u.struck length index).trunk.frameOut = u.trunk.frameOut := by
  rw [State.struck, State.storeEvent_frameOut, State.endCheck_frameOut]
  rfl

/-- In the 192nd frame period without a good frame the loss counts that period, and its frame is sent. -/
theorem State.missed_loses {u : State} (hl : u.time.link = .locked) (hm : u.time.missingRun = 191) :
    (u.countRuns false).carryNone = (u.struck 1 u.time.frameIndex).sending (some idleFrame)
      ∧ ∀ f, (u.countRuns false).carryBad f = (u.struck 1 u.time.frameIndex).sending (some f) := by
  have hloses : u.time.loses false = true := by simp [TimeBase.loses, hl, hm]
  have hlength : (u.struck 0 u.time.frameIndex).withHoldLength 1 = u.struck 1 u.time.frameIndex := by
    rw [State.struck, ← State.storeEvent_holdLength, ← State.endCheck_holdLength]
    rfl
  have hcount : u.countRuns false = u.struck 1 u.time.frameIndex := by
    rw [State.countRuns, if_pos hloses, ← hlength, ← State.loseLink_eq]
    rfl
  rw [hcount]
  have hlink : (u.struck 1 u.time.frameIndex).time.link = .holdOver := by simp [State.struck, State.lost]
  exact ⟨State.carryNone_holdOver hlink, fun _ => rfl⟩

/-! ### What a loss leaves -/

section
variable {u : State} (length index : Nat)

/-- With no check to end a loss stores its event alone. -/
theorem State.struck_quiet (h : u.check.stage = .idle ∨ u.check.stage = .ending) :
    u.struck length index = (u.lost length index).storeEvent 0 u.lossEvent := by
  rw [State.struck, State.endCheck_quiet (s := u.lost length index) h]

/-- Whatever check it ends, a loss leaves what the lost part has, but for the check, the channels, the Trunk Interface and the
Event Queue, in which LINK LOST is stored. -/
theorem State.struck_frame : u.struck length index =
    { u.lost length index with
      channels := (u.struck length index).channels
      check := (u.struck length index).check
      trunk := (u.struck length index).trunk
      events := ((u.lost length index).storeEvent 0 u.lossEvent).events } := by
  have hchannels : (u.struck length index).channels = ((u.lost length index).endCheck .link).channels :=
    State.storeEvent_channels ..
  have hcheck : (u.struck length index).check = ((u.lost length index).endCheck .link).check := State.storeEvent_check ..
  have hevents : (u.struck length index).events = ((u.lost length index).storeEvent 0 u.lossEvent).events := by
    rw [State.struck, State.storeEvent_events, State.storeEvent_events, State.endCheck_events]
  rw [← hevents, hchannels, hcheck]
  calc u.struck length index = { (u.lost length index).endCheck .link with
        events := (u.struck length index).events, trunk := (u.struck length index).trunk } := State.storeEvent_frame ..
    _ = _ := congrArg (fun t : State => { t with
        events := (u.struck length index).events, trunk := (u.struck length index).trunk }) (State.endCheck_frame ..)

variable {length index} {c : Chan} {x : CheckClose}
  (hx : (u.lost length index).check.endEarly .link (u.lost length index).time.runningSecond = x)
  (h : u.check.EndedEarly c .link u.time.runningSecond x)
include hx h

theorem State.struck_check : (u.struck length index).check = x.engine := by
  rw [State.struck, State.storeEvent_check, State.endCheck_ended hx h]

theorem State.struck_channel (d : Chan) :
    (u.struck length index).channels[d] = u.channels[d].markHoldOver.checkStep x d := by
  rw [State.struck, State.storeEvent_channels, State.endCheck_ended hx h]
  simp [State.lost]

/-- Into an empty hub queue DRIVE OFF goes, where the drive was on (R132, R166). -/
theorem State.struck_hub (hhub : u.trunk.hub = []) : (u.struck length index).trunk.hub = u.check.driveOff := by
  rw [State.struck, State.storeEvent_hub, State.endCheck_ended hx h]
  change (u.trunk.handHubAll u.check.driveOff).hub = _
  unfold CheckEngine.driveOff
  split
  · simp [Trunk.handHubAll, Trunk.handHub, hhub]
  · exact hhub

end

/-! ### O33 -/

/-- DRIVE OFF as the cell sent to the hub (R132, R172). -/
theorem CheckEngine.driveOff_eq (k : CheckEngine) : k.driveOff = (match k.drive with
    | some slot => [requestCell 4 true 71 0 [BitVec.ofNat 8 slot.val]]
    | none => []) := by
  unfold CheckEngine.driveOff
  cases k.drive <;> rfl

/-- Settles O33: a loss declared by LINK_LOSS, and by the 192nd period without a good frame inside a slice and after the
boundary of index 5,999. -/
theorem linkLossIsDeclared : Obligations.LinkLossIsDeclared := by
  intro s marked quiet event declared missed taking
  have hdeclared (u : State) (length index : Nat) (sent : Option Frame) :
      declared u ((u.struck length index).sending sent) length index sent := by
    refine ⟨rfl, fun h => by rw [State.struck_quiet length index h]; rfl, fun c hc hq => ?_⟩
    have h := u.check.endEarly_ended hc hq .link u.time.runningSecond
    generalize hx : u.check.endEarly .link u.time.runningSecond = x at h
    have hcheck : ((u.struck length index).sending sent).check = x.engine := State.struck_check hx h
    have hchannel (d : Chan) : ((u.struck length index).sending sent).channels[d] =
        u.channels[d].markHoldOver.checkStep x d := State.struck_channel hx h d
    rw [hcheck, hchannel]
    refine ⟨?_, h.stage, h.drive, h.held, h.sweep, Channel.checkStep_checked h _, fun d hd => ?_, fun d hd => ?_,
      fun d => ?_, fun hhub => (State.struck_hub hx h hhub).trans u.check.driveOff_eq⟩
    · rw [State.sending]
      conv_lhs => rw [State.struck_frame]
      rw [← State.struck_check hx h]
      rfl
    · rw [hchannel]; exact Channel.checkStep_involved h _ hd
    · rw [hchannel]; exact Channel.checkStep_uninvolved h hc _ hd
    · rw [hchannel]; exact ⟨rfl, rfl⟩
  have hmissed {u v : State} {index : Nat} (hv : s.advance = v) (hl : v.time.link = .locked) (hm : v.time.missingRun = 191)
      (hu : v.struck 1 v.time.frameIndex = u.struck 1 index) : missed u index := by
    obtain ⟨hnone, hbad⟩ := State.missed_loses hl hm
    rw [hu] at hnone hbad
    refine ⟨⟨_, idleFrame, ?_, hdeclared u 1 index _, goodFrame_idleFrame, rfl, rfl⟩,
      fun f hf => ⟨_, ?_, hdeclared u 1 index _⟩⟩
    · rw [exec_framePeriod, hv, hnone]
    · rw [exec_sampleFrame_bad hf, hv, hbad]
  refine ⟨fun hl => ?_, fun hl => ⟨s.loseLink, ?_, ?_⟩, fun hl hm hin => ?_, fun hl hm hlast => ?_⟩
  · change execLinkLoss s = _
    simp only [execLinkLoss, hl]
  · change execLinkLoss s = _
    simp only [execLinkLoss, hl]
  · have hsending : s.loseLink = (s.struck 0 s.time.frameIndex).sending s.trunk.frameOut := by
      rw [State.loseLink_eq, ← State.struck_frameOut s 0 s.time.frameIndex]
      rfl
    rw [hsending]
    exact hdeclared s 0 s.time.frameIndex _
  · exact hmissed (State.advance_inside hin) hl hm rfl
  · obtain ⟨hopens, -⟩ := State.advance_opens (s := taking) hlast rfl
    refine ⟨taking.advance, (State.advance_boundary (s := taking) hlast rfl).1, hopens.frameIndex, hopens.link.trans hl,
      hmissed (v := taking.advance) rfl (hopens.link.trans hl) (hopens.missingRun.trans hm) ?_⟩
    rw [hopens.frameIndex]

end Sys2Proof.Machine
end

section
/-! SUPPORT. IDENTIFY and STATUS: the node number that POWER_ON read, the bytes of the status records, and both answers; O9
(R47, R61, R181, R182). -/
namespace Sys2Proof.Machine

/-! ### The node number under a request (R181) -/

/-- A rule that is its own in every mode leaves the node number where it does so on the operands it reads. -/
theorem takeAlways_node {α : Type} {s : State} {operands : Option α} {rule : α → Reply}
    (h : ∀ a, (rule a).state.control.node = s.control.node) :
    (takeAlways s operands rule).state.control.node = s.control.node :=
  takeAlways_state (Q := fun u => u.control.node = s.control.node) rfl fun a _ => h a

/-- The same of a command that is not taken in BOOT. -/
theorem takeOutsideBoot_node {α : Type} {s : State} {operands : Option α} {rule : α → Reply}
    (h : ∀ a, (rule a).state.control.node = s.control.node) :
    (takeOutsideBoot s operands rule).state.control.node = s.control.node :=
  takeOutsideBoot_state (Q := fun u => u.control.node = s.control.node) rfl fun a _ _ => h a

/-- A request leaves the node number where its rule does. -/
theorem State.serve_node {s : State} {code : Byte} {w b : Bool} {r : Request} {rule : State → Reply}
    (h : (rule s).state.control.node = s.control.node) : (s.serve code w b r rule).control.node = s.control.node :=
  State.serve_keeps (Q := fun u => u.control.node = s.control.node) (fun _ _ _ hu => by simpa using hu)
    (fun _ _ _ _ _ _ hu => hu) (fun _ _ hu => hu) rfl h

/-- No request changes the node number: each rule leaves it alone in every branch (R181). -/
@[simp] theorem serveCode_node (code : Byte) (r : Request) (s : State) :
    (serveCode code r s).control.node = s.control.node := by
  unfold serveCode
  split
  case h_1 => exact State.serve_node rfl
  case h_2 | h_3 => exact State.serve_node (takeAlways_node fun _ => rfl)
  case h_4 | h_6 | h_7 | h_8 => exact State.serve_node (takeOutsideBoot_node fun _ => by split_ifs <;> rfl)
  case h_5 => exact State.serve_node (takeAlways_node fun _ => by split_ifs <;> rfl)
  case h_9 | h_10 | h_13 | h_14 =>
    split
    · exact State.serve_node (takeOutsideBoot_node fun _ => rfl)
    · exact State.serve_node (takeOutsideBoot_node fun _ => by split <;> rfl)
  case h_11 | h_15 | h_16 | h_19 =>
    refine State.serve_node (takeOutsideBoot_node fun _ => ?_)
    split
    · rfl
    · split <;> rfl
  case h_12 =>
    split
    · exact State.serve_node (takeAlways_node fun _ => by split_ifs <;> rfl)
    · exact State.serve_node (takeOutsideBoot_node fun _ => rfl)
  case h_17 | h_18 | h_20 => exact State.serve_node (takeOutsideBoot_node fun _ => by split <;> rfl)
  case h_21 => exact State.serve_node (takeOutsideBoot_node fun _ => by simp [Reply.plain, State.abortCheck])
  case h_22 | h_23 | h_24 | h_25 => exact State.serve_node (takeOutsideBoot_node fun _ => rfl)
  case h_26 | h_27 => exact State.serve_node (takeAlways_node fun _ => by split <;> rfl)

/-! ### The node number under everything else (R181) -/

@[simp] theorem State.boundary_node (s : State) (b : Bool) : (s.boundary b).control.node = s.control.node := by
  rw [State.boundary_control]
  split <;> rfl

@[simp] theorem State.advance_node (s : State) : s.advance.control.node = s.control.node := by
  unfold State.advance
  dsimp only
  split
  · rfl
  · exact State.boundary_node _ _

@[simp] theorem State.countRuns_node (s : State) (good : Bool) : (s.countRuns good).control.node = s.control.node := by
  unfold State.countRuns
  dsimp only
  split_ifs <;> simp

@[simp] theorem State.endLoad_node (s : State) (m : MemoryRead) : (s.endLoad m).control.node = s.control.node := by
  unfold State.endLoad
  dsimp only
  split
  · rfl
  · split <;> rfl

@[simp] theorem State.spoil_node (s : State) (bytes : List Byte) (f : CellFault) :
    (s.spoil bytes f).control.node = s.control.node := by
  unfold State.spoil
  split
  · rfl
  · split <;> rfl

@[simp] theorem State.takeCell_node (s : State) (cell : Cell) : (s.takeCell cell).control.node = s.control.node := by
  unfold State.takeCell
  dsimp only
  split
  · split <;> simp
  · split <;> simp
  · rfl

@[simp] theorem State.receiveCell_node (s : State) (bytes : List Byte) :
    (s.receiveCell bytes).control.node = s.control.node := by
  obtain ⟨u, hu, hr⟩ := s.receiveCell_cases bytes
  have hfirst : u.control.node = s.control.node := by
    rcases hu with rfl | ⟨arrived, rfl⟩
    · rfl
    · exact s.spoil_node _ _
  rcases hr with hr | ⟨p, hr⟩ | ⟨cell, hr⟩ <;> rw [hr, ← hfirst] <;> simp

/-- No command but POWER_ON changes the node number (R181). -/
theorem exec_node {i : Instr} {s t : State} (hp : ∀ n, i ≠ .powerOn n) (hi : exec i s = .next t) :
    t.control.node = s.control.node := by
  cases hc : codedRequest i with
  | some x =>
    rw [exec_coded hc] at hi
    obtain rfl := Host.Outcome.next.inj hi
    exact serveCode_node _ _ _
  | none =>
    cases i with
    | powerOn n => exact absurd rfl (hp n)
    | bootLoadEnd m =>
      change execBootLoadEnd m s = _ at hi
      unfold execBootLoadEnd at hi
      split at hi <;> obtain rfl := Host.Outcome.next.inj hi
      · exact s.endLoad_node m
      · rfl
    | sampleFrame f =>
      obtain rfl := Host.Outcome.next.inj hi
      split <;> simp
    | framePeriod => obtain rfl := Host.Outcome.next.inj hi; simp
    | linkLoss =>
      change execLinkLoss s = _ at hi
      unfold execLinkLoss at hi
      split at hi <;> obtain rfl := Host.Outcome.next.inj hi <;> simp
    | linkRestoration =>
      change execLinkRestoration s = _ at hi
      unfold execLinkRestoration at hi
      split at hi <;> obtain rfl := Host.Outcome.next.inj hi <;> simp
    | sliceBoundary => obtain rfl := Host.Outcome.next.inj hi; exact s.boundary_node _
    | secondBoundary =>
      change execSecondBoundary s = _ at hi
      unfold execSecondBoundary at hi
      split at hi <;> obtain rfl := Host.Outcome.next.inj hi
      · rfl
      · exact s.boundary_node true
    | intervalTimerExpiry c =>
      change execIntervalTimerExpiry c s = _ at hi
      unfold execIntervalTimerExpiry at hi
      split at hi <;> obtain rfl := Host.Outcome.next.inj hi <;> simp
    | controlCell bytes => obtain rfl := Host.Outcome.next.inj hi; exact s.receiveCell_node bytes
    | cellTimeout arrived mark => obtain rfl := Host.Outcome.next.inj hi; exact s.spoil_node _ _
    | cellLengthFault arrived => obtain rfl := Host.Outcome.next.inj hi; exact s.spoil_node _ _
    | passThroughCell cell => obtain rfl := Host.Outcome.next.inj hi; rfl
    | forwardCellWindow => obtain rfl := Host.Outcome.next.inj hi; rfl
    | returnLaneSend => obtain rfl := Host.Outcome.next.inj hi; rfl
    | _ => cases hc

/-! ### The bytes of the status records (R47, R61, R175, R182) -/

@[simp] theorem bootIndex_length (o : BootOutcome) : (bootIndex o).length = 2 := by
  unfold bootIndex
  split <;> simp

theorem timeBytes_length (t : TimeBase) : (timeBytes t).length = 25 := by
  cases h : t.pendingTime <;> simp [timeBytes, h, secondBytes, posBytes]

@[simp] theorem groupSliceBytes_length (x : Option GroupSlice) : (groupSliceBytes x).length = 12 := by
  cases x <;> simp [groupSliceBytes]

theorem groupStatusBytes_length (g : Group) : (groupStatusBytes g).length = 15 := by simp [groupStatusBytes]

theorem conditionBytes_length (c : Condition) : (conditionBytes c).length = 20 := by simp [conditionBytes]

section
variable {α : Type} {f : α → List Byte} {k : Nat} (hf : ∀ a, (f a).length = k)
include hf

/-- Records of one length, laid end to end. -/
theorem length_flatMap_records (l : List α) : (l.flatMap f).length = l.length * k := by
  simp [List.length_flatMap, hf]

/-- The record at an index, of records of one length laid end to end. -/
theorem flatMap_record (l : List α) (i : Nat) (hi : i < l.length) : ((l.flatMap f).drop (k * i)).take k = f l[i] := by
  induction l generalizing i with
  | nil => exact absurd hi (Nat.not_lt_zero i)
  | cons a l ih =>
    cases i with
    | zero => simp [← hf a]
    | succ i =>
      have hnext : k * (i + 1) = (f a).length + k * i := by rw [hf a]; ring
      rw [List.flatMap_cons, hnext, List.drop_length_add_append]
      exact ih i (Nat.lt_of_succ_lt_succ hi)

end

/-- The condition records of eight channels laid end to end (R47, R182). -/
theorem conditionRecords_of_eight {l : List Channel} (hl : l.length = 8) :
    (l.flatMap fun ch => conditionBytes ch.cond).length = 160
      ∧ ∀ i : Fin 8, ((l.flatMap fun ch => conditionBytes ch.cond).drop (20 * i.val)).take 20
          = conditionBytes l[i.val].cond := by
  have hrecord (ch : Channel) : (conditionBytes ch.cond).length = 20 := conditionBytes_length ch.cond
  exact ⟨by rw [length_flatMap_records hrecord, hl], fun i => flatMap_record hrecord l i.val (by omega)⟩

/-- Part 0 by its parts: mode, lock level and boot outcome; boot index and auto-run mark; the time record and the groups
(R182). -/
theorem statusPart0_eq (s : State) : statusPart0 s =
    [BitVec.ofNat 8 (modeCode s.control.mode), BitVec.ofNat 8 s.control.lock,
        BitVec.ofNat 8 (bootOutcomeCode s.control.bootOutcome)]
      ++ ((bootIndex s.control.bootOutcome ++ beBytes 1 (autoRunCode s.control.autoRun))
      ++ (timeBytes s.time ++ s.groups.toList.flatMap groupStatusBytes)) := by
  simp only [statusPart0, beBytes_one, List.append_assoc, List.cons_append, List.nil_append]

theorem statusPart0_length (s : State) : (statusPart0 s).length = 151 := by
  simp [statusPart0_eq, timeBytes_length, length_flatMap_records groupStatusBytes_length]

/-- Six bytes of part 0 stand before the time record (R182). -/
theorem statusPart0_drop (s : State) :
    (statusPart0 s).drop 6 = timeBytes s.time ++ s.groups.toList.flatMap groupStatusBytes := by
  rw [statusPart0_eq, ← List.append_assoc]
  exact List.drop_left' (by simp)

/-! ### The two requests (R181, R182) -/

/-- IDENTIFY's description byte by byte (R181). -/
theorem identifyBytes_eq (node : Fin 4) :
    identifyBytes node = [6, 72, 1, BitVec.ofNat 8 node.val, 16, 8, 2, 0, 64, 16, 32, 0] := by
  rw [identifyBytes, beBytes_one node.val]
  rfl

theorem statusPartOf_byte (b : Byte) : statusPartOf [b] = indexOf 3 b.toNat := by simp [statusPartOf, ofLength]

section
variable {r : Request} {s : State} (hr : Addressed r s)
include hr

/-- STATUS answers the part it names, and does nothing else (R182). -/
theorem exec_status_part {part : Fin 3} (hp : statusPartOf r.payload = some part) :
    exec (.status r) s = .next (s.answer r.write 2 r.tag .ok (statusBytes s part)) :=
  congrArg Host.Outcome.next (State.serve_plain hr (by simp only [statusRule, takeAlways, hp]))

/-- STATUS of a part that there is not is BAD_ARGUMENT (R180, R182). -/
theorem exec_status_refused (hp : statusPartOf r.payload = none) :
    exec (.status r) s = .next (s.answer r.write 2 r.tag .badArgument []) :=
  congrArg Host.Outcome.next (State.serve_plain hr (by simp only [statusRule, takeAlways, hp, Reply.badArgument]))

theorem exec_identify_empty (hp : r.payload = []) :
    exec (.identify r) s = .next (s.answer r.write 1 r.tag .ok (identifyBytes s.control.node)) :=
  congrArg Host.Outcome.next (State.serve_plain hr (by rw [identifyRule, hp]; rfl))

end

/-- Settles O9: IDENTIFY's bytes, the node number under every command, and the parts of STATUS by the records they are made
of. -/
theorem identifyAndStatusAnswer : Obligations.IdentifyAndStatusAnswer := by
  refine ⟨⟨fun r s hr hp => ?_, fun n s t h => ?_, fun i s t hi h => exec_node hi h⟩,
    fun r s hr => ⟨fun hp => ?_, fun hp => ?_, fun hp => ?_, fun b hp hb => ?_⟩⟩
  · rw [exec_identify_empty hr hp, identifyBytes_eq]
  · obtain rfl := Host.Outcome.next.inj h
    rfl
  · have hpart : statusPartOf r.payload = some 0 := by rcases hp with hp | hp <;> rw [hp] <;> rfl
    have hbytes : statusBytes s 0 = statusPart0 s := rfl
    refine ⟨statusPart0 s, hbytes ▸ exec_status_part hr hpart, statusPart0_length s, ?_, ?_, ?_⟩
    · rw [statusPart0_eq, List.take_left' (by simp)]
    · rw [statusPart0_drop]
      exact List.take_left' (timeBytes_length _)
    · rw [show 31 = 6 + 25 from rfl, ← List.drop_drop, statusPart0_drop]
      exact List.drop_left' (timeBytes_length _)
  · have hpart : statusPartOf r.payload = some 1 := by rw [hp, statusPartOf_byte]; rfl
    obtain ⟨hlength, hrecord⟩ := conditionRecords_of_eight (l := s.channels.toList.take 8) (by simp)
    exact ⟨_, exec_status_part hr hpart, hlength, fun i => (hrecord i).trans (by simp)⟩
  · have hpart : statusPartOf r.payload = some 2 := by rw [hp, statusPartOf_byte]; rfl
    obtain ⟨hlength, hrecord⟩ := conditionRecords_of_eight (l := s.channels.toList.drop 8) (by simp)
    exact ⟨_, exec_status_part hr hpart, hlength, fun i => (hrecord i).trans (by simp)⟩
  · refine exec_status_refused hr ?_
    rw [hp, statusPartOf_byte, indexOf, dif_neg (by omega)]

end Sys2Proof.Machine
end

section
/-! SUPPORT. SET TIME and TRIM TIME, sent to this node and broadcast; O13 (R68, R70, R154, R180). -/
namespace Sys2Proof.Machine

/-! ### What the payloads name (R170) -/

/-- Both parts of a SET TIME are read as spelt, and tested against their ranges together (R68). -/
theorem setTimeOf_bytes {d q : Nat} (hd : d < 256) (hq : q < 16777216) :
    setTimeOf ([BitVec.ofNat 8 d] ++ beBytes 3 q) =
      if 6 < d ∨ 86399 < q then none else some { day := d, second := q } := by
  have hday : field (BitVec.ofNat 8 d :: beBytes 3 q) 0 1 = d := by
    rw [field_cons_zero, BitVec.toNat_ofNat, Nat.mod_eq_of_lt hd]
  have hsecond : field (BitVec.ofNat 8 d :: beBytes 3 q) 1 3 = q := by
    rw [field_cons_succ, field_beBytes]
    exact Nat.mod_eq_of_lt hq
  have hrange : (d ≤ 6 ∧ q ≤ 86399) ↔ ¬ (6 < d ∨ 86399 < q) := by omega
  simp only [setTimeOf, ofLength, List.cons_append, List.nil_append, List.length_cons, beBytes_length, hday, hsecond, hrange,
    ite_not]
  rfl

/-- A byte read as a signed number is its two's complement value (R170). -/
theorem signedField_byte (b : Byte) : signedField [b] 0 1 = b.toInt := by
  rw [BitVec.toInt_eq_toNat_cond]
  simp only [signedField, field_cons_zero]
  split_ifs <;> omega

theorem trimOf_byte (b : Byte) : trimOf [b] = some (max (-4) (min 4 b.toInt)) := by
  simp [trimOf, ofLength, signedField_byte]

/-! ### A broadcast request that hands over no record -/

/-- Acted on, it leaves the state of its rule's reply, with no answer (R180). -/
theorem State.serve_broadcast_plain {s t : State} {code : Byte} {w : Bool} {r : Request} {rule : State → Reply}
    {k : ResultCode} {p : List Byte} (hb : r.broadcast = true) (h : rule s = Reply.plain t k p) :
    s.serve code w true r rule = t := by
  rw [State.serve_broadcast s code w r rule hb, h]
  rfl

/-! ### SET TIME (R68) -/

/-- The state where a SET TIME is taken: its position waits for the next second. -/
def State.awaitTime (s : State) (t : Pos) : State := { s with time := { s.time with pendingTime := some t } }

/-- SET TIME through its tests: the ranges first, then the mode with the clock set. -/
theorem setTimeRule_bytes (s : State) {d q : Nat} (hd : d < 256) (hq : q < 16777216) :
    setTimeRule ([BitVec.ofNat 8 d] ++ beBytes 3 q) s =
      if 6 < d ∨ 86399 < q then Reply.plain s .badArgument []
      else if s.control.mode ≠ .config ∧ s.time.clockSet = true then Reply.plain s .wrongMode [0]
      else Reply.plain (s.awaitTime { day := d, second := q }) .pendingResult ([BitVec.ofNat 8 d] ++ beBytes 3 q) := by
  have hread := setTimeOf_bytes hd hq
  split_ifs at hread ⊢ with hbad hmode
  · exact takeAlways_none hread
  · rw [setTimeRule, takeAlways_some hread, if_pos hmode, Reply.wrongMode]
  · rw [setTimeRule, takeAlways_some hread, if_neg hmode, posBytes, beBytes_one, State.awaitTime]

/-! ### TRIM TIME (R70) -/

/-- The value a trim applies: the move of the balance that its clamping leaves. -/
def State.appliedTrim (s : State) (t : Int) : Int := trimBalance s.time.trim t - s.time.trim

/-- The state where a trim is taken: the balance moved, and CLOCK TRIM stored with `n` places kept unless the applied value
is 0. -/
def State.trimBy (s : State) (n : Nat) (t : Int) : State :=
  let moved := { s with time := { s.time with trim := trimBalance s.time.trim t } }
  if s.appliedTrim t = 0 then moved else moved.storeEvent n (clockTrimEvent s.time.runningSecond (s.appliedTrim t))

/-- One event, handed over unless a condition holds, is stored unless it holds. -/
theorem State.emit_unless (s : State) (n : Nat) (c : Prop) [Decidable c] (e : Event) :
    s.emit n [if c then [] else [.event e]] = if c then s else s.storeEvent n e := by
  rw [State.emit_single]
  split_ifs <;> rfl

section
variable {s : State}

theorem trimTimeRule_boot (b : Byte) (hm : s.control.mode = .boot) : trimTimeRule [b] s = Reply.plain s .wrongMode [0] :=
  takeOutsideBoot_boot hm (trimOf_byte b)

theorem trimTimeRule_clockUnset (b : Byte) (hm : s.control.mode ≠ .boot) (hc : s.time.clockSet = false) :
    trimTimeRule [b] s = Reply.plain s .wrongMode [1] := by
  rw [trimTimeRule, takeOutsideBoot_some hm (trimOf_byte b), if_pos hc, Reply.clockUnset]

/-- Taken, TRIM TIME trims by its clamped value and answers the applied one. -/
theorem trimTimeRule_taken (b : Byte) (hm : s.control.mode ≠ .boot) (hc : ¬ s.time.clockSet = false) :
    let t := max (-4) (min 4 b.toInt)
    let reply := trimTimeRule [b] s
    (∀ n, reply.state.emit n reply.chains = s.trimBy n t) ∧ reply.code = .ok
      ∧ reply.payload = [BitVec.ofInt 8 (s.appliedTrim t)] := by
  intro t reply
  have hreply : reply = _ := (takeOutsideBoot_some hm (trimOf_byte b)).trans (if_neg hc)
  rw [hreply]
  exact ⟨fun n => State.emit_unless .., rfl, beSigned_one _⟩

end

/-! ### The two requests -/

section
variable {r : Request} {s : State}

section
variable {d q : Nat} (hd : d < 256) (hq : q < 16777216) (hp : r.payload = [BitVec.ofNat 8 d] ++ beBytes 3 q)
include hd hq hp

/-- Sent to this node, SET TIME answers by the table of R68. -/
theorem serveSetTime_addressed (hr : Addressed r s) : serveSetTime r s =
    if 6 < d ∨ 86399 < q then s.answer r.write 4 r.tag .badArgument []
    else if s.control.mode ≠ .config ∧ s.time.clockSet = true then s.answer r.write 4 r.tag .wrongMode [0]
    else (s.awaitTime { day := d, second := q }).answer r.write 4 r.tag .pendingResult r.payload := by
  have hrule := setTimeRule_bytes s hd hq
  rw [← hp] at hrule
  split_ifs at hrule ⊢ <;> exact State.serve_plain hr hrule

/-- Broadcast, SET TIME takes the same tests, and a refusal does nothing (R68, R180). -/
theorem serveSetTime_broadcast (hb : r.broadcast = true) : serveSetTime r s =
    if (6 < d ∨ 86399 < q) ∨ (s.control.mode ≠ .config ∧ s.time.clockSet = true) then s
    else s.awaitTime { day := d, second := q } := by
  have hrule := setTimeRule_bytes s hd hq
  rw [← hp] at hrule
  rw [ite_or]
  split_ifs at hrule ⊢ <;> exact State.serve_broadcast_plain hb hrule

end

section
variable {b : Byte} (hp : r.payload = [b])
include hp

/-- Sent to this node, TRIM TIME answers the applied value, its CLOCK TRIM offered with one place kept for the answer (R70;
log 13). -/
theorem serveTrimTime_addressed (hr : Addressed r s) :
    let t := max (-4) (min 4 b.toInt)
    serveTrimTime r s =
      if s.control.mode = .boot then s.answer r.write 5 r.tag .wrongMode [0]
      else if s.time.clockSet = false then s.answer r.write 5 r.tag .wrongMode [1]
      else (s.trimBy 1 t).answer r.write 5 r.tag .ok [BitVec.ofInt 8 (s.appliedTrim t)] := by
  intro t
  rw [serveTrimTime, hp]
  split_ifs with hboot hclock
  · exact State.serve_plain hr (trimTimeRule_boot b hboot)
  · exact State.serve_plain hr (trimTimeRule_clockUnset b hboot hclock)
  · obtain ⟨hstate, hcode, hpayload⟩ := trimTimeRule_taken b hboot hclock
    rw [State.serve_addressed s _ _ _ r _ hr.1 hr.2, hstate, hcode, hpayload]
    rfl

/-- Broadcast, TRIM TIME trims in the same way, and a refusal does nothing (R70, R180). -/
theorem serveTrimTime_broadcast (hb : r.broadcast = true) : serveTrimTime r s =
    if s.control.mode = .boot ∨ s.time.clockSet = false then s else s.trimBy 0 (max (-4) (min 4 b.toInt)) := by
  rw [serveTrimTime, hp, ite_or]
  split_ifs with hboot hclock
  · exact State.serve_broadcast_plain hb (trimTimeRule_boot b hboot)
  · exact State.serve_broadcast_plain hb (trimTimeRule_clockUnset b hboot hclock)
  · obtain ⟨hstate, -⟩ := trimTimeRule_taken b hboot hclock
    rw [State.serve_broadcast s _ _ r _ hb, hstate]

end
end

/-- Settles O13: each command's rule by its tests, answered and broadcast. -/
theorem timeCommandsMoveTheClock : Obligations.TimeCommandsMoveTheClock := by
  refine ⟨fun r s d q hd hq hp => ⟨fun hr => ?_, fun hb => ?_⟩, fun r s b hp => ⟨fun hr => ?_, fun hb => ?_⟩⟩
  · exact congrArg Host.Outcome.next (serveSetTime_addressed hd hq hp hr)
  · exact congrArg Host.Outcome.next (serveSetTime_broadcast hd hq hp hb)
  · exact congrArg Host.Outcome.next (serveTrimTime_addressed hp hr)
  · exact congrArg Host.Outcome.next (serveTrimTime_broadcast hp hb)

end Sys2Proof.Machine
end

section
/-! SUPPORT. Ranks in a list that falls, and the percentiles of a ring; O44 (R86). -/
namespace Sys2Proof.Machine

/-! ### Ranks in a list from highest to lowest -/

/-- At most the entries before a place lie above the level there. -/
theorem countP_above_le {l : List Level} (h : l.Pairwise (· ≥ ·)) {i : Nat} (hi : i < l.length) :
    l.countP (fun x => decide (l[i] < x)) ≤ i := by
  have hrest : (l.drop i).countP (fun x => decide (l[i] < x)) = 0 := by
    rw [List.drop_eq_getElem_cons hi, List.countP_eq_zero]
    have hfrom := List.pairwise_cons.mp (List.drop_eq_getElem_cons hi ▸ h.drop (i := i))
    intro x hx
    rcases List.mem_cons.mp hx with rfl | hx
    · simp
    · simpa using hfrom.1 x hx
  have hsplit := congrArg (List.countP fun x => decide (l[i] < x)) (List.take_append_drop i l)
  rw [List.countP_append, hrest, Nat.add_zero] at hsplit
  calc l.countP (fun x => decide (l[i] < x))
      = (l.take i).countP (fun x => decide (l[i] < x)) := hsplit.symm
    _ ≤ (l.take i).length := List.countP_le_length
    _ ≤ i := List.length_take_le ..

/-- The entries up to a place lie at or above the level there. -/
theorem lt_countP_atOrAbove {l : List Level} (h : l.Pairwise (· ≥ ·)) {i : Nat} (hi : i < l.length) :
    i < l.countP (fun x => decide (l[i] ≤ x)) := by
  have hall : ∀ x ∈ l.take (i + 1), decide (l[i] ≤ x) = true := by
    intro x hx
    obtain ⟨j, hj, rfl⟩ := List.mem_take_iff_getElem.mp hx
    exact decide_eq_true (h.rel_get_of_le (a := ⟨j, by omega⟩) (b := ⟨i, hi⟩) (by simp; omega))
  calc i < (l.take (i + 1)).length := by rw [List.length_take]; omega
    _ = (l.take (i + 1)).countP (fun x => decide (l[i] ≤ x)) := (List.countP_eq_length.mpr hall).symm
    _ ≤ l.countP (fun x => decide (l[i] ≤ x)) := (List.take_sublist ..).countP_le

/-! ### Percentiles (R86) -/

/-- The valid levels of a ring from highest to lowest. -/
def rankedLevels (ring : List RingEntry) : List Level := (validLevels ring).insertionSort (· ≥ ·)

theorem rankedLevels_perm (ring : List RingEntry) : (rankedLevels ring).Perm (validLevels ring) :=
  List.perm_insertionSort ..

theorem rankedLevels_falls (ring : List RingEntry) : (rankedLevels ring).Pairwise (· ≥ ·) :=
  List.pairwise_insertionSort ..

/-- The rank is the quotient rounded up. -/
theorem percentileRank_bounds {v n : Nat} (hv : 450 ≤ v) (hn : 10 ≤ n) (hn' : n ≤ 100) :
    0 < percentileRank v n ∧ percentileRank v n ≤ v ∧ 100 * (percentileRank v n - 1) < v * n
      ∧ v * n ≤ 100 * percentileRank v n := by
  have hlow : v * 10 ≤ v * n := Nat.mul_le_mul_left v hn
  have hhigh : v * n ≤ v * 100 := Nat.mul_le_mul_left v hn'
  unfold percentileRank
  omega

theorem percentileRank_mono (v : Nat) {m n : Nat} (h : m ≤ n) : percentileRank v m ≤ percentileRank v n := by
  have := Nat.mul_le_mul_left v h
  unfold percentileRank
  omega

/-- A percentile is the ranked level at its rank, where at least 450 levels are valid. -/
theorem percentile_eq_some {ring : List RingEntry} {n : Nat} {l : Level} : percentile ring n = some l ↔
    450 ≤ (validLevels ring).length ∧ (rankedLevels ring)[percentileRank (validLevels ring).length n - 1]? = some l := by
  unfold percentile
  dsimp only
  split
  · exact iff_of_false nofun (by omega)
  · rw [and_iff_right (by omega), rankedLevels]

theorem percentile_eq_none {ring : List RingEntry} {n : Nat} (h : (validLevels ring).length < 450) :
    percentile ring n = none := if_pos h

/-- The further down the rank, the lower the level. -/
theorem percentile_falls {ring : List RingEntry} {m n : Nat} {x y : Level} (h : m ≤ n) (hx : percentile ring m = some x)
    (hy : percentile ring n = some y) : y ≤ x := by
  obtain ⟨-, hx⟩ := percentile_eq_some.mp hx
  obtain ⟨-, hy⟩ := percentile_eq_some.mp hy
  obtain ⟨hi, rfl⟩ := List.getElem?_eq_some_iff.mp hx
  obtain ⟨hj, rfl⟩ := List.getElem?_eq_some_iff.mp hy
  have hrank := percentileRank_mono (validLevels ring).length h
  exact (rankedLevels_falls ring).rel_get_of_le (a := ⟨_, hi⟩) (b := ⟨_, hj⟩) (by simp; omega)

/-- The level at the rank of a percentile, with its place among the valid levels. -/
theorem percentile_ranks {ring : List RingEntry} {n : Nat} (hv : 450 ≤ (validLevels ring).length) (hn : 10 ≤ n)
    (hn' : n ≤ 100) : ∃ l ∈ validLevels ring, percentile ring n = some l
      ∧ (validLevels ring).countP (fun x => decide (l < x)) < percentileRank (validLevels ring).length n
      ∧ percentileRank (validLevels ring).length n ≤ (validLevels ring).countP (fun x => decide (l ≤ x)) := by
  obtain ⟨hpos, hle, -⟩ := percentileRank_bounds hv hn hn'
  have hi : percentileRank (validLevels ring).length n - 1 < (rankedLevels ring).length := by
    rw [(rankedLevels_perm ring).length_eq]
    omega
  have habove := countP_above_le (rankedLevels_falls ring) hi
  have hatOrAbove := lt_countP_atOrAbove (rankedLevels_falls ring) hi
  rw [(rankedLevels_perm ring).countP_eq] at habove hatOrAbove
  exact ⟨_, (rankedLevels_perm ring).mem_iff.mp (List.getElem_mem hi),
    percentile_eq_some.mpr ⟨hv, List.getElem?_eq_getElem hi⟩, by omega, by omega⟩

/-- Settles O44: the ranked valid levels give each percentile its place, and a higher rank a lower level. -/
theorem percentilesRankValidLevels : Obligations.PercentilesRankValidLevels := by
  intro ring levels
  refine ⟨fun n hn => ⟨percentile_eq_none, fun hv => ?_⟩, fun x y z hx hy hz =>
    ⟨percentile_falls (by decide) hx hy, percentile_falls (by decide) hy hz⟩⟩
  have hrange : 10 ≤ n ∧ n ≤ 100 := by
    simp only [List.mem_cons, List.not_mem_nil, or_false] at hn
    omega
  obtain ⟨l, hmem, hl, habove, hatOrAbove⟩ := percentile_ranks hv hrange.1 hrange.2
  obtain ⟨-, -, hlow, hhigh⟩ := percentileRank_bounds hv hrange.1 hrange.2
  exact ⟨l, hmem, hl, _, hlow, hhigh, habove, hatOrAbove⟩

end Sys2Proof.Machine
end

section
/-! SUPPORT. A group slice: admission, forming, hold and onset, the second in formation, the immediate tests; O50 (R77, R78,
R80, R111, R112, R114, R115). -/
namespace Sys2Proof.Machine

/-! ### Admission and forming (R77, R78) -/

theorem admission_eq_some {r : SliceRecord} {s : Suspect} {a : Admitted} : admission r s = some a ↔ r.takenIn = .live
    ∧ ∃ l, r.levels = some l ∧ a = { levels := l, overload := r.overload, suspect := decide (s ≠ .none) } := by
  unfold admission
  split
  · rename_i hlive
    simp only [hlive, true_and, Option.map_eq_some_iff, eq_comm (a := a)]
  · rename_i hlive
    exact iff_of_false nofun fun h => hlive h.1

@[simp] theorem maxOption_none (a : Option Level) : maxOption a none = a := by cases a <;> rfl

@[simp] theorem maxOption_some (a : Option Level) (l : Level) :
    maxOption a (some l) = some (match a with | some m => max m l | none => l) := by cases a <;> rfl

/-- The fold of R78 over present levels keeps the largest. -/
theorem foldl_maxOption_some (ad : List Admitted) (m : Level) :
    ad.foldl (fun acc a => maxOption acc (some a.levels.lpk)) (some m) = some ((ad.map (·.levels.lpk)).foldl max m) := by
  induction ad generalizing m with
  | nil => rfl
  | cons a ad ih => exact ih (max m a.levels.lpk)

/-- The greatest peak of a group slice is the greatest of the peaks admitted. -/
theorem formGroupSlice_maxPeak (second index : Nat) (holdOver discarded : Bool) (ad : List Admitted) :
    (formGroupSlice second index holdOver discarded ad).maxPeak = (ad.map (·.levels.lpk)).max? := by
  cases ad with
  | nil => rfl
  | cons a ad => exact foldl_maxOption_some ad a.levels.lpk

theorem formGroupSlice_nil (second index : Nat) (holdOver discarded : Bool) :
    let x := formGroupSlice second index holdOver discarded []
    x.intensity = none ∧ x.level = none ∧ x.under = false ∧ x.maxPeak = none := ⟨rfl, rfl, rfl, rfl⟩

/-- With records admitted the slice has the level of their mean, and the peak of one that none exceeds. -/
theorem formGroupSlice_admitted {ad : List Admitted} (h : ad ≠ []) (second index : Nat) (holdOver discarded : Bool) :
    let x := formGroupSlice second index holdOver discarded ad
    let mean := meanIntensity (ad.foldl (fun acc a => addIntensity acc a.levels.intensity) []) ad.length
    x.intensity = some mean ∧ x.level = some (levelOf mean).1 ∧ x.under = (levelOf mean).2
      ∧ ∃ a ∈ ad, x.maxPeak = some a.levels.lpk ∧ ∀ b ∈ ad, b.levels.lpk ≤ a.levels.lpk := by
  intro x mean
  have hhas : (!ad.isEmpty) = true := by simpa using h
  refine ⟨if_pos hhas, if_pos hhas, by change (!ad.isEmpty && _) = _; rw [hhas, Bool.true_and], ?_⟩
  obtain ⟨p, hp⟩ := Option.isSome_iff_exists.mp (List.isSome_max?_of_ne_nil (l := ad.map (·.levels.lpk)) (by simpa using h))
  obtain ⟨hmem, hmax⟩ := List.max?_eq_some_iff.mp hp
  obtain ⟨a, ha, rfl⟩ := List.mem_map.mp hmem
  exact ⟨a, ha, (formGroupSlice_maxPeak ..).trans hp, fun b hb => hmax _ (List.mem_map_of_mem hb)⟩

/-! ### Hold, onset and the second in formation (R80, R114, R115) -/

theorem impulsive_iff {e : GroupEntry} {ad : List Admitted} : impulsive e ad = true ↔
    ∃ a ∈ ad, (e.crestThreshold : Int) ≤ (a.levels.lpk : Int) - a.levels.lt ∧ e.impulseFloor ≤ a.levels.lt := by
  simp only [impulsive, List.any_eq_true, Bool.and_eq_true, decide_eq_true_eq]
  exact Iff.rfl

/-- The table of R115: an impulse restarts the hold, and is an onset where none was held; otherwise the hold runs down. -/
theorem holdAfter_count (e : GroupEntry) (hold : Nat) (impulse : Bool) :
    (holdAfter e hold impulse).1 = if impulse then e.impulseHold else hold - 1 := by cases impulse <;> rfl

theorem holdAfter_onset (e : GroupEntry) (hold : Nat) (impulse : Bool) :
    (holdAfter e hold impulse).2 = true ↔ impulse = true ∧ hold = 0 := by cases impulse <;> simp [holdAfter]

/-- What a group slice enters in the second in formation, item by item. -/
theorem GroupForming.take_items (f : GroupForming) (x : GroupSlice) (onset : Bool) :
    let n := f.take x onset
    n.onsets = f.onsets + onset.toNat
    ∧ (x.intensity = none → n.data = f.data ∧ n.sum = f.sum)
    ∧ (∀ i, x.intensity = some i → n.data = f.data + 1 ∧ n.sum = addIntensity f.sum i)
    ∧ (x.level = none → n.maxLevel = f.maxLevel)
    ∧ (∀ l, x.level = some l → n.maxLevel = some (match f.maxLevel with | some m => max m l | none => l))
    ∧ (x.maxPeak = none → n.maxPeak = f.maxPeak)
    ∧ (∀ l, x.maxPeak = some l → n.maxPeak = some (match f.maxPeak with | some m => max m l | none => l))
    ∧ n.overload = (if x.overload then f.overload + 1 else f.overload)
    ∧ n.suspect = (f.suspect || x.suspect) ∧ n.holdOver = (f.holdOver || x.holdOver) ∧ n.membership = f.membership := by
  refine ⟨rfl, fun h => ?_, fun i h => ?_, fun h => ?_, fun l h => ?_, fun h => ?_, fun l h => ?_, ?_, rfl, rfl, rfl⟩
  iterate 6 simp [GroupForming.take, h]
  cases h : x.overload <;> simp [GroupForming.take, h]

/-! ### The immediate tests (R111, R112) -/

/-- A limit of a record that may be absent, exceeded by a level that may be absent. -/
theorem exists_limit_lt {o : Option LimitRecord} {f : LimitRecord → Option Level} {y : Option Level} :
    (∃ l limit v, o = some l ∧ f l = some limit ∧ y = some v ∧ limit < v) ↔
      ∃ limit v, o.bind f = some limit ∧ y = some v ∧ limit < v := by
  cases o with
  | none => exact iff_of_false (fun ⟨_, _, _, h, _⟩ => nomatch h) (fun ⟨_, _, h, _⟩ => nomatch h)
  | some l => exact ⟨fun ⟨_, limit, v, h, hrest⟩ => ⟨limit, v, Option.some.inj h ▸ hrest⟩,
      fun ⟨limit, v, hrest⟩ => ⟨l, limit, v, rfl, hrest⟩⟩

theorem raisesLmax_iff {run covered : Bool} {w : Window} {x : GroupSlice} : raisesLmax run covered w x = true ↔
    (run = true ∧ x.discarded = false) ∧ covered = false ∧ w.lmaxRaised = false
      ∧ ∃ l limit v, w.limit = some l ∧ l.lmax = some limit ∧ x.level = some v ∧ limit < v := by
  rw [exists_limit_lt]
  unfold raisesLmax
  cases w.limit.bind (·.lmax) with
  | none => simp
  | some limit => cases x.level <;> simp [and_assoc]

theorem raisesPeak_iff {run : Bool} {w : Window} {x : GroupSlice} : raisesPeak run w x = true ↔
    (run = true ∧ x.discarded = false) ∧ w.peakRaised = false
      ∧ ∃ l limit v, w.limit = some l ∧ l.peak = some limit ∧ x.maxPeak = some v ∧ limit < v := by
  rw [exists_limit_lt]
  unfold raisesPeak
  cases w.limit.bind (·.peak) with
  | none => simp
  | some limit => cases x.maxPeak <;> simp [and_assoc]

theorem Group.immediate_closed {gr : Group} (h : gr.openWindow = none) (g : Grp) (run covered : Bool) (x : GroupSlice) :
    gr.immediate g run covered x = (gr, []) := by
  rw [Group.immediate, h]

/-- An open window takes the marks of the tests that hold, and each of them hands its event over. -/
theorem Group.immediate_open {gr : Group} {w : Window} (h : gr.openWindow = some w) (g : Grp) (run covered : Bool)
    (x : GroupSlice) :
    let t := gr.immediate g run covered x
    t.1 = { gr with openWindow := some { w with
      lmaxRaised := w.lmaxRaised || raisesLmax run covered w x, peakRaised := w.peakRaised || raisesPeak run w x } }
    ∧ t.2.flatten =
      (if raisesLmax run covered w x then [.event { Event.plain x.second .lmax (.group g) with
        level := x.level, limit := w.limit.bind (·.lmax), period := some w.period }] else [])
      ++ if raisesPeak run w x then [.event { Event.plain x.second .peak (.group g) with
        level := x.maxPeak, limit := w.limit.bind (·.peak), period := some w.period }] else [] := by
  dsimp only [Group.immediate]
  rw [h]
  exact ⟨rfl, by simp only [List.flatten_cons, List.flatten_nil, List.append_nil]⟩

/-! ### O50 -/

/-- Settles O50: admission and forming, then the hold and the second in formation, then the two tests. -/
theorem groupSlicesFollowTheirTables : Obligations.GroupSlicesFollowTheirTables := by
  refine ⟨fun r s a => admission_eq_some, fun second index holdOver discarded ad => ?_, fun gr e x ad => ?_,
    fun gr g run excluded x => ?_⟩
  · refine ⟨rfl, rfl, rfl, rfl, rfl, ?_, fun h => formGroupSlice_admitted h .., List.any_eq_true, List.any_eq_true⟩
    rintro rfl
    exact formGroupSlice_nil ..
  · intro impulse t
    have himpulse : impulse ↔ impulsive e ad = true := impulsive_iff.symm
    rw [himpulse]
    refine ⟨fun h => ?_, fun h => ?_, rfl, rfl, rfl, rfl, fun h => ?_, fun f h => ?_⟩
    · exact (holdAfter_count ..).trans (if_pos h)
    · exact (holdAfter_count ..).trans (if_neg h)
    · exact congrArg (Option.map _) h
    · obtain ⟨honsets, hrest⟩ := f.take_items x (holdAfter e gr.holdCount (impulsive e ad)).2
      have honset := holdAfter_onset e gr.holdCount (impulsive e ad)
      refine ⟨_, congrArg (Option.map _) h, fun hi h0 => ?_, fun hno => ?_, hrest⟩
      · rw [honsets, honset.mpr ⟨hi, h0⟩, Bool.toNat_true]
      · rw [honsets, Bool.eq_false_iff.mpr fun hon => not_and_or.mpr hno (honset.mp hon), Bool.toNat_false, Nat.add_zero]
  · intro t
    refine ⟨fun h => by rw [show t = _ from Group.immediate_closed h g run excluded x]; exact ⟨rfl, rfl⟩, fun w h => ?_⟩
    intro live lmax peak event first second
    obtain ⟨hgroup, hevents⟩ := Group.immediate_open h g run excluded x
    have hlmax : raisesLmax run excluded w x = true ↔ lmax := raisesLmax_iff
    have hpeak : raisesPeak run w x = true ↔ peak := raisesPeak_iff
    rw [← hlmax, ← hpeak, show t.2.flatten = _ from hevents]
    refine ⟨fun hl hp => ?_, fun hl hp => ?_, fun hl hp => ?_, fun hl hp => ?_, _, hgroup, rfl, ?_, ?_⟩
    · rw [if_pos hl, if_pos hp]; rfl
    · rw [if_pos hl, if_neg hp]; rfl
    · rw [if_neg hl, if_pos hp]; rfl
    · rw [if_neg hl, if_neg hp]; rfl
    · rw [Bool.or_eq_true]
    · rw [Bool.or_eq_true]

end Sys2Proof.Machine
end

section
/-! SUPPORT. The rings: what each command leaves of the running seconds in them, and O57 (R82, R84). -/
namespace Sys2Proof.Machine

/-! ### Running seconds in order -/

/-- The running seconds of a ring that is in order before a second: at most 900, rising, none of them reached (R82, R84). -/
structure Ordered (now : Nat) (seconds : List Nat) : Prop where
  length : seconds.length ≤ 900
  rising : rising now seconds

theorem Ordered.nil (now : Nat) : Ordered now [] := ⟨Nat.zero_le _, .nil, nofun⟩

/-- Time goes on. -/
theorem Ordered.mono {m n : Nat} {l : List Nat} (h : Ordered m l) (hmn : m ≤ n) : Ordered n l :=
  ⟨h.length, h.rising.1, fun x hx => (h.rising.2 x hx).trans_le hmn⟩

/-- The second that closes goes in at the end, the oldest giving way in a full ring. -/
theorem Ordered.enter {now : Nat} {l : List Nat} (h : Ordered now l) : Ordered (now + 1) (enterRing now l) := by
  obtain ⟨hlength, hrising, hbelow⟩ := h
  have hkept : ∀ x ∈ l.drop (l.length - 899), x < now := fun x hx => hbelow x (List.mem_of_mem_drop hx)
  rw [enterRing_eq]
  refine ⟨by rw [List.length_append, List.length_drop, List.length_singleton]; omega, ?_, fun x hx => ?_⟩
  · refine List.pairwise_append.mpr ⟨hrising.drop, List.pairwise_singleton .., fun x hx y hy => ?_⟩
    rw [List.mem_singleton.mp hy]
    exact hkept x hx
  · rcases List.mem_append.mp hx with hx | hx
    · exact Nat.lt_succ_of_lt (hkept x hx)
    · rw [List.mem_singleton.mp hx]
      exact Nat.lt_succ_self now

theorem map_enterRing {α β : Type} (f : α → β) (x : α) (ring : List α) :
    (enterRing x ring).map f = enterRing (f x) (ring.map f) := by
  simp only [enterRing_eq, List.map_append, List.map_drop, List.length_map, List.map_cons, List.map_nil]

/-- What a boundary may make of the running seconds of a ring: it clears them, leaves them, or, a second boundary, enters the
second that closes. -/
def TurnsTo (second : Bool) (now : Nat) (old new : List Nat) : Prop :=
  new = [] ∨ new = old ∨ (second = true ∧ new = enterRing now old)

theorem Ordered.turn {b : Bool} {now : Nat} {old new : List Nat} (h : Ordered now old) (ht : TurnsTo b now old new) :
    Ordered (now + b.toNat) new := by
  rcases ht with rfl | rfl | ⟨rfl, rfl⟩
  · exact .nil _
  · exact h.mono (Nat.le_add_right ..)
  · exact h.enter

/-! ### The law, ring by ring -/

/-- The running seconds in the ring of a channel, and of a group. -/
def State.channelSeconds (s : State) (c : Chan) : List Nat := s.channels[c].ring.map (·.second)
def State.groupSeconds (s : State) (g : Grp) : List Nat := s.groups[g].ring.map (·.second)

theorem State.ringLaw_iff (s : State) : s.ringLaw ↔ (∀ c, Ordered s.time.runningSecond (s.channelSeconds c))
    ∧ ∀ g, Ordered s.time.runningSecond (s.groupSeconds g) := by
  refine and_congr (forall_congr' fun c => ?_) (forall_congr' fun g => ?_)
  · rw [← List.length_map (·.second)]
    exact ⟨fun ⟨h1, h2⟩ => ⟨h1, h2⟩, fun ⟨h1, h2⟩ => ⟨h1, h2⟩⟩
  · rw [← List.length_map (·.second)]
    exact ⟨fun ⟨h1, h2⟩ => ⟨h1, h2⟩, fun ⟨h1, h2⟩ => ⟨h1, h2⟩⟩

/-- Two states in the same running second, with the same running seconds in their rings. -/
structure SameRings (s t : State) : Prop where
  now : t.time.runningSecond = s.time.runningSecond
  channels : ∀ c, t.channelSeconds c = s.channelSeconds c
  groups : ∀ g, t.groupSeconds g = s.groupSeconds g

/-- Where the channels hold what they held, and the groups stand. -/
theorem SameHeld.sameRings {s t : State} (h : SameHeld s t) (hn : t.time.runningSecond = s.time.runningSecond)
    (hg : t.groups = s.groups) : SameRings s t where
  now := hn
  channels c := by rw [State.channelSeconds, (h.channels c).ring]; rfl
  groups g := by rw [State.groupSeconds, hg]; rfl

/-- Where the channels themselves stand, and the rings of the groups. -/
theorem SameRings.of_channels {s t : State} (hn : t.time.runningSecond = s.time.runningSecond)
    (hc : t.channels = s.channels) (hg : ∀ g, t.groupSeconds g = s.groupSeconds g) : SameRings s t :=
  ⟨hn, fun c => by rw [State.channelSeconds, hc]; rfl, hg⟩

theorem SameRings.of_eq {s t : State} (hn : t.time.runningSecond = s.time.runningSecond)
    (hc : t.channels = s.channels) (hg : t.groups = s.groups) : SameRings s t :=
  .of_channels hn hc fun g => by rw [State.groupSeconds, hg]; rfl

theorem State.ringLaw.congr {s t : State} (h : s.ringLaw) (e : SameRings s t) : t.ringLaw := by
  rw [State.ringLaw_iff] at h ⊢
  rw [e.now]
  exact ⟨fun c => e.channels c ▸ h.1 c, fun g => e.groups g ▸ h.2 g⟩

/-- A request keeps the law where its rule does. -/
theorem State.ringLaw.serve {s : State} {code : Byte} {w b : Bool} {r : Request} {rule : State → Reply}
    (h : s.ringLaw) (hr : (rule s).state.ringLaw) : (s.serve code w b r rule).ringLaw :=
  State.serve_keeps (Q := State.ringLaw) (fun _ _ _ h => h.congr (.of_eq (by simp) (by simp) (by simp)))
    (fun _ _ _ _ _ _ h => h.congr (.of_eq rfl rfl rfl)) (fun _ _ h => h.congr (.of_eq rfl rfl rfl)) h hr

/-! ### What requests leave of the rings -/

/-- The entry to RUN and the change to CONFIG move the windows and alerts of a group (R113, R129, R183). -/
theorem State.enterRun_sameRings (s : State) : SameRings s s.enterRun :=
  .of_channels rfl rfl fun g => by simp [State.groupSeconds, State.enterRun, Group.enterRun]

theorem State.leaveRun_sameRings (s : State) : SameRings s s.leaveRun :=
  .of_channels rfl rfl fun g => by simp [State.groupSeconds, Group.leaveRun, Group.handLimit_eq]

/-- A RESTART leaves every ring empty (R186). -/
theorem State.ringLaw_restart (s : State) : s.restart.ringLaw := by
  rw [State.ringLaw_iff]
  refine ⟨fun c => ?_, fun g => ?_⟩
  · rw [State.channelSeconds, State.restart_channel]
    exact .nil _
  · rw [State.groupSeconds, State.restart_group]
    exact .nil _

theorem Group.subtractAll_ring (gr : Group) (rs : List GroupSecond) : (gr.subtractAll rs).1.ring = gr.ring := by
  unfold Group.subtractAll
  generalize 0 = n
  induction rs generalizing gr n with
  | nil => rfl
  | cons r rs ih => exact ih (gr.subtractRecord r).1 _

/-- A new exclusion marks records, and moves none (R122). -/
theorem Group.excludeMasked_seconds (gr : Group) (g : Grp) (x : Exclusion) (now : Nat) :
    (gr.excludeMasked g x now).ring.map (·.second) = gr.ring.map (·.second) := by
  unfold Group.excludeMasked
  split
  · rw [Group.exclude, Group.subtractAll_ring, List.map_map]
    refine List.map_congr_left fun r _ => ?_
    rw [Function.comp_apply]
    split <;> rfl
  · rfl

theorem State.addExclusion_sameRings (s : State) (x : Exclusion) : SameRings s (s.addExclusion x) :=
  .of_channels rfl rfl fun g => by
    simpa [State.groupSeconds, State.addExclusion] using Group.excludeMasked_seconds ..

/-- Every request keeps the law: only RESTART clears rings, and none enters a record in one. -/
theorem State.ringLaw.serveCode {s : State} (code : Byte) (r : Request) (h : s.ringLaw) : (serveCode code r s).ringLaw := by
  have kept {t : State} (hn : t.time.runningSecond = s.time.runningSecond) (hc : t.channels = s.channels)
      (hg : t.groups = s.groups) : t.ringLaw := h.congr (.of_eq hn hc hg)
  unfold Machine.serveCode
  split
  case h_1 => exact h.serve h
  case h_2 | h_3 => exact h.serve (takeAlways_state h fun _ _ => h)
  case h_4 =>
    refine h.serve (takeOutsideBoot_state h fun _ _ _ => ?_)
    split_ifs
    any_goals exact h
    · exact h.congr s.enterRun_sameRings
    · exact h.congr s.leaveRun_sameRings
  case h_5 =>
    refine h.serve (takeAlways_state h fun _ _ => ?_)
    split_ifs <;> exact kept rfl rfl rfl
  case h_6 | h_8 =>
    refine h.serve (takeOutsideBoot_state h fun _ _ _ => ?_)
    split_ifs <;> exact kept rfl rfl rfl
  case h_7 =>
    refine h.serve (takeOutsideBoot_state h fun _ _ _ => ?_)
    split_ifs
    · exact h
    · exact s.ringLaw_restart
  case h_9 | h_10 | h_13 | h_14 =>
    split
    · exact h.serve (takeOutsideBoot_state h fun _ _ _ => kept rfl rfl rfl)
    · exact h.serve (takeOutsideBoot_state h fun _ _ _ => by split <;> exact h)
  case h_11 | h_15 | h_19 =>
    refine h.serve (takeOutsideBoot_state h fun _ _ _ => ?_)
    split
    · exact h
    · split <;> exact kept rfl rfl rfl
  case h_16 =>
    refine h.serve (takeOutsideBoot_state h fun _ _ _ => ?_)
    split
    · exact h
    · split
      · exact h
      · exact h.congr (s.addExclusion_sameRings _)
  case h_12 =>
    split
    · refine h.serve (takeAlways_state h fun _ _ => ?_)
      split_ifs <;> exact kept rfl rfl rfl
    · exact h.serve (takeOutsideBoot_state h fun _ _ _ => h)
  case h_17 | h_18 | h_20 => exact h.serve (takeOutsideBoot_state h fun _ _ _ => by split <;> exact kept rfl rfl rfl)
  case h_21 =>
    have hended := h.congr ((s.endCheck_sameHeld .abort).sameRings (by simp) (by simp))
    exact h.serve (takeOutsideBoot_state h fun _ _ _ => hended.congr (.of_eq rfl rfl rfl))
  case h_22 | h_23 | h_24 | h_25 => exact h.serve (takeOutsideBoot_state h fun _ _ _ => h)
  case h_26 | h_27 => exact h.serve (takeAlways_state h fun _ _ => by split <;> exact kept rfl rfl rfl)

/-! ### Boundaries (R81, R82, R84, R85) -/

section
variable {s : State} {b : Bool}

/-- A channel's second closes at a second boundary alone, under its own running second. -/
theorem State.closedSecond_second {c : Chan} {x : ChannelSecond} (h : s.closedSecond b c = some x) :
    b = true ∧ x.second = s.time.runningSecond := by
  cases b with
  | false => rw [State.closedSecond_false] at h; cases h
  | true =>
    rw [State.closedSecond_true] at h
    split at h
    · cases h
    · obtain ⟨f, -, rfl⟩ := Option.map_eq_some_iff.mp h
      exact ⟨rfl, rfl⟩

theorem State.boundary_channelSeconds (c : Chan) :
    TurnsTo b s.time.runningSecond (s.channelSeconds c) ((s.boundary b).channelSeconds c) := by
  have hring : (s.boundary b).channelSeconds c = (s.turnedChannel b c).ring.map (·.second) := by
    rw [State.channelSeconds, State.boundary_channel_frame]
  rw [hring, State.turnedChannel_ring]
  split
  · exact .inl rfl
  · cases hx : s.closedSecond b c with
    | none => exact .inr (.inl rfl)
    | some x =>
      obtain ⟨hb, hsecond⟩ := State.closedSecond_second hx
      refine .inr (.inr ⟨hb, (map_enterRing ..).trans ?_⟩)
      rw [show x.entry.second = _ from hsecond]
      rfl

/-- The group slice of a boundary leaves the ring. -/
theorem State.slicedGroup_ring (g : Grp) : (s.slicedGroup g).1.ring = s.groups[g].ring := by
  cases h : s.router.active.groups[g].enabled with
  | true => rw [s.slicedGroup_enabled g h]
  | false => rw [s.slicedGroup_disabled g h]

theorem State.boundary_groupSeconds (g : Grp) :
    TurnsTo b s.time.runningSecond (s.groupSeconds g) ((s.boundary b).groupSeconds g) := by
  cases b with
  | false =>
    refine .inr (.inl ?_)
    rw [State.groupSeconds, State.boundary_group_inside, State.slicedGroup_ring]
    rfl
  | true =>
    change TurnsTo true _ _ ((s.boundary true).groups[g].ring.map (·.second))
    rw [State.boundary_group_ring, State.ringAfterClose, State.slicedGroup_ring]
    split
    · cases (s.slicedGroup g).1.forming with
      | none => exact .inr (.inl rfl)
      | some f => exact .inr (.inr ⟨rfl, map_enterRing ..⟩)
    · exact .inr (.inl rfl)

/-- A second boundary opens the next running second. -/
theorem State.boundary_now : (s.boundary b).time.runningSecond = s.time.runningSecond + b.toNat := by
  rw [State.boundary_runningSecond]
  cases b with
  | false => rfl
  | true => exact s.opening_true_time_fields.1

theorem State.ringLaw.boundary (b : Bool) (h : s.ringLaw) : (s.boundary b).ringLaw := by
  rw [State.ringLaw_iff] at h ⊢
  rw [State.boundary_now]
  exact ⟨fun c => (h.1 c).turn (State.boundary_channelSeconds c), fun g => (h.2 g).turn (State.boundary_groupSeconds g)⟩

end

/-! ### Frame periods, the link, the boot image and cells -/

theorem State.ringLaw.advance {s : State} (h : s.ringLaw) : s.advance.ringLaw := by
  unfold State.advance
  dsimp only
  split
  · exact h.congr (.of_eq rfl rfl rfl)
  · exact State.ringLaw.boundary _ (h.congr (.of_eq rfl rfl rfl))

theorem State.loseLink_sameRings (s : State) : SameRings s s.loseLink :=
  s.loseLink_sameHeld.sameRings (by simp [TimeBase.lose]) (by simp [State.loseLink])

theorem State.regainLink_sameRings (s : State) : SameRings s s.regainLink :=
  s.regainLink_sameHeld.sameRings (by simp [TimeBase.regain]) (by simp)

theorem TimeBase.countPeriod_runningSecond (t : TimeBase) (good : Bool) :
    (t.countPeriod good).runningSecond = t.runningSecond := by
  unfold TimeBase.countPeriod
  split <;> rfl

theorem State.ringLaw.countRuns {s : State} (good : Bool) (h : s.ringLaw) : (s.countRuns good).ringLaw := by
  have hcounted : ({ s with time := s.time.countPeriod good } : State).ringLaw :=
    h.congr (.of_eq (s.time.countPeriod_runningSecond good) rfl rfl)
  unfold State.countRuns
  dsimp only
  split_ifs
  · exact (h.congr s.loseLink_sameRings).congr (.of_eq rfl rfl rfl)
  · exact hcounted.congr (State.regainLink_sameRings _)
  · exact hcounted

/-- The end of the load leaves the rings, whichever mode it enters (R190). -/
theorem State.endLoad_sameRings (s : State) (m : MemoryRead) : SameRings s (s.endLoad m) := by
  unfold State.endLoad
  dsimp only
  split
  · exact .of_eq rfl rfl rfl
  · split
    · have he := State.enterRun_sameRings
        (State.acceptImage { s with control := { s.control with portLog := portActs m } } ‹_› (imageAutoRun m))
      exact ⟨he.now, he.channels, he.groups⟩
    · exact .of_eq rfl rfl rfl

theorem State.spoil_sameRings (s : State) (bytes : List Byte) (f : CellFault) : SameRings s (s.spoil bytes f) := by
  unfold State.spoil
  split
  · exact .of_eq rfl rfl rfl
  · split <;> exact .of_eq rfl rfl rfl

theorem State.ringLaw.takeCell {s : State} (cell : Cell) (h : s.ringLaw) : (s.takeCell cell).ringLaw := by
  have hup : ({ s with trunk := s.trunk.forwardUp cell } : State).ringLaw := h.congr (.of_eq rfl rfl rfl)
  unfold State.takeCell
  dsimp only
  split
  · split
    · exact h.serveCode _ _
    · exact h.congr (.of_eq rfl rfl rfl)
  · split
    · exact hup.serveCode _ _
    · exact h.congr (.of_eq rfl rfl rfl)
  · exact hup

theorem State.ringLaw.receiveCell {s : State} (bytes : List Byte) (h : s.ringLaw) : (s.receiveCell bytes).ringLaw := by
  obtain ⟨u, hu, hr⟩ := s.receiveCell_cases bytes
  have hfirst : u.ringLaw := by
    rcases hu with rfl | ⟨arrived, rfl⟩
    · exact h
    · exact h.congr (s.spoil_sameRings _ _)
  rcases hr with hr | ⟨p, hr⟩ | ⟨cell, hr⟩ <;> rw [hr]
  · exact (hfirst.congr (u.spoil_sameRings _ _)).congr (.of_eq rfl rfl rfl)
  · exact hfirst.congr (.of_eq rfl rfl rfl)
  · exact State.ringLaw.takeCell (s := u.withParser .hunting) _ (hfirst.congr (.of_eq rfl rfl rfl))

/-! ### The step -/

/-- Every command keeps the rings in order. -/
theorem exec_ringLaw {i : Instr} {s t : State} (h : s.ringLaw) (hi : exec i s = .next t) : t.ringLaw := by
  cases hc : codedRequest i with
  | some x =>
    rw [exec_coded hc] at hi
    obtain rfl := Host.Outcome.next.inj hi
    exact h.serveCode _ _
  | none =>
    cases i with
    | powerOn n =>
      obtain rfl := Host.Outcome.next.inj hi
      exact State.reset_ringLaw.congr (.of_eq rfl rfl rfl)
    | bootLoadEnd m =>
      change execBootLoadEnd m s = _ at hi
      unfold execBootLoadEnd at hi
      split at hi <;> obtain rfl := Host.Outcome.next.inj hi
      · exact h.congr (s.endLoad_sameRings m)
      · exact h
    | sampleFrame f =>
      obtain rfl := Host.Outcome.next.inj hi
      have hcounted := h.advance.countRuns (goodFrame f)
      split
      · exact hcounted.congr ((State.carryGood_sameHeld ..).sameRings (by simp) (by simp))
      · exact hcounted.congr (.of_eq rfl rfl rfl)
    | framePeriod =>
      obtain rfl := Host.Outcome.next.inj hi
      exact (h.advance.countRuns false).congr (.of_eq rfl rfl rfl)
    | linkLoss =>
      change execLinkLoss s = _ at hi
      unfold execLinkLoss at hi
      split at hi <;> obtain rfl := Host.Outcome.next.inj hi
      · exact h.congr s.loseLink_sameRings
      · exact h
    | linkRestoration =>
      change execLinkRestoration s = _ at hi
      unfold execLinkRestoration at hi
      split at hi <;> obtain rfl := Host.Outcome.next.inj hi
      · exact h.congr s.regainLink_sameRings
      · exact h
    | sliceBoundary =>
      obtain rfl := Host.Outcome.next.inj hi
      exact (h.boundary _).congr (.of_eq rfl rfl rfl)
    | secondBoundary =>
      change execSecondBoundary s = _ at hi
      unfold execSecondBoundary at hi
      split at hi <;> obtain rfl := Host.Outcome.next.inj hi
      · exact h.congr (.of_eq rfl rfl rfl)
      · exact h.boundary true
    | intervalTimerExpiry c =>
      change execIntervalTimerExpiry c s = _ at hi
      unfold execIntervalTimerExpiry at hi
      split at hi <;> obtain rfl := Host.Outcome.next.inj hi
      · exact h.congr (((s.set_account_sameHeld c _).trans (State.emit_sameHeld ..)).sameRings (by simp) (by simp))
      · exact h
    | controlCell bytes => obtain rfl := Host.Outcome.next.inj hi; exact h.receiveCell _
    | cellTimeout arrived mark =>
      obtain rfl := Host.Outcome.next.inj hi
      exact (h.congr (s.spoil_sameRings _ _)).congr (.of_eq rfl rfl rfl)
    | cellLengthFault arrived =>
      obtain rfl := Host.Outcome.next.inj hi
      exact (h.congr (s.spoil_sameRings _ _)).congr (.of_eq rfl rfl rfl)
    | passThroughCell cell => obtain rfl := Host.Outcome.next.inj hi; exact h.congr (.of_eq rfl rfl rfl)
    | forwardCellWindow => obtain rfl := Host.Outcome.next.inj hi; exact h.congr (.of_eq rfl rfl rfl)
    | returnLaneSend => obtain rfl := Host.Outcome.next.inj hi; exact h.congr (.of_eq rfl rfl rfl)
    | _ => cases hc

/-- Settles O57: every command keeps the rings in order, and an idle step changes nothing. -/
theorem ringsStayInOrder : Obligations.RingsStayInOrder := by
  intro s t hlaw h
  unfold step at h
  split at h
  · obtain rfl := Host.Outcome.next.inj h
    exact hlaw
  · rename_i rest _
    exact exec_ringLaw (s := { s with pending := rest }) (hlaw.congr (.of_eq rfl rfl rfl)) h

end Sys2Proof.Machine
end

section
/-! SUPPORT. What a retroactive exclusion leaves of a group's windows (R105, R122). -/
namespace Sys2Proof.Machine

/-- A window less those of some records that it took (R105). -/
def Window.less (w : Window) (rs : List GroupSecond) : Window :=
  rs.foldl (fun w r => if w.took r then w.subtract r else w) w

theorem Window.less_nil (w : Window) : w.less [] = w := rfl

theorem Window.less_cons (w : Window) (r : GroupSecond) (rs : List GroupSecond) :
    w.less (r :: rs) = (if w.took r then w.subtract r else w).less rs := rfl

/-- A subtraction moves the counts and the flags of a window alone. -/
theorem Window.less_kept (rs : List GroupSecond) (w : Window) :
    (w.less rs).period = w.period ∧ (w.less rs).limit = w.limit := by
  induction rs generalizing w with
  | nil => exact ⟨rfl, rfl⟩
  | cons r rs ih =>
    rw [Window.less_cons]
    split
    · exact ih (w.subtract r)
    · exact ih w

/-- So what a window took does not hang on what has been subtracted from it. -/
theorem Window.took_subtract (w : Window) (r : GroupSecond) : (w.subtract r).took = w.took := rfl

/-- Records subtracted in turn reach the open window and the due ones, and nothing else of the group. -/
theorem Group.subtractAll_group (gr : Group) (rs : List GroupSecond) : (gr.subtractAll rs).1 = { gr with
    openWindow := gr.openWindow.map (·.less rs), dueWindows := gr.dueWindows.map (·.less rs) } := by
  unfold Group.subtractAll
  generalize 0 = n
  induction rs generalizing gr n with
  | nil => simp [Window.less_nil]
  | cons r rs ih =>
    rw [List.foldl_cons, ih]
    simp only [Group.subtractRecord, Option.map_map, List.map_map]
    rfl

/-- A group under a new entry: the records that it reaches are marked, and taken out of the windows that took them (R122). -/
theorem Group.exclude_group (gr : Group) (x : Exclusion) (now : Nat) : (gr.exclude x now).1 = { gr with
    ring := gr.ring.map fun r => if x.reaches now r then { r with excluded := true } else r
    openWindow := gr.openWindow.map (·.less (gr.ring.filter (x.reaches now)))
    dueWindows := gr.dueWindows.map (·.less (gr.ring.filter (x.reaches now))) } := by
  rw [Group.exclude, Group.subtractAll_group]

end Sys2Proof.Machine
end

section
/-! SUPPORT. Windows and alerts: what each command leaves of them, and O58 (R14, R99, R106, R113, R126, R128, R129). -/
namespace Sys2Proof.Machine

/-! ### The law, group by group -/

/-- A group with no window open unless one may be, its alert against the record of its open window, and ON only against a
level (R126, R128). -/
structure Group.Tended (may : Prop) (gr : Group) : Prop where
  may : gr.openWindow.isSome = true → may
  level : gr.alertLevel = (gr.openWindow.bind (·.limit)).bind (·.alert)
  period : gr.alertPeriod = gr.openWindow.map (·.period)
  on : gr.alertOn = true → gr.alertLevel.isSome = true

theorem State.windowLaw_iff (s : State) : s.windowLaw ↔ ∀ g : Grp,
    s.groups[g].Tended (s.control.mode = .run ∧ s.router.active.groups[g].enabled = true) ∧ s.groups[g].dueWindows = [] :=
  forall_congr' fun _ =>
    ⟨fun ⟨hmay, hdue, hlevel, hperiod, hon⟩ => ⟨⟨hmay, hlevel, hperiod, hon⟩, hdue⟩,
      fun ⟨⟨hmay, hlevel, hperiod, hon⟩, hdue⟩ => ⟨hmay, hdue, hlevel, hperiod, hon⟩⟩

section
variable {P Q : Prop} {a b : Group}

theorem Group.Tended.imp (h : a.Tended P) (hpq : a.openWindow.isSome = true → P → Q) : a.Tended Q :=
  { h with may := fun ho => hpq ho (h.may ho) }

/-- Only the period and the record of the open window count, and the alert. -/
theorem Group.Tended.congr (h : a.Tended P)
    (ho : b.openWindow.map (fun w => (w.period, w.limit)) = a.openWindow.map fun w => (w.period, w.limit))
    (hl : b.alertLevel = a.alertLevel) (hp : b.alertPeriod = a.alertPeriod)
    (hon : b.alertOn = true → a.alertOn = true ∨ a.alertLevel.isSome = true) : b.Tended P := by
  have hsome : b.openWindow.isSome = a.openWindow.isSome := by simpa using congrArg Option.isSome ho
  have hlimit : b.openWindow.bind (·.limit) = a.openWindow.bind (·.limit) := by
    simpa [Option.bind_map, Function.comp_def] using congrArg (Option.bind · Prod.snd) ho
  have hperiod : b.openWindow.map (·.period) = a.openWindow.map (·.period) := by
    simpa [Option.map_map, Function.comp_def] using congrArg (Option.map Prod.fst) ho
  refine ⟨fun h' => h.may (hsome ▸ h'), ?_, ?_, fun h' => ?_⟩
  · rw [hl, h.level, hlimit]
  · rw [hp, h.period, hperiod]
  · rw [hl]
    exact (hon h').elim h.on id

/-- A window may be changed in anything but its period and its record. -/
theorem Group.Tended.map_window (h : a.Tended P) {f : Window → Window} (ho : b.openWindow = a.openWindow.map f)
    (hf : ∀ w, (f w).period = w.period ∧ (f w).limit = w.limit) (hl : b.alertLevel = a.alertLevel) (hp : b.alertPeriod = a.alertPeriod) (hon : b.alertOn = a.alertOn) :
    b.Tended P := by
  refine h.congr ?_ hl hp fun h' => .inl (hon ▸ h')
  rw [ho, Option.map_map]
  exact congrArg (Option.map · _) (funext fun w => Prod.ext (hf w).1 (hf w).2)

/-- A group without a window and without an alert. -/
theorem Group.Tended.closed (ho : a.openWindow = none) (hl : a.alertLevel = none) (hp : a.alertPeriod = none)
    (hon : a.alertOn = false) : a.Tended P where
  may h := by rw [ho] at h; cases h
  level := by rw [hl, ho]; rfl
  period := by rw [hp, ho]; rfl
  on h := by rw [hon] at h; cases h

/-- A hand-over that follows the open window (R126, R129). -/
theorem Group.Tended.handLimit {g : Grp} {n : Nat} (hmay : a.openWindow.isSome = true → P) :
    (a.handLimit g (a.openWindow.bind (·.limit)) (a.openWindow.map (·.period)) n).1.Tended P := by
  rw [Group.handLimit_eq]
  exact ⟨hmay, rfl, rfl, fun h => (Bool.and_eq_true_iff.mp h).2⟩

end

/-! ### What the reaches and the close of a second leave (R99, R106, R127, R128) -/

theorem Group.Tended.countSkipped {P : Prop} {gr : Group} (h : gr.Tended P) (p : Handed) : (gr.countSkipped p).Tended P :=
  h.map_window (gr.countSkipped_openWindow p) (fun w => by split <;> exact ⟨rfl, rfl⟩) (by simp) (by simp) (by simp)

/-- Whether a window may be open at a handed position: in RUN, of a group enabled now, or, as the first one is met, before the
activation (R14, R106). -/
def ReachContext.mayOpen (x : ReachContext) (first : Bool) : Prop :=
  x.run = true ∧ (x.enabled = true ∨ (first = true ∧ x.wasEnabled = true))

section
variable {gr : Group} {x : ReachContext} {r : Reach} {first : Bool}

theorem Group.openHere_mayOpen {w : Window} (h : gr.openHere x r first = some w) : x.mayOpen false := by
  have hno := fun h' => Option.some_ne_none w (h.symm.trans (Group.openHere_none (gr := gr) (r := r) (first := first) h'))
  refine ⟨?_, .inl ?_⟩
  · exact (Bool.not_eq_false _).mp fun hr => hno (.inl hr)
  · exact (Bool.not_eq_false _).mp fun he => hno (.inr (.inl he))

/-- A handed position leaves the alert with the window: the window that opens hands its record over, one that came due leaves
none, and one that stays open is of a group that stays enabled. -/
theorem Group.Tended.reach (h : gr.Tended (x.mayOpen first)) : (gr.reach x r first).1.Tended (x.mayOpen false) := by
  cases hh : (gr.comeDue x r first).openHere x r first with
  | some w =>
    rw [Group.reach_opens hh]
    exact (Group.Tended.handLimit (a := { gr.comeDue x r first with openWindow := some w })
      fun _ => Group.openHere_mayOpen hh).countSkipped _
  | none =>
    by_cases hfree : ∀ w, gr.openWindow = some w → r.ends w ∨ x.cuts r first
    · obtain ⟨hnone, halert⟩ := Group.reach_closed hfree hh
      cases hw : gr.openWindow with
      | some w =>
        obtain ⟨hlevel, hperiod, hon⟩ := halert (by rw [hw]; rfl)
        exact .closed hnone hlevel hperiod hon
      | none =>
        have hlevel : gr.alertLevel = none := by rw [h.level, hw]; rfl
        have hperiod : gr.alertPeriod = none := by rw [h.period, hw]; rfl
        have hon : gr.alertOn = false := Bool.eq_false_iff.mpr fun ho => by simpa [hlevel] using h.on ho
        have hdue := Group.comeDue_none (x := x) (r := r) (first := first) hw
        rw [hdue] at hh
        refine .closed hnone ?_ ?_ ?_
        all_goals
          simp only [Group.reach, hdue, hh, hw, Option.isSome_none, Bool.false_and, Bool.false_or]
          split <;> simp [Group.handLimit_eq, hlevel, hperiod, hon]
    · obtain ⟨w, hw, hno⟩ : ∃ w, gr.openWindow = some w ∧ ¬(r.ends w ∨ x.cuts r first) := by
        simpa only [not_forall, exists_prop] using hfree
      obtain ⟨hends, hcuts⟩ := not_or.mp hno
      rw [Group.reach_kept hw hends hcuts]
      refine (h.imp fun _ hmay => ⟨hmay.1, .inl ?_⟩).countSkipped _
      rcases hmay.2 with he | ⟨hf, hwas⟩
      · exact he
      · exact (Bool.not_eq_false _).mp fun he => hcuts (.inr ⟨hf, hwas, he⟩)

theorem Group.Tended.reachList : ∀ (l : List Reach) {first : Bool} {gr : Group}, gr.Tended (x.mayOpen first) →
    (Group.reachList x first l gr).1.Tended (x.mayOpen (first && l.isEmpty))
  | [], first, _, h => by simpa [Group.reachList] using h
  | r :: l, first, gr, h => by
    have hrest := Group.Tended.reachList l (h.reach (r := r))
    simpa [Group.reachList] using hrest

end

/-- A record changes no window's period and no record of limits. -/
theorem Group.windowRecord_window (gr : Group) (r : GroupSecond) (first : Bool) : ∃ f : Window → Window,
    (∀ w, (f w).period = w.period ∧ (f w).limit = w.limit)
      ∧ (gr.windowRecord r first).openWindow = gr.openWindow.map f := by
  unfold Group.windowRecord
  split
  · exact ⟨(·.told r), fun w => ⟨rfl, rfl⟩, rfl⟩
  · refine ⟨_, fun w => ?_, rfl⟩
    dsimp only
    split
    · simp only [Window.markMembership, Window.takeRecord]
      split <;> exact ⟨rfl, rfl⟩
    · exact ⟨rfl, rfl⟩

theorem Group.Tended.windowRecord {P : Prop} {gr : Group} (h : gr.Tended P) (r : GroupSecond) (first : Bool) :
    (gr.windowRecord r first).Tended P := by
  obtain ⟨f, hf, ho⟩ := gr.windowRecord_window r first
  exact h.map_window ho hf (by simp) (by rw [Group.windowRecord_frame]) (by simp)

/-- The rolling alert turns ON against a level alone (R128). -/
theorem Group.Tended.rollingAlert {P : Prop} {gr : Group} (h : gr.Tended P) (g : Grp) (e : GroupEntry) (n : Nat) :
    (gr.rollingAlert g e n).1.Tended P := by
  cases hl : gr.alertLevel with
  | none => rwa [Group.rollingAlert, hl]
  | some l =>
    rw [Group.rollingAlert_frame]
    exact h.congr rfl rfl rfl fun _ => .inr (by rw [hl]; rfl)

theorem Group.Tended.closeSecond {P : Prop} {gr : Group} (h : gr.Tended P) (g : Grp) (e : GroupEntry) (n : Nat)
    (p : Option Pos) (cov : Bool) : (gr.closeSecond g e n p cov).1.Tended P := by
  have hset : ∀ {a : Group} (on : Bool), a.Tended P → Group.Tended P { a with alertAtClose := on } :=
    fun _ h => h.congr rfl rfl rfl .inl
  unfold Group.closeSecond
  split
  · exact hset _ h
  · refine (hset _ (Group.Tended.rollingAlert ?_ g e n)).windowRecord _ _
    exact h.congr rfl rfl rfl .inl

/-! ### Boundaries (R79, R99, R102, R111, R112) -/

section
variable {s : State} {P : Prop}

theorem Group.Tended.takeSlice {gr : Group} (h : gr.Tended P) (e : GroupEntry) (x : GroupSlice) (ad : List Admitted) :
    (gr.takeSlice e x ad).Tended P := h.congr rfl rfl rfl .inl

/-- The tests of a group slice leave their marks on the open window (R111, R112). -/
theorem Group.Tended.immediate {gr : Group} (h : gr.Tended P) (g : Grp) (run cov : Bool) (x : GroupSlice) :
    (gr.immediate g run cov x).1.Tended P := by
  unfold Group.immediate
  split
  · exact h
  · rename_i w hw
    exact h.congr (by rw [hw]; rfl) rfl rfl .inl

theorem Group.Tended.slicedGroup {g : Grp} (h : s.groups[g].Tended P) : (s.slicedGroup g).1.Tended P := by
  cases he : s.router.active.groups[g].enabled with
  | false => rwa [s.slicedGroup_disabled g he]
  | true =>
    rw [State.slicedGroup, State.groupAfterSlice, if_pos he]
    exact (h.takeSlice ..).immediate ..

/-- A second boundary turns a group's windows with its alert. -/
theorem Group.Tended.turnedGroup {g : Grp}
    (h : s.groups[g].Tended (s.control.mode = .run ∧ s.router.active.groups[g].enabled = true)) :
    (s.turnedGroup g).1.Tended
      (s.control.mode = .run ∧ (s.opening true).router.active.groups[g].enabled = true) := by
  obtain ⟨before, after, ht⟩ := s.turnedGroup_split g
  have hsliced : (s.slicedGroup g).1.Tended ((s.contextAt g).mayOpen true) :=
    h.slicedGroup.imp fun _ hmay => ⟨decide_eq_true hmay.1, .inr ⟨rfl, hmay.2⟩⟩
  have hbefore := hsliced.reachList before
  have hclosed : (s.closeAt g (Group.reachList (s.contextAt g) true before (s.slicedGroup g).1).1).1.Tended
      ((s.contextAt g).mayOpen before.isEmpty) := by
    unfold State.closeAt
    split
    · exact hbefore.closeSecond ..
    · exact hbefore
  have hreached : (before.isEmpty && after.isEmpty) = false := by
    have hlength := s.reachedAt_length.1
    rw [ht.reaches, List.length_append] at hlength
    cases before with
    | cons r before => rfl
    | nil => cases after with
      | cons r after => rfl
      | nil => cases hlength
  have hafter := hclosed.reachList after
  rw [hreached] at hafter
  rw [ht.turned]
  exact hafter.imp fun _ ⟨hrun, hmay⟩ => ⟨of_decide_eq_true hrun, hmay.resolve_right nofun⟩

/-- The entry to RUN opens windows of enabled groups, and hands their records over (R101, R126). -/
theorem Group.enterRun_tended (gr : Group) (g : Grp) (enabled : Bool) (active : Schedule) (p : Pos) (n : Nat) :
    (gr.enterRun g enabled active p n).Tended (enabled = true) where
  may h := by
    cases enabled with
    | true => rfl
    | false => cases h
  level := rfl
  period := rfl
  on := nofun

theorem State.windowLaw.boundary (b : Bool) (h : s.windowLaw) : (s.boundary b).windowLaw := by
  rw [State.windowLaw_iff] at h ⊢
  intro g
  obtain ⟨hg, hdue⟩ := h g
  rw [State.boundary_router, State.boundary_control]
  cases b with
  | false =>
    rw [State.boundary_group_inside]
    exact ⟨hg.slicedGroup.congr rfl rfl rfl .inl, (s.slicedGroup_dueWindows g).trans hdue⟩
  | true =>
    refine ⟨?_, s.boundary_group_dueWindows g⟩
    cases hstart : s.autoRunStarts true with
    | true =>
      obtain ⟨active, p, n, hgroup⟩ := s.boundary_group g
      rw [hgroup, if_pos hstart, if_pos rfl]
      exact (Group.enterRun_tended ..).imp fun _ he => ⟨rfl, he⟩
    | false =>
      obtain ⟨hwindow, hon, hlevel, hperiod⟩ := s.boundary_group_window g hstart
      rw [if_neg Bool.false_ne_true]
      exact hg.turnedGroup.map_window hwindow (fun w => ⟨rfl, rfl⟩) hlevel hperiod hon

end

/-! ### Requests (R113, R122, R183, R186) -/

/-- Two states in the same mode, with the same groups and the same active map. -/
structure SameWindows (s t : State) : Prop where
  groups : t.groups = s.groups
  mode : t.control.mode = s.control.mode
  active : t.router.active = s.router.active

theorem State.windowLaw.congr {s t : State} (h : s.windowLaw) (e : SameWindows s t) : t.windowLaw := by
  unfold State.windowLaw at *
  rwa [e.groups, e.mode, e.active]

theorem State.windowLaw.serve {s : State} {code : Byte} {w b : Bool} {r : Request} {rule : State → Reply}
    (h : s.windowLaw) (hr : (rule s).state.windowLaw) : (s.serve code w b r rule).windowLaw :=
  State.serve_keeps (Q := State.windowLaw) (fun _ _ _ h => h.congr ⟨by simp, by simp, by simp⟩)
    (fun _ _ _ _ _ _ h => h.congr ⟨rfl, rfl, rfl⟩) (fun _ _ h => h.congr ⟨rfl, rfl, rfl⟩) h hr

theorem State.enterRun_group (s : State) (g : Grp) : s.enterRun.groups[g] =
    s.groups[g].enterRun g s.router.active.groups[g].enabled s.schedules.active s.time.present s.time.runningSecond := by
  simp [State.enterRun]

theorem State.enterRun_windowLaw (s : State) : s.enterRun.windowLaw := by
  rw [State.windowLaw_iff]
  intro g
  rw [State.enterRun_group]
  exact ⟨(Group.enterRun_tended ..).imp fun _ he => ⟨rfl, he⟩, rfl⟩

/-- The change to CONFIG leaves no window and no alert (R129, R183). -/
theorem State.leaveRun_group (s : State) (g : Grp) : s.leaveRun.groups[g] = { s.groups[g] with
    openWindow := none, dueWindows := [], alertOn := false, alertLevel := none, alertPeriod := none } := by
  simp [Group.leaveRun, Group.handLimit_eq]

theorem State.leaveRun_windowLaw (s : State) : s.leaveRun.windowLaw := by
  rw [State.windowLaw_iff]
  intro g
  rw [State.leaveRun_group]
  exact ⟨.closed rfl rfl rfl rfl, rfl⟩

/-- Reset groups hold no window, in any mode. -/
theorem State.windowLaw_of_reset {s : State} (h : ∀ g : Grp, s.groups[g] = Group.reset) : s.windowLaw := by
  rw [State.windowLaw_iff]
  intro g
  rw [h g]
  exact ⟨.closed rfl rfl rfl rfl, rfl⟩

/-- A new exclusion takes records out of windows (R105). -/
theorem State.windowLaw.addExclusion {s : State} (h : s.windowLaw) (x : Exclusion) : (s.addExclusion x).windowLaw := by
  rw [State.windowLaw_iff] at h ⊢
  intro g
  obtain ⟨hg, hdue⟩ := h g
  have hgroup : (s.addExclusion x).groups[g] = s.groups[g].excludeMasked g x s.time.runningSecond := by
    simp [State.addExclusion]
  rw [hgroup, Group.excludeMasked]
  split
  · rw [Group.exclude_group]
    exact ⟨hg.map_window rfl (Window.less_kept _) rfl rfl rfl, by rw [hdue]; rfl⟩
  · exact ⟨hg, hdue⟩

/-- Every request keeps the law: windows open at SET MODE RUN, go at SET MODE CONFIG and at RESTART, and are counted down by
EXCLUDE ADD; no other request touches one. -/
theorem State.windowLaw.serveCode {s : State} (code : Byte) (r : Request) (h : s.windowLaw) :
    (serveCode code r s).windowLaw := by
  have kept {t : State} (e : SameWindows s t) : t.windowLaw := h.congr e
  unfold Machine.serveCode
  split
  case h_1 => exact h.serve h
  case h_2 | h_3 => exact h.serve (takeAlways_state h fun _ _ => h)
  case h_4 =>
    refine h.serve (takeOutsideBoot_state h fun _ _ _ => ?_)
    split_ifs
    any_goals exact h
    · exact s.enterRun_windowLaw
    · exact s.leaveRun_windowLaw
  case h_5 =>
    refine h.serve (takeAlways_state h fun _ _ => ?_)
    split_ifs <;> exact kept ⟨rfl, rfl, rfl⟩
  case h_6 | h_8 =>
    refine h.serve (takeOutsideBoot_state h fun _ _ _ => ?_)
    split_ifs <;> exact kept ⟨rfl, rfl, rfl⟩
  case h_7 =>
    refine h.serve (takeOutsideBoot_state h fun _ _ _ => ?_)
    split_ifs
    · exact h
    · exact State.windowLaw_of_reset s.restart_group
  case h_9 | h_10 =>
    split
    · exact h.serve (takeOutsideBoot_state h fun _ _ _ => kept ⟨rfl, rfl, by simp [Reply.plain]⟩)
    · exact h.serve (takeOutsideBoot_state h fun _ _ _ => by split <;> exact h)
  case h_13 | h_14 =>
    split
    · exact h.serve (takeOutsideBoot_state h fun _ _ _ => kept ⟨rfl, rfl, rfl⟩)
    · exact h.serve (takeOutsideBoot_state h fun _ _ _ => by split <;> exact h)
  case h_11 | h_15 | h_19 =>
    refine h.serve (takeOutsideBoot_state h fun _ _ _ => ?_)
    split
    · exact h
    · split <;> exact kept ⟨rfl, rfl, rfl⟩
  case h_16 =>
    refine h.serve (takeOutsideBoot_state h fun _ _ _ => ?_)
    split
    · exact h
    · split
      · exact h
      · exact h.addExclusion _
  case h_12 =>
    split
    · refine h.serve (takeAlways_state h fun _ _ => ?_)
      split_ifs <;> exact kept ⟨rfl, rfl, rfl⟩
    · exact h.serve (takeOutsideBoot_state h fun _ _ _ => h)
  case h_17 | h_18 | h_20 =>
    exact h.serve (takeOutsideBoot_state h fun _ _ _ => by split <;> exact kept ⟨rfl, rfl, rfl⟩)
  case h_21 =>
    exact h.serve (takeOutsideBoot_state h fun _ _ _ => kept (by constructor <;> simp [Reply.plain, State.abortCheck]))
  case h_22 | h_23 | h_24 | h_25 => exact h.serve (takeOutsideBoot_state h fun _ _ _ => h)
  case h_26 | h_27 => exact h.serve (takeAlways_state h fun _ _ => by split <;> exact kept ⟨rfl, rfl, rfl⟩)

/-! ### Frame periods, the link, the boot image and cells -/

theorem State.windowLaw.advance {s : State} (h : s.windowLaw) : s.advance.windowLaw := by
  unfold State.advance
  dsimp only
  split
  · exact h.congr ⟨rfl, rfl, rfl⟩
  · exact State.windowLaw.boundary _ (h.congr ⟨rfl, rfl, rfl⟩)

theorem State.loseLink_sameWindows (s : State) : SameWindows s s.loseLink :=
  ⟨by simp [State.loseLink], by simp, by simp [State.loseLink]⟩

theorem State.regainLink_sameWindows (s : State) : SameWindows s s.regainLink :=
  ⟨by simp, by simp, by simp [State.regainLink]⟩

theorem State.windowLaw.countRuns {s : State} (good : Bool) (h : s.windowLaw) : (s.countRuns good).windowLaw := by
  have hcounted : ({ s with time := s.time.countPeriod good } : State).windowLaw := h.congr ⟨rfl, rfl, rfl⟩
  unfold State.countRuns
  dsimp only
  split_ifs
  · exact (h.congr s.loseLink_sameWindows).congr ⟨rfl, rfl, rfl⟩
  · exact hcounted.congr (State.regainLink_sameWindows _)
  · exact hcounted

/-- No window is open in BOOT, so that whatever ends it may change the mode and the active map. -/
theorem State.windowLaw.leaveBoot {s t : State} (h : s.windowLaw) (hb : s.control.mode = .boot) (hg : t.groups = s.groups) :
    t.windowLaw := by
  rw [State.windowLaw_iff] at h ⊢
  intro g
  rw [hg]
  exact ⟨(h g).1.imp fun _ hmay => absurd (hb.symm.trans hmay.1) nofun, (h g).2⟩

/-- The end of the load leaves BOOT for CONFIG, or for RUN (R183, R190). -/
theorem State.windowLaw.endLoad {s : State} (m : MemoryRead) (h : s.windowLaw) (hb : s.control.mode = .boot) :
    (s.endLoad m).windowLaw := by
  unfold State.endLoad
  dsimp only
  split
  · exact h.leaveBoot hb rfl
  · split
    · exact State.enterRun_windowLaw _
    · exact h.leaveBoot hb rfl

theorem State.spoil_sameWindows (s : State) (bytes : List Byte) (f : CellFault) : SameWindows s (s.spoil bytes f) := by
  unfold State.spoil
  split
  · exact ⟨rfl, rfl, rfl⟩
  · split <;> exact ⟨rfl, rfl, rfl⟩

theorem State.windowLaw.takeCell {s : State} (cell : Cell) (h : s.windowLaw) : (s.takeCell cell).windowLaw := by
  have hup : ({ s with trunk := s.trunk.forwardUp cell } : State).windowLaw := h.congr ⟨rfl, rfl, rfl⟩
  unfold State.takeCell
  dsimp only
  split
  · split
    · exact h.serveCode _ _
    · exact h.congr ⟨rfl, rfl, rfl⟩
  · split
    · exact hup.serveCode _ _
    · exact h.congr ⟨rfl, rfl, rfl⟩
  · exact hup

theorem State.windowLaw.receiveCell {s : State} (bytes : List Byte) (h : s.windowLaw) :
    (s.receiveCell bytes).windowLaw := by
  obtain ⟨u, hu, hr⟩ := s.receiveCell_cases bytes
  have hfirst : u.windowLaw := by
    rcases hu with rfl | ⟨arrived, rfl⟩
    · exact h
    · exact h.congr (s.spoil_sameWindows _ _)
  rcases hr with hr | ⟨p, hr⟩ | ⟨cell, hr⟩ <;> rw [hr]
  · exact (hfirst.congr (u.spoil_sameWindows _ _)).congr ⟨rfl, rfl, rfl⟩
  · exact hfirst.congr ⟨rfl, rfl, rfl⟩
  · exact State.windowLaw.takeCell (s := u.withParser .hunting) _ (hfirst.congr ⟨rfl, rfl, rfl⟩)

/-! ### The step -/

/-- Every command keeps windows to RUN and to enabled groups. -/
theorem exec_windowLaw {i : Instr} {s t : State} (h : s.windowLaw) (hi : exec i s = .next t) : t.windowLaw := by
  cases hc : codedRequest i with
  | some x =>
    rw [exec_coded hc] at hi
    obtain rfl := Host.Outcome.next.inj hi
    exact h.serveCode _ _
  | none =>
    cases i with
    | powerOn n =>
      obtain rfl := Host.Outcome.next.inj hi
      exact State.windowLaw_of_reset fun g => by simp
    | bootLoadEnd m =>
      change execBootLoadEnd m s = _ at hi
      unfold execBootLoadEnd at hi
      split at hi <;> obtain rfl := Host.Outcome.next.inj hi
      · exact h.endLoad m ‹_›
      · exact h
    | sampleFrame f =>
      obtain rfl := Host.Outcome.next.inj hi
      have hcounted := h.advance.countRuns (goodFrame f)
      split
      · exact hcounted.congr ⟨by simp, by simp, by simp⟩
      · exact hcounted.congr ⟨rfl, rfl, rfl⟩
    | framePeriod =>
      obtain rfl := Host.Outcome.next.inj hi
      exact (h.advance.countRuns false).congr ⟨rfl, rfl, rfl⟩
    | linkLoss =>
      change execLinkLoss s = _ at hi
      unfold execLinkLoss at hi
      split at hi <;> obtain rfl := Host.Outcome.next.inj hi
      · exact h.congr s.loseLink_sameWindows
      · exact h
    | linkRestoration =>
      change execLinkRestoration s = _ at hi
      unfold execLinkRestoration at hi
      split at hi <;> obtain rfl := Host.Outcome.next.inj hi
      · exact h.congr s.regainLink_sameWindows
      · exact h
    | sliceBoundary =>
      obtain rfl := Host.Outcome.next.inj hi
      exact (h.boundary _).congr ⟨rfl, rfl, rfl⟩
    | secondBoundary =>
      change execSecondBoundary s = _ at hi
      unfold execSecondBoundary at hi
      split at hi <;> obtain rfl := Host.Outcome.next.inj hi
      · exact h.congr ⟨rfl, rfl, rfl⟩
      · exact h.boundary true
    | intervalTimerExpiry c =>
      change execIntervalTimerExpiry c s = _ at hi
      unfold execIntervalTimerExpiry at hi
      split at hi <;> obtain rfl := Host.Outcome.next.inj hi
      · exact h.congr ⟨by simp, by simp, by simp⟩
      · exact h
    | controlCell bytes => obtain rfl := Host.Outcome.next.inj hi; exact h.receiveCell _
    | cellTimeout arrived mark =>
      obtain rfl := Host.Outcome.next.inj hi
      exact (h.congr (s.spoil_sameWindows _ _)).congr ⟨rfl, rfl, rfl⟩
    | cellLengthFault arrived =>
      obtain rfl := Host.Outcome.next.inj hi
      exact (h.congr (s.spoil_sameWindows _ _)).congr ⟨rfl, rfl, rfl⟩
    | passThroughCell cell => obtain rfl := Host.Outcome.next.inj hi; exact h.congr ⟨rfl, rfl, rfl⟩
    | forwardCellWindow => obtain rfl := Host.Outcome.next.inj hi; exact h.congr ⟨rfl, rfl, rfl⟩
    | returnLaneSend => obtain rfl := Host.Outcome.next.inj hi; exact h.congr ⟨rfl, rfl, rfl⟩
    | _ => cases hc

/-- Settles O58: every command keeps windows to RUN and to enabled groups, and an idle step changes nothing. -/
theorem windowsBelongToRun : Obligations.WindowsBelongToRun := by
  intro s t hlaw h
  unfold step at h
  split at h
  · obtain rfl := Host.Outcome.next.inj h
    exact hlaw
  · rename_i rest _
    exact exec_windowLaw (s := { s with pending := rest }) (hlaw.congr ⟨rfl, rfl, rfl⟩) h

end Sys2Proof.Machine
end

section
/-! SUPPORT. The judgment of a closing window by its tables; O45 (R107 to R110, R154). -/
namespace Sys2Proof.Machine

/-! ### The site level (R107) -/

section
variable {m b : Nat}

theorem siteLevel_clear (h : b + 1000 ≤ m) : siteLevel m b = (m, false, false) := if_pos h

theorem siteLevel_near (h : b + 300 ≤ m) (h' : m < b + 1000) : siteLevel m b =
    ((levelOf (subIntensity (levelIntensity m 1) (levelIntensity b 1))).1,
      (levelOf (subIntensity (levelIntensity m 1) (levelIntensity b 1))).2, false) := by
  rw [siteLevel, if_neg (Nat.not_le_of_lt h'), if_pos h]

/-- A background-dominated site level is 3.00 dB below the measured one, and not below 0.00. -/
theorem siteLevel_dominated (h : m < b + 300) : siteLevel m b = (m - 300, decide (m < 300), true) := by
  have hfar : m < b + 1000 := by omega
  rw [siteLevel, if_neg (Nat.not_le_of_lt hfar), if_neg (Nat.not_le_of_lt h)]
  by_cases hm : 300 ≤ m
  · rw [if_pos hm, decide_eq_false (Nat.not_lt_of_le hm)]
  · rw [if_neg hm, decide_eq_true (Nat.lt_of_not_le hm), Nat.sub_eq_zero_of_le (Nat.le_of_not_le hm)]

theorem siteLevel_dominated_iff : (siteLevel m b).2.2 = true ↔ m < b + 300 := by
  by_cases h : m < b + 300
  · simp [siteLevel_dominated h, h]
  · by_cases h' : m < b + 1000
    · simp [siteLevel_near (Nat.le_of_not_lt h) h', h]
    · simp [siteLevel_clear (Nat.le_of_not_lt h'), h]

/-- The rows of R107 that flag "underrange". -/
theorem siteLevel_under_iff : (siteLevel m b).2.1 = true ↔
    (b + 300 ≤ m ∧ m < b + 1000 ∧ (levelOf (subIntensity (levelIntensity m 1) (levelIntensity b 1))).2 = true)
      ∨ (m < b + 300 ∧ m < 300) := by
  by_cases h : m < b + 300
  · simp [siteLevel_dominated h, h, Nat.not_le_of_lt h]
  · have hle : b + 300 ≤ m := Nat.le_of_not_lt h
    by_cases h' : m < b + 1000
    · simp [siteLevel_near hle h', h, hle, h']
    · simp [siteLevel_clear (Nat.le_of_not_lt h'), h, h']

end

/-! ### What a window's record is made from (R107, R108) -/

/-- The measured Leq of a window with its underrange flag, where it has data. -/
def Window.measured (w : Window) : Option (Level × Bool) :=
  if w.data = 0 then none else some (levelOf (meanIntensity w.sum w.data))

/-- The row of R107 that a window meets, where its group corrects for a background and both levels are there. -/
def Window.corrected (w : Window) (correction : Bool) (l90 : Option Level) : Option (Level × Bool × Bool) :=
  if correction then w.measured.bind fun m => l90.map fun b => siteLevel m.1 b else none

/-- The site level: by the background where there is one, else the measured Leq. -/
def Window.site (w : Window) (correction : Bool) (l90 : Option Level) : Option Level :=
  ((w.corrected correction l90).map (·.1)).or (w.measured.map (·.1))

/-- The impulse penalty of R108. -/
def Window.penalty (w : Window) : Option Nat :=
  w.limit.bind fun l => if l.threshold ≤ w.onsets then some l.penalty else none

/-- The rated level, clamped at 199.99 dB (R108). -/
def Window.rated (w : Window) (correction : Bool) (l90 : Option Level) : Option Level :=
  (w.site correction l90).map fun x => min 19999 (x + w.penalty.getD 0)

/-- Whether the background dominates (R107). -/
def Window.dominated (w : Window) (correction : Bool) (l90 : Option Level) : Bool :=
  ((w.corrected correction l90).map (·.2.2)).getD false

section
variable (w : Window) (g : Grp) (correction : Bool) (l90 : Option Level) (lock : Nat)

/-- The record of a closing window (R110). -/
theorem Window.judge_eq : w.judge g correction l90 lock =
    { sequence := 0, group := g, period := w.period, day := w.day, start := w.start, expected := w.expected, data := w.data
      excluded := w.excluded, leq := w.measured.map (·.1), l90 := if correction then l90 else none
      site := w.site correction l90, penalty := w.penalty, rated := w.rated correction l90, limit := w.limit.map (·.leq)
      outcome := windowOutcome w (w.dominated correction l90) (w.rated correction l90), maxLevel := w.maxLevel
      maxPeak := w.maxPeak, onsets := w.onsets, overload := w.overload
      flags := { w.flags with
        noBackground := w.flags.noBackground || (correction && (w.corrected correction l90).isNone)
        underrange := ((w.measured.map (·.2)).getD false) || (((w.corrected correction l90).map (·.2.1)).getD false) }
      lockLevel := lock } := by
  have hmeasured : (if 0 < w.data then some (levelOf (meanIntensity w.sum w.data)) else none) = w.measured := by
    unfold Window.measured
    by_cases h : w.data = 0
    · rw [if_neg (by omega), if_pos h]
    · rw [if_pos (by omega), if_neg h]
  unfold Window.judge Window.rated Window.dominated Window.site Window.corrected
  rw [hmeasured]
  generalize w.measured = m
  cases correction <;> cases m <;> cases l90 <;> rfl

variable {w g correction l90 lock}

theorem Window.measured_level {m : Level} (h : w.measured.map (·.1) = some m) : w.data ≠ 0
    ∧ w.measured = some (m, (levelOf (meanIntensity w.sum w.data)).2) := by
  unfold Window.measured at h ⊢
  by_cases hd : w.data = 0
  · rw [if_pos hd] at h; cases h
  · rw [if_neg hd] at h ⊢
    exact ⟨hd, by rw [← Option.some.inj h]⟩

theorem Window.corrected_some {m b : Level} (hm : w.measured.map (·.1) = some m) :
    w.corrected true (some b) = some (siteLevel m b) := by
  rw [Window.corrected, (Window.measured_level hm).2]; rfl

/-- The background tells nothing without a correction, without a background level or without data. -/
theorem Window.corrected_none (h : correction = false ∨ l90 = none ∨ w.measured.map (·.1) = none) :
    w.corrected correction l90 = none := by
  rcases h with rfl | rfl | h
  · rfl
  · simp [Window.corrected]
  · simp [Window.corrected, Option.map_eq_none_iff.mp h]

/-- A row of R107 is met by the measured level and the background level of a group that corrects. -/
theorem Window.corrected_cases : w.corrected correction l90 = none
      ∧ (correction = false ∨ l90 = none ∨ w.measured.map (·.1) = none)
    ∨ ∃ m b, correction = true ∧ w.measured.map (·.1) = some m ∧ l90 = some b
      ∧ w.corrected correction l90 = some (siteLevel m b) := by
  by_cases h : correction = false ∨ l90 = none ∨ w.measured.map (·.1) = none
  · exact .inl ⟨Window.corrected_none h, h⟩
  · obtain ⟨hc, hb, hm⟩ : correction = true ∧ l90 ≠ none ∧ w.measured.map (·.1) ≠ none := by simpa using h
    obtain ⟨b, rfl⟩ := Option.ne_none_iff_exists'.mp hb
    obtain ⟨m, hm⟩ := Option.ne_none_iff_exists'.mp hm
    subst hc
    exact .inr ⟨m, b, rfl, hm, rfl, Window.corrected_some hm⟩

/-- A flag of the row of R107, where one is met. -/
theorem Window.corrected_flag_iff (f : Level × Bool × Bool → Bool) :
    ((w.corrected correction l90).map f).getD false = true ↔ ∃ m b, correction = true ∧ w.measured.map (·.1) = some m
      ∧ l90 = some b ∧ f (siteLevel m b) = true := by
  rcases Window.corrected_cases (w := w) (correction := correction) (l90 := l90) with ⟨h, hno⟩ | ⟨m, b, hc, hm, hb, h⟩
  · rw [h]
    refine ⟨fun h => absurd h Bool.false_ne_true, ?_⟩
    rintro ⟨m, b, hc, hm, hb, -⟩
    rcases hno with h | h | h
    · rw [hc] at h; cases h
    · rw [hb] at h; cases h
    · rw [hm] at h; cases h
  · rw [h]
    refine ⟨fun hf => ⟨m, b, hc, hm, hb, hf⟩, ?_⟩
    rintro ⟨m', b', -, hm', hb', hf⟩
    rw [hm] at hm'; cases hm'
    rw [hb] at hb'; cases hb'
    exact hf

theorem Window.corrected_isNone_iff : (w.corrected correction l90).isNone = true ↔
    correction = false ∨ l90 = none ∨ w.measured.map (·.1) = none := by
  rcases Window.corrected_cases (w := w) (correction := correction) (l90 := l90) with ⟨h, hno⟩ | ⟨m, b, hc, hm, hb, h⟩
  · simp only [h, hno, Option.isNone_none]
  · rw [h]; simp [hc, hm, hb]

end

/-! ### The outcome (R109) -/

/-- The rows of R109, each where no row above it applies. -/
theorem windowOutcome_rows (w : Window) (dominated : Bool) (rated : Option Level) :
    let o := windowOutcome w dominated rated
    let u := w.expected - w.excluded
    (o = .excluded ↔ u = 0)
    ∧ (o = .unregulated ↔ u ≠ 0 ∧ w.limit = none)
    ∧ (o = .insufficient ↔ u ≠ 0 ∧ w.limit.isSome = true ∧ 4 * w.data < 3 * u)
    ∧ (o = .indeterminate ↔ u ≠ 0 ∧ w.limit.isSome = true ∧ 3 * u ≤ 4 * w.data ∧ dominated = true)
    ∧ (o = .exceeded ↔ u ≠ 0 ∧ 3 * u ≤ 4 * w.data ∧ ¬dominated = true
        ∧ ∃ l x, w.limit = some l ∧ rated = some x ∧ l.leq < x) := by
  intro o u
  by_cases hu : u = 0
  · have ho : o = .excluded := if_pos hu
    simp [ho, hu]
  cases hl : w.limit with
  | none =>
    have ho : o = .unregulated := by simp only [o, windowOutcome, hl]; exact if_neg hu
    simp [ho, hu]
  | some l =>
    have hrow : o = if 4 * w.data < 3 * u then .insufficient else if dominated = true then .indeterminate
        else match rated with
          | some r => if l.leq < r then .exceeded else .compliant
          | none => .compliant := by
      simp only [o, windowOutcome, hl, insufficient, decide_eq_true_eq]
      exact if_neg hu
    by_cases hi : 4 * w.data < 3 * u
    · rw [hrow, if_pos hi]
      simp [hu, hi]
    · rw [hrow, if_neg hi]
      have hcover : 3 * u ≤ 4 * w.data := Nat.le_of_not_lt hi
      cases dominated with
      | true => simp [hu, hi, hcover]
      | false =>
        cases rated with
        | none => simp [hu, hi]
        | some x => by_cases hx : l.leq < x <;> simp [hu, hi, hcover, hx]

/-! ### O45 -/

/-- Settles O45: the levels and flags by the row of R107, the outcome by the rows of R109. -/
theorem windowJudgmentFollowsItsTables : Obligations.WindowJudgmentFollowsItsTables := by
  intro w g correction l90 lock second r u dominated leq between
  have hr : r = _ := w.judge_eq g correction l90 lock
  have hleq : r.leq = w.measured.map (·.1) := by rw [hr]
  have hsite : r.site = w.site correction l90 := by rw [hr]
  have hrated : r.rated = w.rated correction l90 := by rw [hr]
  have hpenalty : r.penalty = w.penalty := by rw [hr]
  have hdominated : w.dominated correction l90 = true ↔ dominated := by
    rw [Window.dominated, Window.corrected_flag_iff]
    simp only [siteLevel_dominated_iff, ← hleq, exists_and_left, dominated]
  obtain ⟨hexcluded, hunregulated, hinsufficient, hindeterminate, hexceeded⟩ :=
    windowOutcome_rows w (w.dominated correction l90) (w.rated correction l90)
  have houtcome : r.outcome = windowOutcome w (w.dominated correction l90) (w.rated correction l90) := by rw [hr]
  rw [← houtcome] at hexcluded hunregulated hinsufficient hindeterminate hexceeded
  rw [hdominated] at hindeterminate hexceeded
  rw [← hrated] at hexceeded
  refine ⟨?_, by rw [hr], fun h => ?_, fun h => ?_, fun m b hc hm hb => ?_, ?_, ?_, fun l hl => ?_, fun hl => ?_,
    fun x hx => ?_, fun hx => ?_, hexcluded, hunregulated, hinsufficient, hindeterminate, hexceeded, by rw [hr], by rw [hr],
    by rw [hr], by rw [hr], by rw [hr], by rw [hr], by rw [hr], by rw [hr], by rw [hr], by rw [hr], by rw [hr], by rw [hr],
    by rw [hr], by rw [hr], fun h => ?_, fun h => ?_⟩
  · rw [hleq, Window.measured]
    split <;> rfl
  · rw [hsite, Window.site, Window.corrected_none (h.imp_right .inl), hleq]; rfl
  · rw [hleq] at h
    rw [hsite, Window.site, Window.corrected_none (.inr (.inr h)), h]; rfl
  · subst hc hb
    rw [hleq] at hm
    have hrow : r.site = some (siteLevel m b).1 := by rw [hsite, Window.site, Window.corrected_some hm]; rfl
    rw [hrow]
    exact ⟨fun h => by rw [siteLevel_clear h], fun h h' => by rw [siteLevel_near h h'],
      fun h => by rw [siteLevel_dominated h]⟩
  · have hflag : r.flags.noBackground = (w.flags.noBackground || (correction && (w.corrected correction l90).isNone)) := by
      rw [hr]
    rw [hflag, hleq, Bool.or_eq_true, Bool.and_eq_true, Window.corrected_isNone_iff]
    refine or_congr_right (and_congr_right fun hc => ?_)
    simp [hc]
  · have hflag : r.flags.underrange = (((w.measured.map (·.2)).getD false)
        || (((w.corrected correction l90).map (·.2.1)).getD false)) := by rw [hr]
    have hunder : (w.measured.map (·.2)).getD false = true ↔ w.data ≠ 0 ∧ leq.2 = true := by
      rw [Window.measured]
      split <;> simp [*, leq]
    rw [hflag, Bool.or_eq_true, hunder, Window.corrected_flag_iff]
    simp only [siteLevel_under_iff, hleq, between]
  · rw [hpenalty, Window.penalty, hl]; rfl
  · rw [hpenalty, Window.penalty, hl]; rfl
  · rw [hsite] at hx
    rw [hrated, Window.rated, hx, hpenalty]; rfl
  · rw [hsite] at hx
    rw [hrated, Window.rated, hx]; rfl
  · rw [closeEmissions, if_neg h]
  · rw [closeEmissions, if_pos h, hr]
    rfl

end Sys2Proof.Machine
end

section
/-! SUPPORT. Entry to RUN: the entry that applies in a schedule without overlaps, and the window that opens; O11 (R96, R100, R101,
R126, R130, R183; log 26, 27). -/
namespace Sys2Proof.Machine

/-! ### The entry that applies (R96, R100) -/

/-- A schedule that passes the test of R96 has no two overlapping entries. -/
theorem not_overlapping {s : Schedule} (h : firstOverlap s = none) {i j : Per} (hij : i < j) : ¬overlapping s[i] s[j] := by
  intro ho
  have hrow := List.findSome?_eq_none_iff.mp h i (List.mem_finRange i)
  have hpair := List.findSome?_eq_none_iff.mp hrow j (List.mem_finRange j)
  rw [if_pos ⟨hij, (entriesOverlap_iff _ _).mpr ho⟩] at hpair
  cases hpair

/-- Two entries that a position lies in overlap. -/
theorem overlapping_of_covers {x y : PeriodEntry} {p : Pos} (hx : x.covers p = true) (hy : y.covers p = true) :
    overlapping x y := by
  obtain ⟨hxs, hxe⟩ := PeriodEntry.covers_bounds hx
  obtain ⟨hys, hye⟩ := PeriodEntry.covers_bounds hy
  simp only [PeriodEntry.covers, PeriodEntry.applies, Bool.and_eq_true] at hx hy
  obtain ⟨⟨⟨hxenabled, hxday⟩, -⟩, -⟩ := hx
  obtain ⟨⟨⟨hyenabled, hyday⟩, -⟩, -⟩ := hy
  have hday : p.day < 7 := BitVec.lt_of_getLsbD hxday
  exact ⟨hxenabled, hyenabled, ⟨⟨p.day, hday⟩, hxday, hyday⟩, by omega, by omega⟩

/-- In a schedule without overlaps the entry that a position lies in is the one that applies. -/
theorem periodAt_of_covers {s : Schedule} (h : firstOverlap s = none) {p : Pos} {i : Per} (hi : s[i].covers p = true) :
    periodAt s p = some i :=
  periodAt_eq_some hi fun _ hj => Bool.eq_false_iff.mpr fun hc => not_overlapping h hj (overlapping_of_covers hc hi)

/-! ### The group that enters RUN (R101, R126, R130) -/

section
variable {gr : Group} {g : Grp} {enabled : Bool} {active : Schedule} {p : Pos} {n : Nat}

theorem Group.enterRun_closed (h : enabled = false ∨ periodAt active p = none) :
    (gr.enterRun g enabled active p n).openWindow = none ∧ (gr.enterRun g enabled active p n).alertLevel = none := by
  have hw : (if enabled then (periodAt active p).map fun i => Window.opening active[i] i g p n else none) = none := by
    rcases h with h | h
    · rw [if_neg (by rw [h]; decide)]
    · rw [h, Option.map_none, ite_self]
  exact ⟨hw, by rw [Group.enterRun, hw]; rfl⟩

theorem Group.enterRun_opens {i : Per} (he : enabled = true) (hi : periodAt active p = some i) :
    let w := Window.opening active[i] i g p n
    (gr.enterRun g enabled active p n).openWindow = some w
      ∧ (gr.enterRun g enabled active p n).alertLevel = w.limit.bind (·.alert)
      ∧ (gr.enterRun g enabled active p n).alertPeriod = some i := by
  have hw : (if enabled then (periodAt active p).map fun i => Window.opening active[i] i g p n else none) =
      some (Window.opening active[i] i g p n) := by rw [if_pos he, hi]; rfl
  exact ⟨hw, by rw [Group.enterRun, hw]; rfl, by rw [Group.enterRun, hw]; rfl⟩

end

/-! ### O11 -/

/-- Settles O11: what the entry to RUN leaves, and each group's window by the entry that the present position lies in. -/
theorem enteringRunOpensWindows : Obligations.EnteringRunOpensWindows := by
  rintro s ⟨hoverlap, -⟩ t p
  refine ⟨rfl, rfl, fun g => ?_⟩
  have hgroup : t.groups[g] = s.groups[g].enterRun g s.router.active.groups[g].enabled s.schedules.active p
      s.time.runningSecond := s.enterRun_group g
  rw [hgroup]
  refine ⟨rfl, fun hno => Group.enterRun_closed (hno.imp_right periodAt_eq_none), fun i he hi => ?_⟩
  intro e first
  obtain ⟨hopen, hlevel, hperiod⟩ := Group.enterRun_opens (gr := s.groups[g]) (g := g) (n := s.time.runningSecond) he
    (periodAt_of_covers hoverlap hi)
  obtain ⟨hstart, -⟩ := PeriodEntry.covers_bounds hi
  refine ⟨_, hopen, rfl, rfl, rfl, rfl, rfl, ?_, rfl, rfl, rfl, ?_, hlevel, hperiod⟩
  · change (alignedWindow e p.second).2.1 = _
    cases hl : e.length.seconds with
    | none => rw [alignedWindow_whole hl]
    | some l => rw [alignedWindow_length hl]
  · change decide (p.second ≠ (alignedWindow e p.second).1) = true ↔ _
    rw [decide_eq_true_iff, ne_comm]
    cases hl : e.length.seconds with
    | none => rw [alignedWindow_whole hl]; exact ne_comm
    | some l => exact not_congr (alignedWindow_start_iff hl hstart)

end Sys2Proof.Machine
end

section
/-! SUPPORT. SET MODE CONFIG in RUN: the records it hands over, and what they leave; O12 (R107 to R110, R113, R129, R150, R154,
R183, R184). -/
namespace Sys2Proof.Machine

/-! ### Records handed over in the order of their chain (R150, R155) -/

theorem filter_flatten_eq_nil {α : Type} {p : α → Bool} {l : List (List α)} (h : ∀ d ∈ l, d.filter p = []) :
    l.flatten.filter p = [] := by
  rw [List.filter_flatten]
  exact List.flatten_eq_nil_iff.mpr fun c hc => by obtain ⟨d, hd, rfl⟩ := List.mem_map.mp hc; exact h d hd

/-- Handing over records stores all of them, once each, those of a kind that one chain alone holds in its order. -/
theorem State.emit_ordered (s : State) (n : Nat) (chains : Chains) : ∃ l k, l.Perm chains.flatten
    ∧ (∀ (p : Emission → Bool) (before after : Chains) (c : List Emission), chains = before ++ c :: after →
        (∀ d ∈ before, d.filter p = []) → (∀ d ∈ after, d.filter p = []) → l.filter p = c.filter p)
    ∧ s.emit n chains = { s.emitAll n l with choices := s.choices + k } := by
  have live : ∀ l : Chains, (l.filter fun c => !c.isEmpty).flatten = l.flatten := by
    intro l
    induction l with
    | nil => rfl
    | cons c l ih => cases c <;> simp [ih]
  have inOrder : ∀ (p : Emission → Bool) (before after : Chains) (c : List Emission), chains = before ++ c :: after →
      (∀ d ∈ before, d.filter p = []) → (∀ d ∈ after, d.filter p = []) → chains.flatten.filter p = c.filter p := by
    rintro p before after c rfl hb ha
    rw [List.flatten_append, List.flatten_cons, List.filter_append, List.filter_append, filter_flatten_eq_nil hb,
      filter_flatten_eq_nil ha, List.nil_append, List.append_nil]
  unfold State.emit
  split
  · rename_i h
    have hnil : chains.flatten = [] := by rw [← live, h]; rfl
    exact ⟨[], 0, by rw [hnil], hnil ▸ inOrder, rfl⟩
  · rename_i l h
    have hone : chains.flatten = l := by rw [← live, h]; simp
    refine ⟨l, 0, by rw [hone], hone ▸ inOrder, ?_⟩
    rw [Nat.add_zero, ← show (s.emitAll n l).choices = s.choices from s.emitAll_choices n l]
  · refine ⟨_, 1, handOver_perm _ _, ?_, rfl⟩
    rintro p before after c rfl hb ha
    exact handOver_filter _ hb ha

/-- The Result Store holds what it held and what is entered, and nothing else. -/
theorem enterResults_mem : ∀ (l : List WindowResult) (st : ResultStore), ∀ x ∈ (l.foldl ResultStore.enter st).ring,
    x ∈ st.ring ∨ ∃ r ∈ l, x = { r with sequence := x.sequence }
  | [], _, _, hx => .inl hx
  | r :: l, st, x, hx => by
    rcases enterResults_mem l (st.enter r) x hx with h | ⟨r', hr', h⟩
    · rcases List.mem_append.mp h with h | h
      · split at h
        · exact .inl (List.mem_of_mem_drop h)
        · exact .inl h
      · obtain rfl := List.mem_singleton.mp h
        exact .inr ⟨r, List.mem_cons_self .., rfl⟩
    · exact .inr ⟨r', List.mem_cons_of_mem _ hr', h⟩

/-! ### The records of the change to CONFIG (R107 to R110, R113, R129) -/

theorem Group.leaveRun_events (gr : Group) (g : Grp) (n : Nat) : OnlyEvents (gr.leaveRun g n).2 :=
  Group.handLimit_events _ g none none n

/-- An alert that is ON ends with its event (R129). -/
theorem Group.leaveRun_alertOff {gr : Group} (h : gr.alertOn = true) (g : Grp) (n : Nat) : (gr.leaveRun g n).2 =
    [.event { Event.plain n .alertOff (.group g) with limit := gr.alertLevel, period := gr.alertPeriod }] := by
  simp [Group.leaveRun, Group.handLimit, h]

section
variable (s : State) (g : Grp)

/-- The windows a group closes: those due, and the open one. -/
def State.closingWindows : List Window := s.groups[g].dueWindows ++ s.groups[g].openWindow.toList

/-- The result of a window closed as it stands, flagged "truncated". -/
def State.judgedTruncated (w : Window) : WindowResult :=
  { w with flags := { w.flags with truncated := true } }.judge g s.router.active.groups[g].correction
    (backgroundLevel s.router.active.groups[g] fun c => s.channels[c].ring) s.control.lock

theorem State.truncatedCloses_eq : s.truncatedCloses g = (s.closingWindows g).flatMap fun w =>
    closeEmissions (s.judgedTruncated g w) s.time.runningSecond := by
  simp only [State.truncatedCloses, closeDue, List.flatMap_map]
  rfl

theorem State.truncatedCloses_results :
    (s.truncatedCloses g).filterMap Emission.resultOf = (s.closingWindows g).map (s.judgedTruncated g) := by
  rw [State.truncatedCloses_eq, List.filterMap_flatMap]
  simp only [closeEmissions_results]
  exact List.flatMap_pure_eq_map ..

theorem State.truncatedCloses_ofWindow (h : Grp) :
    (s.truncatedCloses h).filter (·.ofWindow g) = if h = g then s.truncatedCloses h else [] := by
  have hgroup : ∀ w, (s.judgedTruncated h w).group = h := fun _ => rfl
  rw [State.truncatedCloses_eq, List.filter_flatMap]
  simp only [closeEmissions_ofWindow, hgroup]
  split
  · rfl
  · simp

/-- The records of a group: its results, and the end of its alert. -/
def State.leavingRecords : Chains := [s.truncatedCloses g, (s.groups[g].leaveRun g s.time.runningSecond).2]

theorem State.leavingRecords_results :
    (s.leavingRecords g).flatten.filterMap Emission.resultOf = (s.closingWindows g).map (s.judgedTruncated g) := by
  rw [State.leavingRecords, List.flatten_cons, List.filterMap_append, State.truncatedCloses_results, List.flatten_singleton,
    (Group.leaveRun_events _ g _).filterMap_resultOf, List.append_nil]

/-- The results of the change to CONFIG: one for each window that a group closes. -/
theorem State.leaveRunChains_results : s.leaveRunChains.flatten.filterMap Emission.resultOf =
    (List.finRange 8).flatMap fun g => (s.closingWindows g).map (s.judgedTruncated g) := by
  change ((List.finRange 8).flatMap s.leavingRecords).flatten.filterMap _ = _
  induction List.finRange 8 with
  | nil => rfl
  | cons g l ih =>
    rw [List.flatMap_cons, List.flatten_append, List.filterMap_append, ih, State.leavingRecords_results, List.flatMap_cons]

/-- One chain holds the records of a group's windows. -/
theorem State.leaveRunChains_split : ∃ before after, s.leaveRunChains = before ++ s.truncatedCloses g :: after
    ∧ (∀ d ∈ before, d.filter (·.ofWindow g) = []) ∧ ∀ d ∈ after, d.filter (·.ofWindow g) = [] := by
  obtain ⟨l1, l2, hl⟩ := List.append_of_mem (List.mem_finRange g)
  have hnodup := List.nodup_finRange 8
  rw [hl, List.nodup_append] at hnodup
  obtain ⟨-, htail, hdisjoint⟩ := hnodup
  have halert : ∀ h : Grp, ((s.groups[h].leaveRun h s.time.runningSecond).2).filter (·.ofWindow g) = [] := fun h =>
    (Group.leaveRun_events _ h _).filter_ofWindow g
  have hothers : ∀ k : List Grp, g ∉ k → ∀ d ∈ k.flatMap s.leavingRecords, d.filter (·.ofWindow g) = [] := by
    intro k hk d hd
    obtain ⟨h, hh, hd⟩ := List.mem_flatMap.mp hd
    rcases List.mem_cons.mp hd with rfl | hd
    · rw [State.truncatedCloses_ofWindow, if_neg fun e : h = g => hk (e ▸ hh)]
    · obtain rfl := List.mem_singleton.mp hd
      exact halert h
  refine ⟨l1.flatMap s.leavingRecords, (s.groups[g].leaveRun g s.time.runningSecond).2 :: l2.flatMap s.leavingRecords, ?_,
    hothers l1 fun hg => hdisjoint g hg g (List.mem_cons_self ..) rfl, fun d hd => ?_⟩
  · change (List.finRange 8).flatMap s.leavingRecords = _
    rw [hl, List.flatMap_append, List.flatMap_cons]
    rfl
  · rcases List.mem_cons.mp hd with rfl | hd
    · exact halert g
    · exact hothers l2 (List.nodup_cons.mp htail).1 d hd

theorem State.leaveRunChains_alertOff (h : s.groups[g].alertOn = true) :
    Emission.event { Event.plain s.time.runningSecond .alertOff (.group g) with
      limit := s.groups[g].alertLevel, period := s.groups[g].alertPeriod } ∈ s.leaveRunChains.flatten :=
  List.mem_flatten.mpr ⟨_, List.mem_flatMap.mpr ⟨g, List.mem_finRange g, List.mem_cons_of_mem _ (List.mem_cons_self ..)⟩,
    by rw [Group.leaveRun_alertOff h]; exact List.mem_singleton.mpr rfl⟩

end

/-! ### What the change leaves of the Result Store (R110, R150) -/

section
variable {s : State}

/-- The change to CONFIG with its records handed over: the results in the store, and each WINDOW EXCEEDED with the sequence of
its result. -/
theorem State.leaveRun_emits (s : State) (n : Nat) :
    let count := ((List.finRange 8).map fun g => (s.closingWindows g).length).sum
    let t := s.leaveRun.emit n s.leaveRunChains
    (s.results.next < 65536 → t.results.next = (s.results.next + count) % 65536)
    ∧ (∀ x ∈ t.results.ring, x ∈ s.results.ring
        ∨ ∃ g, ∃ w ∈ s.closingWindows g, x = { s.judgedTruncated g w with sequence := x.sequence })
    ∧ (count ≤ 512 → ∀ g, ∀ w ∈ s.closingWindows g, ∃ x ∈ t.results.ring,
        x = { s.judgedTruncated g w with sequence := x.sequence }
        ∧ (x.outcome = .exceeded → t.raised { Event.plain s.time.runningSecond .windowExceeded (.group g) with
            level := x.rated, limit := x.limit, period := some w.period, detail := some (x.sequence : Int) })) := by
  intro count t
  obtain ⟨l, k, hperm, hordered, ht⟩ := s.leaveRun.emit_ordered n s.leaveRunChains
  have hentered := hperm.filterMap Emission.resultOf
  rw [State.leaveRunChains_results] at hentered
  have hcount : (l.filterMap Emission.resultOf).length = count := by
    rw [hentered.length_eq, List.length_flatMap]
    simp only [List.length_map, count]
  have hresults : t.results = (l.filterMap Emission.resultOf).foldl ResultStore.enter s.results := by
    rw [show t = _ from ht]
    exact State.emitAll_results n l s.leaveRun
  refine ⟨fun hnext => ?_, fun x hx => ?_, fun hshort g w hw => ?_⟩
  · rw [hresults, enterResults_next _ _ hnext, hcount]
  · rw [hresults] at hx
    refine (enterResults_mem _ _ x hx).imp_right fun ⟨r, hr, hxr⟩ => ?_
    obtain ⟨g, -, hr⟩ := List.mem_flatMap.mp (hentered.mem_iff.mp hr)
    obtain ⟨w, hw, rfl⟩ := List.mem_map.mp hr
    exact ⟨g, w, hw, hxr⟩
  · obtain ⟨before, after, hsplit, hbefore, hafter⟩ := s.leaveRunChains_split g
    have hgroup := hordered _ before after _ hsplit hbefore hafter
    rw [State.truncatedCloses_ofWindow, if_pos rfl, State.truncatedCloses_eq] at hgroup
    obtain ⟨d1, d2, hd⟩ := List.append_of_mem hw
    rw [hd, List.flatMap_append, List.flatMap_cons] at hgroup
    obtain ⟨x, hx, hxr, hexceeded⟩ := State.emitAll_judged (s := s.leaveRun) (n := n) (r := s.judgedTruncated g w)
      (hcount ▸ hshort) rfl hgroup
    rw [show t = _ from ht]
    refine ⟨x, hx, hxr, fun ho => ?_⟩
    have houtcome : (s.judgedTruncated g w).outcome = .exceeded := by rw [hxr] at ho; exact ho
    rw [hxr]
    exact hexceeded _ [] (by rw [if_pos houtcome])

end

/-! ### O12 -/

/-- SET MODE CONFIG in RUN, below lock level 2 and with no check in progress, leaves RUN (R183, R184). -/
theorem exec_setMode_leaves {r : Request} {s : State} (hr : Addressed r s) (hp : r.payload = [1])
    (hrun : s.control.mode = .run) (hlock : s.control.lock < 2) (hidle : s.check.stage = .idle) :
    exec (.setMode r) s = .next ((s.leaveRun.emit 1 s.leaveRunChains).answer r.write 3 r.tag .ok []) := by
  have hconfig : setModeOf r.payload = some .config := by rw [hp]; rfl
  have hbusy : s.check.busy = false := by simp [CheckEngine.busy, hidle]
  have hrule : setModeRule r.payload s =
      { state := s.leaveRun, chains := s.leaveRunChains, code := .ok, payload := [] } := by
    rw [setModeRule, takeOutsideBoot_some (by rw [hrun]; nofun) hconfig]
    simp [hrun, hbusy, Nat.not_le_of_lt hlock]
  refine congrArg Host.Outcome.next ?_
  rw [serveSetMode, State.serve_addressed s _ _ _ _ _ hr.1 hr.2, hrule]
  rfl

/-- Settles O12: the groups that the change to CONFIG leaves, and what its records leave of the Result Store and the Event
Queue. -/
theorem leavingRunClosesEveryWindow : Obligations.LeavingRunClosesEveryWindow := by
  rintro r s hr hp hrun hlock hidle ⟨-, hnext, -⟩ closing count judged
  obtain ⟨hstore, honly, hjudged⟩ := s.leaveRun_emits 1
  refine ⟨_, exec_setMode_leaves hr hp hrun hlock hidle, by simp, fun g => ?_, hstore hnext, fun x hx => ?_,
    fun g => ⟨fun hcount w hw => ?_, fun hon => ?_⟩⟩
  · rw [State.answer_groups, State.emit_groups, State.leaveRun_group]
  · refine (honly x hx).imp_right fun ⟨g, w, hw, hxw⟩ => ⟨g, w, hw, hxw⟩
  · obtain ⟨x, hx, hxw, hexceeded⟩ := hjudged hcount g w hw
    exact ⟨x, hx, hxw, by rw [hxw]; rfl, hexceeded⟩
  · exact s.leaveRun.emit_raised 1 _ (s.leaveRunChains_alertOff g hon)

end Sys2Proof.Machine
end

section
/-! SUPPORT. PERIOD ENTRY and GROUP LIMIT read back what they wrote, from any schedule; O20 (R92 to R95, R175; log 8, 15). -/
namespace Sys2Proof.Machine

/-! ### A set of flags in a byte (R175) -/

/-- The number that flags spell has the n-th flag as its bit n. -/
theorem testBit_flags (l : List Bool) (n : Nat) :
    (l.reverse.foldl (fun acc (f : Bool) => 2 * acc + f.toNat) 0).testBit n = l[n]?.getD false := by
  rw [List.foldl_reverse]
  induction l generalizing n with
  | nil => simp
  | cons b l ih =>
    rw [List.foldr_cons, ← Nat.bit_val]
    cases n with
    | zero => simp
    | succ n => simpa [Nat.testBit_bit_succ] using ih n

/-- The set of groups that have a record in an entry, as the byte that a PERIOD ENTRY read ends with (R94). -/
def limitMask (e : PeriodEntry) : Byte :=
  BitVec.ofNat 8 ((limitGroups e).reverse.foldl (fun acc f => 2 * acc + f.toNat) 0)

theorem flagBytes_limitGroups (e : PeriodEntry) : flagBytes 1 (limitGroups e) = [limitMask e] := beBytes_one _

theorem limitMask_bit (e : PeriodEntry) (g : Grp) : (limitMask e).getLsbD g.val = e.limits[g].isSome := by
  have hg := g.isLt
  rw [limitMask, BitVec.getLsbD_ofNat, testBit_flags]
  simp [limitGroups, hg]

/-! ### The reads (R94, R95) -/

theorem scheduleNameOf_code (n : ScheduleName) : scheduleNameOf (scheduleNameCode n) = some n := by cases n <;> rfl

theorem scheduleNameCode_lt (n : ScheduleName) : scheduleNameCode n < 256 := by cases n <;> decide

theorem periodReadOf_bytes (n : ScheduleName) (i : Per) :
    periodReadOf [BitVec.ofNat 8 (scheduleNameCode n), BitVec.ofNat 8 i.val] = some (n, i) := by
  have hi := i.isLt
  simp [periodReadOf, ofLength, Nat.mod_eq_of_lt (scheduleNameCode_lt n), Nat.mod_eq_of_lt (show i.val < 256 by omega),
    scheduleNameOf_code]

theorem limitReadOf_bytes (n : ScheduleName) (i : Per) (g : Grp) :
    limitReadOf [BitVec.ofNat 8 (scheduleNameCode n), BitVec.ofNat 8 i.val, BitVec.ofNat 8 g.val, 0] = some (n, i, g) := by
  have hi := i.isLt
  have hg := g.isLt
  simp [limitReadOf, ofLength, Nat.mod_eq_of_lt (scheduleNameCode_lt n), Nat.mod_eq_of_lt (show i.val < 256 by omega),
    Nat.mod_eq_of_lt (show g.val < 256 by omega), scheduleNameOf_code]

section
variable {r : Request} {s : State} (hr : Addressed r s) (hm : s.control.mode ≠ .boot) {n : ScheduleName} {i : Per} {g : Grp}

include hr hm

/-- A PERIOD ENTRY read answers the entry of the schedule it names, and the groups that have a record in it. -/
theorem exec_periodEntryRead_some (hp : r.payload = [BitVec.ofNat 8 (scheduleNameCode n), BitVec.ofNat 8 i.val])
    {e : PeriodEntry} (he : (s.schedules.named n).map (·[i]) = some e) : exec (.periodEntryRead r) s =
      .next (s.answer false 20 r.tag .ok (r.payload ++ periodBytes e ++ [limitMask e])) := by
  obtain ⟨d, hd, rfl⟩ := Option.map_eq_some_iff.mp he
  exact congrArg Host.Outcome.next (State.serve_taken hr hm (hp ▸ periodReadOf_bytes n i)
    (by simp [hd, hp, beBytes_one, flagBytes_limitGroups]))

theorem exec_periodEntryRead_none (hp : r.payload = [BitVec.ofNat 8 (scheduleNameCode n), BitVec.ofNat 8 i.val])
    (hd : s.schedules.named n = none) :
    exec (.periodEntryRead r) s = .next (s.answer false 20 r.tag .notAvailable []) :=
  congrArg Host.Outcome.next (State.serve_taken hr hm (hp ▸ periodReadOf_bytes n i) (by simp [hd]))

/-- A GROUP LIMIT read answers the record it names. -/
theorem exec_groupLimitRead_some
    (hp : r.payload = [BitVec.ofNat 8 (scheduleNameCode n), BitVec.ofNat 8 i.val, BitVec.ofNat 8 g.val, 0])
    {x : LimitRecord} (hx : ((s.schedules.named n).bind fun d => d[i].limits[g]) = some x) :
    exec (.groupLimitRead r) s = .next (s.answer false 21 r.tag .ok
      ([BitVec.ofNat 8 (scheduleNameCode n), BitVec.ofNat 8 i.val, BitVec.ofNat 8 g.val] ++ limitBytes x)) :=
  congrArg Host.Outcome.next (State.serve_taken hr hm (hp ▸ limitReadOf_bytes n i g)
    (by dsimp only; rw [hx]; simp [limitHead, beBytes_one]))

/-- A GROUP LIMIT read of no record, or of a schedule that is not held, is NOT_AVAILABLE. -/
theorem exec_groupLimitRead_none
    (hp : r.payload = [BitVec.ofNat 8 (scheduleNameCode n), BitVec.ofNat 8 i.val, BitVec.ofNat 8 g.val, 0])
    (hx : ((s.schedules.named n).bind fun d => d[i].limits[g]) = none) :
    exec (.groupLimitRead r) s = .next (s.answer false 21 r.tag .notAvailable []) :=
  congrArg Host.Outcome.next (State.serve_taken hr hm (hp ▸ limitReadOf_bytes n i g) (by dsimp only; rw [hx]))

end

/-! ### What the writes leave (R94, R95) -/

section
variable (s : Schedules) (i : Per) (g : Grp) (x : Option LimitRecord)

theorem Schedules.writePeriod_staged (e : PeriodEntry) :
    (s.writePeriod i e).staged[i] = { e with limits := s.staged[i].limits } := by
  simp [Schedules.writePeriod, Schedules.setStaged]

theorem Schedules.writeLimit_same : (s.writeLimit i g x).staged[i].limits[g] = x := by
  simp [Schedules.writeLimit, Schedules.setStaged]

theorem Schedules.writeLimit_group {h : Grp} (hg : h ≠ g) :
    (s.writeLimit i g x).staged[i].limits[h] = s.staged[i].limits[h] := by
  have hv : g.val ≠ h.val := fun e => hg (Fin.ext e.symm)
  simp [Schedules.writeLimit, Schedules.setStaged, Vector.getElem_set_ne _ _ hv]

theorem Schedules.writeLimit_entry {j : Per} (hj : j ≠ i) : (s.writeLimit i g x).staged[j] = s.staged[j] := by
  have hv : i.val ≠ j.val := fun e => hj (Fin.ext e.symm)
  simp [Schedules.writeLimit, Schedules.setStaged, Vector.getElem_set_ne _ _ hv]

end

/-! ### O20 -/

/-- A request that finds room for two more answers finds it after one. -/
theorem Addressed.answer {r : Request} {s : State} (hb : r.broadcast = false) (ho : s.trunk.out.length < 7) (w : Bool)
    (code tag : Byte) (k : ResultCode) (p : List Byte) : Addressed r (s.answer w code tag k p) :=
  ⟨hb, by rw [State.answer_length]; omega⟩

/-- A staged entry that is written is read back as it was spelt, its limit records as they were. -/
theorem periodEntry_writesAndReadsBack {rw rr : Request} {s : State} {i : Per} (hw : Addressed rw s)
    (hb : rr.broadcast = false) (ho : s.trunk.out.length < 5) (hm : s.control.mode ≠ .boot) {e : PeriodEntry} (he : e.legal)
    (hp : rw.payload = [0, BitVec.ofNat 8 i.val] ++ periodBytes e) (hr : rr.payload = [0, BitVec.ofNat 8 i.val]) :
    ∃ t mask, exec (.periodEntryWrite rw) s = .next t
      ∧ t = { s with schedules := { s.schedules with
          staged := s.schedules.staged.set i { e with limits := s.schedules.staged[i].limits } } }.answer
            true 20 rw.tag .ok rw.payload
      ∧ exec (.periodEntryRead rr) t = .next (t.answer false 20 rr.tag .ok (rw.payload ++ [mask]))
      ∧ ∀ g : Grp, mask.getLsbD g.val = s.schedules.staged[i].limits[g].isSome := by
  have hwrite := exec_periodEntryWrite_bytes hw hm he hp
  rw [← hp] at hwrite
  have hread := exec_periodEntryRead_some (n := .staged) (i := i)
    (Addressed.answer (s := { s with schedules := s.schedules.writePeriod i e }) hb (by change s.trunk.out.length < 7; omega)
      true 20 rw.tag .ok rw.payload) hm hr (congrArg some (s.schedules.writePeriod_staged i e))
  refine ⟨_, limitMask { e with limits := s.schedules.staged[i].limits }, hwrite, rfl, ?_, limitMask_bit _⟩
  rw [hread, hr, hp]
  rfl

/-- A limit record that is written is read back as it was spelt, and once removed is read as NOT_AVAILABLE. -/
theorem groupLimit_writesAndReadsBack {rw rr rx : Request} {s : State} {i : Per} {ignored : List Byte} (hw : Addressed rw s)
    (hb : rr.broadcast = false) (hbx : rx.broadcast = false) (ho : s.trunk.out.length < 5) (hm : s.control.mode ≠ .boot)
    {g : Grp} {x : LimitRecord} (hx : x.legal)
    (hp : rw.payload = [0, BitVec.ofNat 8 i.val, BitVec.ofNat 8 g.val] ++ limitBytes x)
    (hr : rr.payload = [0, BitVec.ofNat 8 i.val, BitVec.ofNat 8 g.val, 0])
    (hpx : rx.payload = [0, BitVec.ofNat 8 i.val, BitVec.ofNat 8 g.val, 1] ++ ignored) (hl : ignored.length = 12) :
    ∃ t u, exec (.groupLimitWrite rw) s = .next t ∧ t.schedules.staged[i].limits[g] = some x
      ∧ (∀ h : Grp, h ≠ g → t.schedules.staged[i].limits[h] = s.schedules.staged[i].limits[h])
      ∧ exec (.groupLimitRead rr) t = .next (t.answer false 21 rr.tag .ok rw.payload)
      ∧ exec (.groupLimitRemove rx) t = .next u ∧ u.schedules.staged[i].limits[g] = none
      ∧ (∀ j : Per, j ≠ i → u.schedules.staged[j] = s.schedules.staged[j])
      ∧ exec (.groupLimitRead rr) u = .next (u.answer false 21 rr.tag .notAvailable []) := by
  let written : State := { s with schedules := s.schedules.writeLimit i g (some x) }
  let t := written.answer true 21 rw.tag .ok rw.payload
  let removed : State := { t with schedules := t.schedules.writeLimit i g none }
  let u := removed.answer true 21 rx.tag .ok []
  have hwrite : exec (.groupLimitWrite rw) s = .next t := by
    rw [exec_groupLimit (.inl rfl), serveLimitWrite_some hw hm (hp ▸ limitWriteOf_limitBytes hx i g), ← hp]
  have hroom : t.trunk.out.length < 7 := by rw [State.answer_length]; change s.trunk.out.length + 1 < 7; omega
  have hremove : exec (.groupLimitRemove rx) t = .next u := by
    rw [exec_groupLimit (.inr rfl),
      serveLimitWrite_none ⟨hbx, Nat.lt_succ_of_lt hroom⟩ hm (hpx ▸ limitWriteOf_ignored i g hl)]
  refine ⟨t, u, hwrite, s.schedules.writeLimit_same i g _, fun h hh => s.schedules.writeLimit_group i g _ hh, ?_, hremove,
    Schedules.writeLimit_same .., fun j hj => ?_, ?_⟩
  · rw [exec_groupLimitRead_some (n := .staged) ⟨hb, Nat.lt_succ_of_lt hroom⟩ hm hr (s.schedules.writeLimit_same i g _), hp]
    rfl
  · exact (t.schedules.writeLimit_entry i g none hj).trans (s.schedules.writeLimit_entry i g (some x) hj)
  · exact exec_groupLimitRead_none (n := .staged) (.answer (s := removed) hb hroom true 21 rx.tag .ok []) hm hr
      (Schedules.writeLimit_same t.schedules i g none)

/-- A read of a schedule that is held answers what it holds. -/
theorem schedule_reads {rr : Request} {s : State} (hr : Addressed rr s) (hm : s.control.mode ≠ .boot) (i : Per) (g : Grp)
    {n : ScheduleName} {d : Schedule} (hd : s.schedules.named n = some d) :
    (rr.payload = [BitVec.ofNat 8 (scheduleNameCode n), BitVec.ofNat 8 i.val] →
      ∃ m : Byte, (∀ h : Grp, m.getLsbD h.val = d[i].limits[h].isSome) ∧ exec (.periodEntryRead rr) s =
        .next (s.answer false 20 rr.tag .ok (rr.payload ++ periodBytes d[i] ++ [m])))
    ∧ (rr.payload = [BitVec.ofNat 8 (scheduleNameCode n), BitVec.ofNat 8 i.val, BitVec.ofNat 8 g.val, 0] →
      exec (.groupLimitRead rr) s = .next (match d[i].limits[g] with
        | some x => s.answer false 21 rr.tag .ok
            ([BitVec.ofNat 8 (scheduleNameCode n), BitVec.ofNat 8 i.val, BitVec.ofNat 8 g.val] ++ limitBytes x)
        | none => s.answer false 21 rr.tag .notAvailable [])) := by
  refine ⟨fun hp => ⟨limitMask d[i], limitMask_bit _, exec_periodEntryRead_some hr hm hp (by rw [hd]; rfl)⟩, fun hp => ?_⟩
  cases hx : d[i].limits[g] with
  | some x => exact exec_groupLimitRead_some hr hm hp (by rw [hd]; exact hx)
  | none => exact exec_groupLimitRead_none hr hm hp (by rw [hd]; exact hx)

/-- Settles O20: the writes with the reads that follow them, and the reads of the schedules in force and pending. -/
theorem scheduleEntriesWriteAndReadBack : Obligations.ScheduleEntriesWriteAndReadBack := by
  intro rw rr rx s i ignored hw hb hbx ho hm
  have hr : Addressed rr s := ⟨hb, by omega⟩
  refine ⟨fun e he hp hpr => periodEntry_writesAndReadsBack hw hb ho hm he hp hpr,
    fun g x hx hp hpr hpx hl => groupLimit_writesAndReadsBack hw hb hbx ho hm hx hp hpr hpx hl, fun g => ?_⟩
  intro mask periodAs limitAs
  obtain ⟨hperiod, hlimit⟩ := schedule_reads hr hm i g (n := .active) rfl
  refine ⟨hperiod, hlimit, fun p hp => ?_, fun hnone => ⟨fun hp => ?_, fun hp => ?_⟩⟩
  · exact schedule_reads hr hm i g (n := .pendingSchedule) (d := p.1) (by rw [Schedules.named, hp]; rfl)
  · exact exec_periodEntryRead_none hr hm (n := .pendingSchedule) hp (by rw [Schedules.named, hnone]; rfl)
  · exact exec_groupLimitRead_none hr hm (n := .pendingSchedule) hp (by rw [Schedules.named, hnone]; rfl)

end Sys2Proof.Machine
end

section
/-! SUPPORT. EXCLUDE ADD: its operands, its place in the list, and what it reaches; O21 (R105, R119, R121, R122, R180; log 17). -/
namespace Sys2Proof.Machine

/-! ### The operands (R121, steps 1 and 2) -/

/-- The payload of an EXCLUDE ADD, read with the tests that need no current second. -/
theorem excludeAddOf_bytes {offset : Int} {duration reason : Nat} {mask : GrpSet} (ho : legalCoef offset)
    (hd : duration < 4294967296) (hr : reason < 256) :
    excludeAddOf (beSigned 4 offset ++ beBytes 4 duration ++ [mask, BitVec.ofNat 8 reason]) =
      if offset ≤ 86400 ∧ duration ≠ 0 ∧ mask ≠ 0 ∧ reason ≤ 15 then
        some { offset, duration := if duration = 4294967295 then none else some (min 86400 duration), mask, reason }
      else none := by
  have hl : ofLength (beSigned 4 offset ++ beBytes 4 duration ++ [mask, BitVec.ofNat 8 reason]) 10 = some () :=
    ofLength_eq_some.mpr (by simp)
  have hoffset : signedField (beSigned 4 offset ++ beBytes 4 duration ++ [mask, BitVec.ofNat 8 reason]) 0 4 = offset :=
    (signedField_congr (by simp [field_append_left])).trans (signedField_beSigned ho)
  rw [excludeAddOf, hl, hoffset]
  simp [field_append_left, field_append_right, field_beBytes, Nat.mod_eq_of_lt hd, Nat.mod_eq_of_lt hr, allOnes]

/-- The entry of an EXCLUDE ADD: its start is clipped, its end is taken before the clipping, and where it would cover nothing
there is none. -/
theorem ExcludeRequest.entryAt_cases (q : ExcludeRequest) (now : Nat) :
    let requested : Int := now + q.offset
    let start : Int := max requested (now - 900 : Nat)
    let stop : Option Int := q.duration.map fun d => requested + d
    ((∃ e, stop = some e ∧ e ≤ start) → q.entryAt now = none)
    ∧ ((¬∃ e, stop = some e ∧ e ≤ start) → ∃ x, q.entryAt now = some x ∧ (x.start : Int) = start
        ∧ x.stop.map (fun e => (e : Int)) = stop ∧ x.mask = q.mask ∧ x.reason = q.reason
        ∧ x.clipped = decide (requested < (now - 900 : Nat))) := by
  intro requested start stop
  let first := if decide (requested < (now - 900 : Nat)) = true then now - 900 else requested.toNat
  have hfirst : (first : Int) = start := by
    simp only [first, start, decide_eq_true_eq]
    split <;> omega
  have hentry : q.entryAt now = if ((q.duration.map fun d => (requested + d).toNat).map (decide <| · ≤ first)).getD false
      then none else some { id := 0, mask := q.mask, start := first, stop := q.duration.map fun d => (requested + d).toNat
                            reason := q.reason, clipped := decide (requested < (now - 900 : Nat)) } := rfl
  have hempty : ((q.duration.map fun d => (requested + d).toNat).map (decide <| · ≤ first)).getD false = true
      ↔ ∃ e, stop = some e ∧ e ≤ start := by
    simp only [stop, ← hfirst]
    cases q.duration with
    | none => simp
    | some d => simp
  rw [hentry]
  refine ⟨fun h => if_pos (hempty.mpr h), fun h => ?_⟩
  rw [if_neg (mt hempty.mp h)]
  refine ⟨_, rfl, hfirst, ?_, rfl, rfl, rfl⟩
  simp only [stop, ← hfirst] at h ⊢
  cases hd : q.duration with
  | none => rfl
  | some d =>
    rw [hd] at h
    have hlate : ¬requested + d ≤ first := fun hle => h ⟨_, rfl, hle⟩
    refine congrArg some ?_
    change ((requested + d).toNat : Int) = requested + d
    omega

/-! ### The id and the place (R119, R121, step 4) -/

/-- A list that is not full has a free id, and the lowest one is taken. -/
theorem lowestFreeId_spec {xs : List Exclusion} (h : xs.length < 16) : ∃ i, lowestFreeId xs = some i
    ∧ (∀ y ∈ xs, y.id ≠ i) ∧ ∀ j < i, ∃ y ∈ xs, y.id = j := by
  have hfree : ∃ i : Fin 16, ∀ y ∈ xs, y.id ≠ i := by
    by_contra hno
    push Not at hno
    have hall : (xs.map (·.id)).toFinset = Finset.univ := Finset.eq_univ_iff_forall.mpr fun i => by
      obtain ⟨y, hy, hi⟩ := hno i
      exact List.mem_toFinset.mpr (List.mem_map.mpr ⟨y, hy, hi⟩)
    have hcard := List.toFinset_card_le (xs.map (·.id))
    rw [hall, Finset.card_univ, Fintype.card_fin, List.length_map] at hcard
    omega
  obtain ⟨i, hi, hmin⟩ := WellFounded.has_min wellFounded_lt {i : Fin 16 | ∀ y ∈ xs, y.id ≠ i} hfree
  have htaken : ∀ j < i, ∃ y ∈ xs, y.id = j := fun j hj => by
    by_contra hno
    push Not at hno
    exact hmin j hno hj
  refine ⟨i, ?_, hi, htaken⟩
  rw [lowestFreeId, ← List.findSome?_guard]
  refine findSome?_finRange_eq_some (i := i) ?_ fun j hj => ?_
  · exact if_pos (List.all_eq_true.mpr fun y hy => decide_eq_true (hi y hy))
  · obtain ⟨y, hy, hid⟩ := htaken j hj
    refine if_neg fun hall => ?_
    have hne : y.id ≠ j := of_decide_eq_true (List.all_eq_true.mp hall y hy)
    exact hne hid

/-- The entry stands behind every entry whose start is at or before its own. -/
theorem placeExclusion_spec (x : Exclusion) (xs : List Exclusion) : ∃ before after, xs = before ++ after
    ∧ placeExclusion x xs = before ++ x :: after ∧ (∀ y ∈ before, y.start ≤ x.start)
    ∧ ∀ y, after.head? = some y → x.start < y.start := by
  refine ⟨_, _, (List.takeWhile_append_dropWhile ..).symm, rfl, fun y hy => ?_, fun y hy => ?_⟩
  · simpa using List.mem_takeWhile_imp hy
  · have hnot := List.head?_dropWhile_not (fun y : Exclusion => decide (y.start ≤ x.start)) xs
    rw [hy] at hnot
    simpa using hnot

/-! ### What the entry reaches (R105, R122) -/

/-- The records that a window took are subtracted, one after the other. -/
theorem Window.less_eq_foldl (rs : List GroupSecond) (w : Window) :
    w.less rs = (rs.filter w.took).foldl Window.subtract w := by
  induction rs generalizing w with
  | nil => rfl
  | cons r rs ih =>
    rw [Window.less_cons, List.filter_cons]
    split
    · rw [ih, Window.took_subtract, List.foldl_cons]
    · rw [ih]

/-- With no window due, the records subtracted are those the open window took. -/
theorem Group.subtractAll_count {gr : Group} (h : gr.dueWindows = []) (rs : List GroupSecond) :
    (gr.subtractAll rs).2 = rs.countP fun r => gr.openWindow.any (·.took r) := by
  suffices hn : ∀ n, (rs.foldl (fun a r => let t := a.1.subtractRecord r; (t.1, a.2 + t.2.toNat)) (gr, n)).2 =
      n + rs.countP fun r => gr.openWindow.any (·.took r) by
    exact (hn 0).trans (Nat.zero_add _)
  induction rs generalizing gr with
  | nil => exact fun n => rfl
  | cons r rs ih =>
    intro n
    have hdue : (gr.subtractRecord r).1.dueWindows = [] := by simp [Group.subtractRecord, h]
    have hopen : ∀ y, (gr.subtractRecord r).1.openWindow.any (·.took y) = gr.openWindow.any (·.took y) := fun y => by
      cases ho : gr.openWindow with
      | none => simp [Group.subtractRecord, ho]
      | some w =>
        simp only [Group.subtractRecord, ho, Option.map_some, Option.any_some]
        split <;> rfl
    have htook : (gr.subtractRecord r).2 = gr.openWindow.any (·.took r) := by
      cases ho : gr.openWindow <;> simp [Group.subtractRecord, h, ho]
    rw [List.foldl_cons, ih hdue, List.countP_cons]
    simp only [hopen, htook]
    cases gr.openWindow.any (·.took r) <;> simp; omega

/-- The two counts of a group: the records that the entry reaches, and those of them that the open window took. -/
theorem Group.exclude_counts {gr : Group} (h : gr.dueWindows = []) (x : Exclusion) (now : Nat) :
    (gr.exclude x now).2 = (gr.ring.countP (x.reaches now),
      gr.ring.countP fun y => x.reaches now y && gr.openWindow.any (·.took y)) := by
  refine Prod.ext List.countP_eq_length_filter.symm ?_
  refine (Group.subtractAll_count (by exact h) _).trans ?_
  rw [List.countP_filter]
  exact congrArg (List.countP · _) (funext fun y => Bool.and_comm ..)

/-- With no window due, the entry reaches the ring and the open window. -/
theorem Group.exclude_open {gr : Group} (h : gr.dueWindows = []) (x : Exclusion) (now : Nat) : (gr.exclude x now).1 = { gr with
    ring := gr.ring.map fun y => if x.reaches now y then { y with excluded := true } else y
    openWindow := gr.openWindow.map fun w => ((gr.ring.filter (x.reaches now)).filter w.took).foldl Window.subtract w } := by
  rw [Group.exclude_group]
  simp [h, Window.less_eq_foldl]

/-! ### The request (R121, R180) -/

section
variable {r : Request} {s : State}

/-- EXCLUDE ADD answers what its rule says, and is not answered when broadcast. -/
theorem exec_excludeAdd (hr : Addressed r s ∨ r.broadcast = true) {t : State} {code : ResultCode} {body : List Byte}
    (h : excludeAddRule r.payload s = Reply.plain t code body) :
    exec (.excludeAdd r) s = .next (if r.broadcast then t else t.answer r.write 30 r.tag code body) := by
  refine congrArg Host.Outcome.next ?_
  rcases hr with hr | hb
  · rw [if_neg (by rw [hr.1]; exact Bool.false_ne_true)]
    exact State.serve_plain hr h
  · rw [if_pos hb]
    exact State.serve_broadcast_plain hb h

theorem excludeAddRule_bad {p : List Byte} (h : excludeEntryOf p s.time.runningSecond = none) :
    excludeAddRule p s = Reply.plain s .badArgument [] := takeOutsideBoot_none h

theorem excludeAddRule_full {p : List Byte} (hm : s.control.mode ≠ .boot) {x : Exclusion}
    (h : excludeEntryOf p s.time.runningSecond = some x) (hfull : 16 ≤ s.exclusions.length) :
    excludeAddRule p s = Reply.plain s .full [] := by
  rw [excludeAddRule, takeOutsideBoot_some hm h, if_pos hfull]

theorem excludeAddRule_added {p : List Byte} (hm : s.control.mode ≠ .boot) {x : Exclusion}
    (h : excludeEntryOf p s.time.runningSecond = some x) (hroom : s.exclusions.length < 16) {i : Fin 16}
    (hi : lowestFreeId s.exclusions = some i) : excludeAddRule p s = Reply.plain (s.addExclusion { x with id := i }) .ok
      (exclusionBytes { x with id := i } ++ excludeCounts s.groups { x with id := i } s.time.runningSecond) := by
  rw [excludeAddRule, takeOutsideBoot_some hm h, if_neg (Nat.not_le_of_lt hroom), hi]

/-- In BOOT, and with a payload of another length, nothing is excluded. -/
theorem excludeAddRule_idle (h : s.control.mode = .boot ∨ r.payload.length ≠ 10) :
    ∃ code body, excludeAddRule r.payload s = Reply.plain s code body := by
  cases hx : excludeEntryOf r.payload s.time.runningSecond with
  | none => exact ⟨_, _, excludeAddRule_bad hx⟩
  | some x =>
    rcases h with hm | hl
    · exact ⟨_, _, by rw [excludeAddRule, takeOutsideBoot, hx, takeAlways, if_pos hm]; rfl⟩
    · rw [excludeEntryOf, excludeAddOf, show ofLength r.payload 10 = none from if_neg hl] at hx
      cases hx

end

/-- Settles O21: the operands by the tests of R121, and the part with the entry added. -/
theorem excludeAddFollowsItsSteps : Obligations.ExcludeAddFollowsItsSteps := by
  refine ⟨fun r s hb hno => ?_, fun r s offset duration reason mask hr hm hlow hhigh hd hreason hdue hp => ?_⟩
  · obtain ⟨code, body, h⟩ := excludeAddRule_idle hno
    rw [exec_excludeAdd (.inr hb) h, if_pos hb]
  intro now requested earliest start stop bad answers
  have hread := excludeAddOf_bytes (mask := mask) ⟨hlow, hhigh⟩ hd hreason
  rw [← hp] at hread
  let q : ExcludeRequest :=
    { offset, duration := if duration = 4294967295 then none else some (min 86400 duration), mask, reason }
  obtain ⟨hnothing, hsomething⟩ := q.entryAt_cases now
  have hstop : (q.duration.map fun d => requested + (d : Int)) = stop := by
    simp only [q, stop]
    split <;> rfl
  have hargs : ¬(86400 < offset ∨ duration = 0 ∨ mask = 0 ∨ 15 < reason) ↔
      offset ≤ 86400 ∧ duration ≠ 0 ∧ mask ≠ 0 ∧ reason ≤ 15 := by
    push Not
    rfl
  have hbad : bad ↔ (86400 < offset ∨ duration = 0 ∨ mask = 0 ∨ 15 < reason) ∨ ∃ e, stop = some e ∧ e ≤ start := by
    simp only [bad, or_assoc]
  rw [show (q.duration.map fun d => (now : Int) + q.offset + (d : Int)) = stop from hstop] at hnothing hsomething
  have hgood : ¬bad → ∃ x, excludeEntryOf r.payload now = some x ∧ (x.start : Int) = start
      ∧ x.stop.map (fun e => (e : Int)) = stop ∧ x.mask = mask ∧ x.reason = reason
      ∧ x.clipped = decide (requested < earliest) := fun h => by
    obtain ⟨ha, hcovers⟩ := not_or.mp (mt hbad.mpr h)
    rw [excludeEntryOf, hread, if_pos (hargs.mp ha)]
    exact hsomething hcovers
  refine ⟨fun h => ?_, fun h hfull => ?_, fun h hroom => ?_⟩
  · refine exec_excludeAdd hr (excludeAddRule_bad ?_)
    rw [excludeEntryOf, hread]
    split
    · rename_i ha
      exact hnothing ((hbad.mp h).resolve_left (hargs.mpr ha))
    · rfl
  · obtain ⟨x, hx, -⟩ := hgood h
    exact exec_excludeAdd hr (excludeAddRule_full hm hx hfull)
  · obtain ⟨x₀, hx, hstart, hend, hmask, hwhy, hclipped⟩ := hgood h
    obtain ⟨i, hi, hunused, htaken⟩ := lowestFreeId_spec hroom
    have hadded := exec_excludeAdd hr (excludeAddRule_added hm hx hroom hi)
    generalize hxid : ({ x₀ with id := i } : Exclusion) = x at hadded
    refine ⟨x, s.addExclusion x, ?_⟩
    intro reached took less counts
    have hreached : x.reaches now = reached := funext fun y => by
      simp only [Exclusion.reaches, reached]
      cases x.stop <;> rfl
    have htook : ∀ w : Window, w.took = took w := fun w => funext fun y => by
      simp only [Window.took, took]
      cases y.position with
      | none => rfl
      | some p => simp [Window.contains, Bool.and_assoc, Bool.beq_eq_decide_eq]
    have hxmask : x.mask = mask := by rw [← hxid]; exact hmask
    have hcounts : excludeCounts s.groups x now =
        ((List.finRange 8).filter fun g : Grp => mask.getLsbD g.val).flatMap counts := by
      rw [excludeCounts, hxmask]
      refine congrArg (List.flatMap · _) (funext fun g => ?_)
      simp only [Group.exclude_counts (hdue g), hreached, htook, counts]
    have hgroup (g : Grp) : (s.addExclusion x).groups[g] = s.groups[g].excludeMasked g x now := by
      simp [State.addExclusion, now]
    refine ⟨by rw [← hcounts]; exact hadded, by rw [← hxid]; exact hstart, by rw [← hxid]; exact hend, hxmask,
      by rw [← hxid]; exact hwhy, by rw [← hxid]; exact hclipped, by rw [← hxid]; exact hunused,
      by rw [← hxid]; exact htaken, rfl, placeExclusion_spec _ _, fun g => ?_⟩
    rw [hgroup g, Group.excludeMasked, hxmask]
    split
    · rw [Group.exclude_open (hdue g), hreached]
      simp only [htook]
      rfl
    · rfl

end Sys2Proof.Machine
end

section
/-! SUPPORT. The Exclusion List: its law, what each act on it keeps, and the commands that end, clear and read an
entry; O59 and O22 (R119 to R125, R180; log 17). -/
namespace Sys2Proof.Machine

/-! ### The law of a list (R119) -/

/-- A list of exclusions as R119 holds it: within 16 entries, of distinct ids, in order of start, each with a group and a
reason of 0 to 15. -/
structure LawfulExclusions (xs : List Exclusion) : Prop where
  room : xs.length ≤ 16
  ids : (xs.map (·.id)).Nodup
  order : xs.Pairwise fun x y => x.start ≤ y.start
  entries : ∀ x ∈ xs, x.mask ≠ 0 ∧ x.reason ≤ 15

theorem State.exclusionLaw_iff {s : State} : s.exclusionLaw ↔ LawfulExclusions s.exclusions :=
  ⟨fun ⟨h1, h2, h3, h4⟩ => ⟨h1, h2, h3, h4⟩, fun ⟨h1, h2, h3, h4⟩ => ⟨h1, h2, h3, h4⟩⟩

/-- The law reads the list alone. -/
theorem State.exclusionLaw.congr {s t : State} (h : s.exclusionLaw) (e : t.exclusions = s.exclusions) : t.exclusionLaw :=
  State.exclusionLaw_iff.mpr (e ▸ State.exclusionLaw_iff.mp h)

/-- Entries that go leave the rest in order: EXCLUDE CLEAR, the expiry of R120, and a RESTART. -/
theorem LawfulExclusions.sublist {xs ys : List Exclusion} (h : LawfulExclusions xs) (hs : ys.Sublist xs) :
    LawfulExclusions ys where
  room := hs.length_le.trans h.room
  ids := h.ids.sublist (hs.map _)
  order := h.order.sublist hs
  entries x hx := h.entries x (hs.subset hx)

/-- A change of ends alone keeps the list (R123). -/
theorem LawfulExclusions.map_stop {xs : List Exclusion} (h : LawfulExclusions xs) {f : Exclusion → Exclusion}
    (hf : ∀ x, f x = { x with stop := (f x).stop }) : LawfulExclusions (xs.map f) where
  room := (List.length_map f).trans_le h.room
  ids := by
    have hid : Exclusion.id ∘ f = Exclusion.id := funext fun x => by rw [Function.comp_apply, hf]
    rw [List.map_map, hid]
    exact h.ids
  order := List.pairwise_map.mpr (h.order.imp fun {x y} hxy => by rw [hf x, hf y]; exact hxy)
  entries y hy := by
    obtain ⟨x, hx, rfl⟩ := List.mem_map.mp hy
    rw [hf x]
    exact h.entries x hx

/-- An entry under an id that is free stands in its place by start, where the list has room (R121, step 4). -/
theorem LawfulExclusions.place {xs : List Exclusion} (h : LawfulExclusions xs) (hroom : xs.length < 16) {x : Exclusion}
    (hid : ∀ y ∈ xs, y.id ≠ x.id) (hx : x.mask ≠ 0 ∧ x.reason ≤ 15) : LawfulExclusions (placeExclusion x xs) := by
  obtain ⟨before, after, hxs, hplaced, hbefore, hafter⟩ := placeExclusion_spec x xs
  have hperm : (placeExclusion x xs).Perm (x :: xs) := by
    rw [hplaced, hxs]
    exact List.perm_middle
  refine ⟨hperm.length_eq.trans_le hroom, ?_, ?_, fun y hy => ?_⟩
  · refine (hperm.map _).nodup_iff.mpr (List.nodup_cons.mpr ⟨fun hmem => ?_, h.ids⟩)
    obtain ⟨y, hy, he⟩ := List.mem_map.mp hmem
    exact hid y hy he
  · obtain ⟨horderb, hordera, hacross⟩ := List.pairwise_append.mp (hxs ▸ h.order)
    have hlater : ∀ y ∈ after, x.start ≤ y.start := fun y hy => by
      cases after with
      | nil => cases hy
      | cons z rest =>
        have hz : x.start < z.start := hafter z rfl
        rcases List.mem_cons.mp hy with rfl | hy
        · exact hz.le
        · exact hz.le.trans ((List.pairwise_cons.mp hordera).1 y hy)
    rw [hplaced]
    refine List.pairwise_append.mpr ⟨horderb, List.pairwise_cons.mpr ⟨hlater, hordera⟩, fun y hy z hz => ?_⟩
    rcases List.mem_cons.mp hz with rfl | hz
    · exact hbefore y hy
    · exact hacross y hy z hz
  · rcases List.mem_cons.mp (hperm.subset hy) with rfl | hy
    · exact hx
    · exact h.entries y hy

/-! ### The rules that move the list (R120 to R124) -/

/-- The operands of an EXCLUDE ADD name a group and a reason of 0 to 15 (R121). -/
theorem excludeEntryOf_legal {p : List Byte} {now : Nat} {x : Exclusion} (h : excludeEntryOf p now = some x) :
    x.mask ≠ 0 ∧ x.reason ≤ 15 := by
  obtain ⟨q, hq, hx⟩ := Option.bind_eq_some_iff.mp h
  have hlegal : q.mask ≠ 0 ∧ q.reason ≤ 15 := by
    obtain ⟨-, -, hq⟩ := Option.bind_eq_some_iff.mp hq
    dsimp only at hq
    split at hq
    · rename_i hargs
      obtain rfl := Option.some.inj hq
      exact hargs.2.2
    · cases hq
  unfold ExcludeRequest.entryAt at hx
  extract_lets at hx
  split at hx
  · cases hx
  · obtain rfl := Option.some.inj hx
    exact hlegal

/-- A request keeps the law where its rule does. -/
theorem State.exclusionLaw.serve {s : State} {code : Byte} {w b : Bool} {r : Request} {rule : State → Reply}
    (h : s.exclusionLaw) (hr : (rule s).state.exclusionLaw) : (s.serve code w b r rule).exclusionLaw :=
  State.serve_keeps (Q := State.exclusionLaw) (fun _ _ _ h => h.congr (by simp)) (fun _ _ _ _ _ _ h => h.congr rfl)
    (fun _ _ h => h.congr rfl) h hr

section
variable {s : State} (p : List Byte)

theorem excludeAddRule_exclusionLaw (h : s.exclusionLaw) : (excludeAddRule p s).state.exclusionLaw := by
  refine takeOutsideBoot_state h fun x hx _ => ?_
  split
  · exact h
  · rename_i hroom
    obtain ⟨i, hi, hfree, -⟩ := lowestFreeId_spec (Nat.lt_of_not_le hroom)
    rw [hi]
    refine State.exclusionLaw_iff.mpr ((State.exclusionLaw_iff.mp h).place (x := { x with id := i })
      (Nat.lt_of_not_le hroom) hfree ?_)
    exact (excludeEntryOf_legal hx :)

theorem excludeEndRule_exclusionLaw (h : s.exclusionLaw) : (excludeEndRule p s).state.exclusionLaw := by
  refine takeOutsideBoot_state h fun i _ _ => ?_
  split
  · exact h
  · refine State.exclusionLaw_iff.mpr ((State.exclusionLaw_iff.mp h).map_stop fun x => ?_)
    split <;> rfl

theorem excludeClearRule_exclusionLaw (h : s.exclusionLaw) : (excludeClearRule p s).state.exclusionLaw := by
  refine takeOutsideBoot_state h fun i _ _ => ?_
  split
  · exact h
  · exact State.exclusionLaw_iff.mpr ((State.exclusionLaw_iff.mp h).sublist List.filter_sublist)

end

/-- Every request keeps the law: EXCLUDE ADD, END and CLEAR move the list, and a RESTART empties it. -/
theorem State.exclusionLaw.serveCode {s : State} (code : Byte) (r : Request) (h : s.exclusionLaw) :
    (serveCode code r s).exclusionLaw := by
  unfold Machine.serveCode
  split
  case h_1 => exact h.serve h
  case h_2 | h_3 => exact h.serve (takeAlways_state h fun _ _ => h)
  case h_4 | h_6 | h_8 =>
    refine h.serve (takeOutsideBoot_state h fun _ _ _ => ?_)
    split_ifs <;> exact h
  case h_5 =>
    refine h.serve (takeAlways_state h fun _ _ => ?_)
    split_ifs <;> exact h
  case h_7 =>
    refine h.serve (takeOutsideBoot_state h fun _ _ _ => ?_)
    split
    · exact h
    · exact State.reset_exclusionLaw.congr rfl
  case h_9 | h_10 | h_13 | h_14 =>
    split
    · exact h.serve (takeOutsideBoot_state h fun _ _ _ => h)
    · exact h.serve (takeOutsideBoot_state h fun _ _ _ => by split <;> exact h)
  case h_11 | h_15 | h_19 =>
    refine h.serve (takeOutsideBoot_state h fun _ _ _ => ?_)
    split
    · exact h
    · split <;> exact h
  case h_12 =>
    split
    · refine h.serve (takeAlways_state h fun _ _ => ?_)
      split_ifs <;> exact h
    · exact h.serve (takeOutsideBoot_state h fun _ _ _ => h)
  case h_16 => exact h.serve (excludeAddRule_exclusionLaw _ h)
  case h_17 => exact h.serve (excludeEndRule_exclusionLaw _ h)
  case h_18 => exact h.serve (excludeClearRule_exclusionLaw _ h)
  case h_20 => exact h.serve (takeOutsideBoot_state h fun _ _ _ => by split <;> exact h)
  case h_21 => exact h.serve (takeOutsideBoot_state h fun _ _ _ => h.congr (by simp [Reply.plain, State.abortCheck]))
  case h_22 | h_23 | h_24 | h_25 => exact h.serve (takeOutsideBoot_state h fun _ _ _ => h)
  case h_26 | h_27 => exact h.serve (takeAlways_state h fun _ _ => by split <;> exact h)

/-! ### Boundaries, the link, the boot image and cells -/

/-- A boundary removes at most the entries whose end is reached (R120). -/
theorem State.exclusionLaw.boundary {s : State} (b : Bool) (h : s.exclusionLaw) : (s.boundary b).exclusionLaw := by
  rw [State.exclusionLaw_iff, State.boundary_exclusions]
  rw [State.exclusionLaw_iff] at h
  split
  · exact h.sublist List.filter_sublist
  · exact h

theorem State.exclusionLaw.advance {s : State} (h : s.exclusionLaw) : s.advance.exclusionLaw := by
  unfold State.advance
  dsimp only
  split
  · exact h
  · exact State.exclusionLaw.boundary _ h

@[simp] theorem State.loseLink_exclusions (s : State) : s.loseLink.exclusions = s.exclusions := by simp [State.loseLink]
@[simp] theorem State.regainLink_exclusions (s : State) : s.regainLink.exclusions = s.exclusions := by
  simp [State.regainLink]

@[simp] theorem State.countRuns_exclusions (s : State) (good : Bool) : (s.countRuns good).exclusions = s.exclusions := by
  unfold State.countRuns
  dsimp only
  split_ifs <;> simp

@[simp] theorem State.endLoad_exclusions (s : State) (m : MemoryRead) : (s.endLoad m).exclusions = s.exclusions := by
  unfold State.endLoad
  dsimp only
  split
  · rfl
  · split <;> rfl

@[simp] theorem State.spoil_exclusions (s : State) (bytes : List Byte) (f : CellFault) :
    (s.spoil bytes f).exclusions = s.exclusions := by
  unfold State.spoil
  split
  · rfl
  · split <;> rfl

theorem State.exclusionLaw.takeCell {s : State} (cell : Cell) (h : s.exclusionLaw) : (s.takeCell cell).exclusionLaw := by
  unfold State.takeCell
  dsimp only
  split
  · split
    · exact h.serveCode _ _
    · exact h
  · split
    · exact State.exclusionLaw.serveCode (s := { s with trunk := s.trunk.forwardUp cell }) _ _ h
    · exact h
  · exact h

theorem State.exclusionLaw.receiveCell {s : State} (bytes : List Byte) (h : s.exclusionLaw) :
    (s.receiveCell bytes).exclusionLaw := by
  obtain ⟨u, hu, hr⟩ := s.receiveCell_cases bytes
  have hfirst : u.exclusionLaw := by
    rcases hu with rfl | ⟨arrived, rfl⟩
    · exact h
    · exact h.congr (by simp)
  rcases hr with hr | ⟨p, hr⟩ | ⟨cell, hr⟩ <;> rw [hr]
  · exact hfirst.congr (by simp)
  · exact hfirst.congr rfl
  · exact State.exclusionLaw.takeCell (s := u.withParser .hunting) _ hfirst

/-! ### The step -/

/-- Every command keeps the Exclusion List. -/
theorem exec_exclusionLaw {i : Instr} {s t : State} (h : s.exclusionLaw) (hi : exec i s = .next t) : t.exclusionLaw := by
  cases hc : codedRequest i with
  | some x =>
    rw [exec_coded hc] at hi
    obtain rfl := Host.Outcome.next.inj hi
    exact h.serveCode _ _
  | none =>
    cases i with
    | powerOn n =>
      obtain rfl := Host.Outcome.next.inj hi
      exact State.reset_exclusionLaw.congr rfl
    | bootLoadEnd m =>
      change execBootLoadEnd m s = _ at hi
      unfold execBootLoadEnd at hi
      split at hi <;> obtain rfl := Host.Outcome.next.inj hi
      · exact h.congr (by simp)
      · exact h
    | sampleFrame f =>
      obtain rfl := Host.Outcome.next.inj hi
      split
      · exact h.advance.congr (by simp)
      · exact h.advance.congr (by simp)
    | framePeriod =>
      obtain rfl := Host.Outcome.next.inj hi
      exact h.advance.congr (by simp)
    | linkLoss =>
      change execLinkLoss s = _ at hi
      unfold execLinkLoss at hi
      split at hi <;> obtain rfl := Host.Outcome.next.inj hi
      · exact h.congr (by simp)
      · exact h
    | linkRestoration =>
      change execLinkRestoration s = _ at hi
      unfold execLinkRestoration at hi
      split at hi <;> obtain rfl := Host.Outcome.next.inj hi
      · exact h.congr (by simp)
      · exact h
    | sliceBoundary =>
      obtain rfl := Host.Outcome.next.inj hi
      exact (h.boundary _).congr rfl
    | secondBoundary =>
      change execSecondBoundary s = _ at hi
      unfold execSecondBoundary at hi
      split at hi <;> obtain rfl := Host.Outcome.next.inj hi
      · exact h
      · exact h.boundary true
    | intervalTimerExpiry c =>
      change execIntervalTimerExpiry c s = _ at hi
      unfold execIntervalTimerExpiry at hi
      split at hi <;> obtain rfl := Host.Outcome.next.inj hi
      · exact h.congr (by simp)
      · exact h
    | controlCell bytes => obtain rfl := Host.Outcome.next.inj hi; exact h.receiveCell _
    | cellTimeout arrived mark => obtain rfl := Host.Outcome.next.inj hi; exact h.congr (State.spoil_exclusions ..)
    | cellLengthFault arrived => obtain rfl := Host.Outcome.next.inj hi; exact h.congr (State.spoil_exclusions ..)
    | passThroughCell cell => obtain rfl := Host.Outcome.next.inj hi; exact h
    | forwardCellWindow => obtain rfl := Host.Outcome.next.inj hi; exact h
    | returnLaneSend => obtain rfl := Host.Outcome.next.inj hi; exact h
    | _ => cases hc

/-- Settles O59: every command keeps the list, and an idle step changes nothing. -/
theorem exclusionListStaysInOrder : Obligations.ExclusionListStaysInOrder := by
  intro s t hlaw h
  unfold step at h
  split at h
  · obtain rfl := Host.Outcome.next.inj h
    exact hlaw
  · rename_i rest _
    exact exec_exclusionLaw (s := { s with pending := rest }) hlaw h

/-! ### The entry of an id (R123 to R125) -/

/-- Where no two entries share an id, the entry of an id is the one that holds it. -/
theorem entryOf_mem {xs : List Exclusion} (h : (xs.map (·.id)).Nodup) {x : Exclusion} (hx : x ∈ xs) :
    entryOf xs x.id = some x := by
  have hfound : (entryOf xs x.id).isSome = true :=
    List.find?_isSome.mpr ⟨x, hx, decide_eq_true rfl⟩
  obtain ⟨y, hy⟩ := Option.isSome_iff_exists.mp hfound
  have hid : y.id = x.id := by simpa using List.find?_some hy
  rw [hy, List.inj_on_of_nodup_map h (List.mem_of_find?_eq_some hy) hx hid]

theorem entryOf_eq_none {xs : List Exclusion} {i : Fin 16} (h : ∀ y ∈ xs, y.id ≠ i) : entryOf xs i = none :=
  List.find?_eq_none.mpr fun y hy => by simpa using h y hy

theorem excludeIdOf_byte {b : Byte} {i : Fin 16} (h : i.val = b.toNat) : excludeIdOf [b] = some i := by
  simp [excludeIdOf, ofLength, ← h]

/-- There is no id above 15 (R180). -/
theorem excludeIdOf_above {b : Byte} (h : 15 < b.toNat) : excludeIdOf [b] = none := by
  have hb : ¬b.toNat < 16 := by omega
  simp [excludeIdOf, ofLength, indexOf, hb]

theorem excludeReadOf_list : excludeReadOf [255] = some none := by decide

theorem excludeReadOf_byte {b : Byte} {i : Fin 16} (h : i.val = b.toNat) : excludeReadOf [b] = some (some i) := by
  have hb : i.val ≠ 255 := by omega
  simp [excludeReadOf, ofLength, ← h, hb]

theorem excludeReadOf_above {b : Byte} (h : 15 < b.toNat) (hl : b ≠ 255) : excludeReadOf [b] = none := by
  have hb : ¬b.toNat < 16 := by omega
  have hl' : b.toNat ≠ 255 := fun he => hl (BitVec.eq_of_toNat_eq he)
  simp [excludeReadOf, ofLength, indexOf, hb, hl']

/-- EXCLUDE END moves an end that is open or later (R123). -/
theorem Exclusion.endAt_eq (x : Exclusion) (now : Nat) :
    x.endAt now = { x with stop := some (min (x.stop.getD (now + 1)) (now + 1)) } := by
  unfold Exclusion.endAt
  cases x.stop <;> simp

/-- The list of EXCLUDE READ: the current second, the count and the ids (R125). -/
theorem excludeListBytes_eq (s : State) : excludeListBytes s =
    beBytes 4 (s.time.runningSecond % 4294967296) ++ [BitVec.ofNat 8 s.exclusions.length]
      ++ s.exclusions.map fun x : Exclusion => BitVec.ofNat 8 x.id.val := by
  simp only [excludeListBytes, secondBytes, beBytes_one]
  rw [List.map_eq_flatMap]
  rfl

/-! ### The requests (R123 to R125, R180) -/

section
variable {r : Request} {s : State} {b : Byte}

/-- Each of the three refuses an id above 15; EXCLUDE READ takes 255 for the list. -/
theorem exec_excludeEnd_above (hr : Addressed r s) (hp : r.payload = [b]) (h : 15 < b.toNat) :
    exec (.excludeEnd r) s = .next (s.answer r.write 31 r.tag .badArgument []) :=
  congrArg Host.Outcome.next (State.serve_plain hr (takeOutsideBoot_none (hp ▸ excludeIdOf_above h)))

theorem exec_excludeClear_above (hr : Addressed r s) (hp : r.payload = [b]) (h : 15 < b.toNat) :
    exec (.excludeClear r) s = .next (s.answer r.write 32 r.tag .badArgument []) :=
  congrArg Host.Outcome.next (State.serve_plain hr (takeOutsideBoot_none (hp ▸ excludeIdOf_above h)))

theorem exec_excludeRead_above (hr : Addressed r s) (hp : r.payload = [b]) (h : 15 < b.toNat) (hl : b ≠ 255) :
    exec (.excludeRead r) s = .next (s.answer r.write 33 r.tag .badArgument []) :=
  congrArg Host.Outcome.next (State.serve_plain hr (takeOutsideBoot_none (hp ▸ excludeReadOf_above h hl)))

variable (hr : Addressed r s) (hm : s.control.mode ≠ .boot)
include hr hm

theorem exec_excludeRead_list (hp : r.payload = [255]) :
    exec (.excludeRead r) s = .next (s.answer r.write 33 r.tag .ok (excludeListBytes s)) :=
  congrArg Host.Outcome.next (State.serve_plain hr (takeOutsideBoot_some hm (hp ▸ excludeReadOf_list) |>.trans rfl))

variable {i : Fin 16} (hp : r.payload = [b]) (hi : i.val = b.toNat)
include hp hi

/-- An id that no entry holds is NOT_AVAILABLE. -/
theorem exec_exclude_unheld (h : entryOf s.exclusions i = none) :
    exec (.excludeEnd r) s = .next (s.answer r.write 31 r.tag .notAvailable [])
      ∧ exec (.excludeClear r) s = .next (s.answer r.write 32 r.tag .notAvailable [])
      ∧ exec (.excludeRead r) s = .next (s.answer r.write 33 r.tag .notAvailable []) := by
  have hid := hp ▸ excludeIdOf_byte hi
  have hsel := hp ▸ excludeReadOf_byte hi
  exact ⟨congrArg Host.Outcome.next (State.serve_plain hr ((takeOutsideBoot_some hm hid).trans (by rw [h]))),
    congrArg Host.Outcome.next (State.serve_plain hr ((takeOutsideBoot_some hm hid).trans (by rw [h]))),
    congrArg Host.Outcome.next (State.serve_plain hr ((takeOutsideBoot_some hm hsel).trans (by simp only [h])))⟩

/-- An id that an entry holds has it ended, removed or read. -/
theorem exec_exclude_held {x : Exclusion} (h : entryOf s.exclusions i = some x) :
    exec (.excludeEnd r) s = .next ({ s with
          exclusions := s.exclusions.map fun y : Exclusion => if y.id = i then y.endAt s.time.runningSecond else y }.answer
            r.write 31 r.tag .ok (exclusionBytes (x.endAt s.time.runningSecond)))
      ∧ exec (.excludeClear r) s = .next ({ s with
          exclusions := s.exclusions.filter fun y : Exclusion => decide (y.id ≠ i) }.answer r.write 32 r.tag .ok
            (exclusionBytes x))
      ∧ exec (.excludeRead r) s = .next (s.answer r.write 33 r.tag .ok (excludeListBytes s ++ exclusionBytes x)) := by
  have hid := hp ▸ excludeIdOf_byte hi
  have hsel := hp ▸ excludeReadOf_byte hi
  exact ⟨congrArg Host.Outcome.next (State.serve_plain hr ((takeOutsideBoot_some hm hid).trans (by rw [h]))),
    congrArg Host.Outcome.next (State.serve_plain hr ((takeOutsideBoot_some hm hid).trans (by rw [h]))),
    congrArg Host.Outcome.next (State.serve_plain hr ((takeOutsideBoot_some hm hsel).trans (by simp only [h])))⟩

end

/-- Settles O22: an id above 15, an id that is not held, and one that is, whose entry is the only one of it (R119). -/
theorem exclusionEndClearRead : Obligations.ExclusionEndClearRead := by
  intro r s b hr hm hlaw hp now list
  have hids := (State.exclusionLaw_iff.mp hlaw).ids
  have hlist : excludeListBytes s = list := excludeListBytes_eq s
  refine ⟨fun hb => ?_, fun hb => ?_, fun hb hno => ?_, fun x hx hb => ?_⟩
  · rw [← hlist]
    exact exec_excludeRead_list hr hm (hb ▸ hp)
  · exact ⟨exec_excludeEnd_above hr hp hb, exec_excludeClear_above hr hp hb, exec_excludeRead_above hr hp hb⟩
  · exact exec_exclude_unheld hr hm hp (i := ⟨b.toNat, Nat.lt_succ_of_le hb⟩) rfl
      (entryOf_eq_none fun y hy he => hno y hy (congrArg Fin.val he))
  · intro ended
    obtain ⟨hend, hclear, hread⟩ := exec_exclude_held hr hm hp hb (entryOf_mem hids hx)
    have hmap : (s.exclusions.map fun y => if y.id = x.id then y.endAt now else y) =
        s.exclusions.map fun y => if y.id = x.id then ended else y := by
      refine List.map_congr_left fun y hy => ?_
      split
      · rename_i he
        rw [List.inj_on_of_nodup_map hids hy hx he]
        exact x.endAt_eq now
      · rfl
    rw [hmap, x.endAt_eq] at hend
    rw [hlist] at hread
    exact ⟨hend, hclear, hread⟩

end Sys2Proof.Machine
end

section
/-! SUPPORT. The rolling level, the alert and its hand-over; O51 (R126 to R129, R143; log 51). -/
namespace Sys2Proof.Machine

/-- The records that a rolling level uses, by one test (R127, steps 1 and 2). -/
theorem rollingRecords_eq (ring : List GroupSecond) (window second : Nat) : rollingRecords ring window second =
    ring.filter fun r =>
      decide (second < r.second + window ∧ r.second ≤ second ∧ r.excluded = false ∧ r.discarded = false) :=
  List.filter_congr fun r _ => by simp [Bool.decide_and, Bool.and_assoc]

/-- A rolling level is absent where the records in use hold data of less than half the window, and is otherwise that of
their exact mean (R127, steps 3 to 5). -/
theorem rollingLevel_eq (ring : List GroupSecond) (window second : Nat) : rollingLevel ring window second =
    if ((rollingRecords ring window second).map (·.data)).sum < 4 * window then none
    else some (levelOf (meanIntensity ((rollingRecords ring window second).foldl (fun acc r => addIntensity acc r.sum) [])
      ((rollingRecords ring window second).map (·.data)).sum)).1 := by
  have hhalf (d : Nat) : 2 * d < 8 * window ↔ d < 4 * window := by omega
  exact if_congr (hhalf _) rfl rfl

/-! ### The alert under a rolling level (R128) -/

section
variable {gr : Group} {alert roll : Level} (g : Grp) (e : GroupEntry) (second : Nat)

theorem Group.rollingAlert_unlimited (h : gr.alertLevel = none) : gr.rollingAlert g e second = (gr, []) := by
  rw [Group.rollingAlert, h]

theorem Group.rollingAlert_uncovered (h : gr.alertLevel = some alert)
    (hr : rollingLevel gr.ring e.alertWindow second = none) :
    gr.rollingAlert g e second = ({ gr with rolling := none }, []) := by
  simp only [Group.rollingAlert, h, hr]

/-- An alert that moves raises the event of its new state, under the rolling level and the alert level. -/
theorem Group.rollingAlert_covered (h : gr.alertLevel = some alert)
    (hr : rollingLevel gr.ring e.alertWindow second = some roll) {on : Bool}
    (hon : alertAfter gr.alertOn roll alert (decide (0 < gr.holdCount)) = on) :
    gr.rollingAlert g e second = ({ gr with rolling := some roll, alertOn := on },
      if on = gr.alertOn then [] else
        [.event { Event.plain second (if on then .alertOn else .alertOff) (.group g) with
          level := some roll, limit := some alert, period := gr.alertPeriod }]) := by
  simp only [Group.rollingAlert, h, hr, hon]

end

/-- An alert that is OFF turns ON at its level (R128). -/
theorem alertAfter_off (roll alert : Level) (hold : Bool) : alertAfter false roll alert hold = decide (alert ≤ roll) := rfl

/-- An alert that is ON turns OFF more than 1.00 dB below its level, outside impulse hold (R128). -/
theorem alertAfter_on (roll alert : Level) (hold : Nat) :
    alertAfter true roll alert (decide (0 < hold)) = decide (alert ≤ roll + 100 ∨ 0 < hold) := by
  rw [Bool.eq_iff_iff]
  simp only [alertAfter, if_true, Bool.not_eq_true', Bool.and_eq_false_iff, decide_eq_false_iff_not, Bool.not_eq_false',
    decide_eq_true_eq, Nat.not_lt]

/-! ### The close, and the hand-over (R126, R129, R143) -/

/-- A close with no second in formation keeps the alert for the arbiter, and does no more (log 51). -/
theorem Group.closeSecond_unformed {gr : Group} (h : gr.forming = none) (g : Grp) (e : GroupEntry) (second : Nat)
    (position : Option Pos) (cov : Bool) :
    gr.closeSecond g e second position cov = ({ gr with alertAtClose := gr.alertOn }, []) := by
  rw [Group.closeSecond, h]

/-- A close with one rolls the alert over the ring that its record has entered, and keeps it for the arbiter. -/
theorem Group.closeSecond_formed {gr : Group} {f : GroupForming} (h : gr.forming = some f) (g : Grp) (e : GroupEntry)
    (second : Nat) (position : Option Pos) (cov : Bool) :
    let t := gr.closeSecond g e second position cov
    let turned := { gr with ring := enterRing (f.close second position cov) gr.ring }.rollingAlert g e second
    t.1.alertAtClose = turned.1.alertOn ∧ t.1.alertOn = turned.1.alertOn ∧ t.1.rolling = turned.1.rolling
      ∧ t.2 = turned.2 := by
  intro t turned
  have ht : t = ({ turned.1 with alertAtClose := turned.1.alertOn }.windowRecord (f.close second position cov) f.membership,
      turned.2) := by
    simp only [t, turned, Group.closeSecond, h]
  rw [ht, Group.windowRecord_frame]
  exact ⟨rfl, rfl, rfl, rfl⟩

/-- An alert that stands at the hand-over raises nothing (R129). -/
theorem Group.handLimit_silent {gr : Group} {limit : Option LimitRecord}
    (h : gr.alertOn = false ∨ (limit.bind (·.alert)).isSome = true) (g : Grp) (period : Option Per) (second : Nat) :
    (gr.handLimit g limit period second).2 = [] := by
  have hstands : ((limit.bind (·.alert)).isNone && gr.alertOn) = false := by
    rcases h with h | h
    · rw [h, Bool.and_false]
    · rw [Option.isNone_eq_false_iff.mpr h, Bool.false_and]
  simp only [Group.handLimit, hstands, Bool.false_eq_true, if_false]

/-- An ON alert left without a level turns OFF with its event, under its former level (R129). -/
theorem Group.handLimit_off {gr : Group} {limit : Option LimitRecord} (hon : gr.alertOn = true)
    (h : limit.bind (·.alert) = none) (g : Grp) (period : Option Per) (second : Nat) :
    (gr.handLimit g limit period second).2 = [.event { Event.plain second .alertOff (.group g) with
      limit := gr.alertLevel, period := gr.alertPeriod }] := by
  simp only [Group.handLimit, h, hon, Option.isNone_none, Bool.and_self, if_true]

/-- Settles O51: the rolling level, the table of R128 row by row, the close, and the hand-over. -/
theorem alertFollowsItsTables : Obligations.AlertFollowsItsTables := by
  refine ⟨fun ring window second => ?_, fun gr g e second => ?_, fun gr g e second position excluded => ?_,
    fun gr g limit period second => ?_⟩
  · rw [rollingLevel_eq, rollingRecords_eq]
    exact ⟨fun h => if_pos h, fun h => if_neg (Nat.not_lt.mpr h)⟩
  · intro t
    refine ⟨Group.rollingAlert_unlimited g e second, fun alert halert =>
      ⟨Group.rollingAlert_uncovered g e second halert, fun roll hroll => ?_⟩⟩
    intro event
    have moved {on : Bool} (hon : alertAfter gr.alertOn roll alert (decide (0 < gr.holdCount)) = on) :=
      Group.rollingAlert_covered g e second halert hroll hon
    refine ⟨congrArg (·.1.rolling) (moved rfl), fun hoff hle => ?_, fun hoff hlt => ?_, fun hon hlt hhold => ?_,
      fun hon hstays => ?_⟩
    · have ht : t = _ := moved (on := true) (by rw [hoff, alertAfter_off, decide_eq_true hle])
      rw [ht, hoff]
      exact ⟨rfl, rfl⟩
    · have ht : t = _ := moved (on := false) (by rw [hoff, alertAfter_off, decide_eq_false (Nat.not_le.mpr hlt)])
      rw [ht, hoff]
      exact ⟨rfl, rfl⟩
    · have ht : t = _ := moved (on := false) (by
        rw [hon, alertAfter_on, decide_eq_false (not_or.mpr ⟨Nat.not_le.mpr hlt, hhold.not_gt⟩)])
      rw [ht, hon]
      exact ⟨rfl, rfl⟩
    · have ht : t = _ := moved (on := true) (by rw [hon, alertAfter_on, decide_eq_true hstays])
      rw [ht, hon]
      exact ⟨rfl, rfl⟩
  · intro t
    refine ⟨?_, fun h => Group.closeSecond_unformed h .., fun f hf => ?_⟩
    · cases hf : gr.forming with
      | none =>
        have ht : t = _ := Group.closeSecond_unformed hf ..
        rw [ht]
      | some f =>
        obtain ⟨hclose, hon, -⟩ := Group.closeSecond_formed hf g e second position excluded
        exact hclose.trans hon.symm
    · exact (Group.closeSecond_formed hf g e second position excluded).2
  · intro t level
    exact ⟨Group.handLimit_eq .., fun h => Group.handLimit_silent h g period second,
      fun hon h => Group.handLimit_off hon h g period second⟩

end Sys2Proof.Machine
end

section
/-! SUPPORT. The arbiter's candidates, class by class, and what a selection does; O47 (R117, R133, R137, R143; log 41). -/
namespace Sys2Proof.Machine

/-! ### The first of the channels -/

/-- The first index that passes a test is the one found. -/
theorem find?_finRange_eq_some {n : Nat} {p : Fin n → Bool} {i : Fin n} (hi : p i = true) (hlt : ∀ j < i, p j = false) :
    (List.finRange n).find? p = some i := by
  rw [← List.findSome?_guard]
  exact findSome?_finRange_eq_some (Option.guard_eq_some_iff.mpr ⟨rfl, hi⟩) fun j hj => by simp [Option.guard, hlt j hj]

/-- Before an index in order stand those below it. -/
theorem finRange_split {n : Nat} (i : Fin n) : ∃ before after, List.finRange n = before ++ i :: after
    ∧ ∀ j, j ∈ before ↔ j < i := by
  obtain ⟨before, after, h⟩ := List.append_of_mem (List.mem_finRange i)
  have hsorted : (before ++ i :: after).Pairwise (· < ·) := h ▸ List.pairwise_lt_finRange n
  obtain ⟨-, hi, hacross⟩ := List.pairwise_append.mp hsorted
  refine ⟨before, after, h, fun j => ⟨fun hj => hacross j hj i (List.mem_cons_self ..), fun hj => ?_⟩⟩
  have hmem : j ∈ before ++ i :: after := h ▸ List.mem_finRange j
  rcases List.mem_append.mp hmem with hb | ha
  · exact hb
  · rcases List.mem_cons.mp ha with rfl | ha
    · exact absurd hj (lt_irrefl _)
    · exact absurd hj (lt_asymm ((List.pairwise_cons.mp hi).1 j ha))

theorem mem_channelsOf {k : ChanSet} {c : Chan} : c ∈ channelsOf k ↔ k.getLsbD c.val = true := by
  simp [channelsOf]

/-! ### The candidates (R143) -/

section
variable (v : ArbiterView) (c : Chan)

theorem ArbiterView.ready_iff : v.ready c = true ↔ v.live[c] = true
    ∧ ∀ d : Chan, (d ≠ c ∧ v.map.channels[d].enabled = true
      ∧ v.map.channels[d].sourceSlot = v.map.channels[c].sourceSlot) → v.live[d] = true := by
  rw [ArbiterView.ready, Bool.and_eq_true, List.all_eq_true]
  refine and_congr_right fun _ => ⟨fun h d hd => ?_, fun h d _ => ?_⟩
  · have hshares := (sharers_getLsbD v.map c d).mpr hd
    simpa only [hshares, Bool.not_true, Bool.false_or] using h d (List.mem_finRange d)
  · cases hshares : (sharers v.map c).getLsbD d.val with
    | false => rfl
    | true => exact h d ((sharers_getLsbD v.map c d).mp hshares)

theorem ArbiterView.automatic_iff : v.automatic c = true ↔ v.run = true ∧ v.map.channels[c].autoCheck = true
    ∧ v.accounts[c].retry = 0 ∧ v.ready c = true := by
  simp only [ArbiterView.automatic, Bool.and_eq_true, decide_eq_true_eq, and_assoc]

/-- A member's group defers it; a channel of another role is never deferred (R117). -/
theorem ArbiterView.deferred_iff : v.deferred c = true ↔ v.map.channels[c].role = .member
    ∧ ∃ g, v.map.channels[c].group = some g ∧ v.deferring[g] = true := by
  have hgroup := ChannelEntry.memberOf_iff v.map.channels[c]
  unfold ArbiterView.deferred
  cases h : v.map.channels[c].memberOf with
  | none =>
    refine iff_of_false Bool.false_ne_true ?_
    rintro ⟨hrole, g, hg, -⟩
    rw [(hgroup g).mpr ⟨hrole, hg⟩] at h
    cases h
  | some g =>
    obtain ⟨hrole, hg⟩ := (hgroup g).mp h
    refine ⟨fun hd => ⟨hrole, g, hg, hd⟩, ?_⟩
    rintro ⟨-, g', hg', hd⟩
    rw [hg] at hg'
    obtain rfl := Option.some.inj hg'
    exact hd

theorem ArbiterView.dueCandidate_iff : v.dueCandidate c = true ↔ v.automatic c = true ∧ 1 ≤ v.accounts[c].balance
    ∧ v.accounts[c].balance ≤ 5 ∧ v.deferred c ≠ true := by
  simp only [ArbiterView.dueCandidate, Bool.and_eq_true, decide_eq_true_eq, Bool.not_eq_true', ne_eq, Bool.not_eq_true,
    and_assoc]

end

/-! ### The due choice (R143) -/

/-- The better of the best due candidate so far and the next channel: the next one where it is a candidate with a higher
balance. -/
def ArbiterView.better (v : ArbiterView) (best : Option Chan) (c : Chan) : Option Chan :=
  if v.dueCandidate c then
    match best with
    | some d => if v.accounts[d].balance < v.accounts[c].balance then some c else best
    | none => some c
  else best

/-- The due choice is the best over the channels in order. -/
theorem ArbiterView.due_eq_foldl (v : ArbiterView) : v.due = (List.finRange 16).foldl v.better none := rfl

section
variable {v : ArbiterView} {c : Chan}

/-- A candidate takes the place of every channel with a lower balance. -/
theorem ArbiterView.better_taken (hc : v.dueCandidate c = true) {best : Option Chan}
    (h : ∀ d, best = some d → v.accounts[d].balance < v.accounts[c].balance) : v.better best c = some c := by
  unfold ArbiterView.better
  rw [if_pos hc]
  cases best with
  | none => rfl
  | some d => exact if_pos (h d rfl)

/-- And keeps it against every candidate whose balance is no higher. -/
theorem ArbiterView.better_kept {d : Chan} (h : v.dueCandidate d = true → v.accounts[d].balance ≤ v.accounts[c].balance) :
    v.better (some c) d = some c := by
  unfold ArbiterView.better
  split
  · exact if_neg (Int.not_lt.mpr (h ‹_›))
  · rfl

/-- The best over a list is a candidate of the list. -/
theorem ArbiterView.foldl_better_mem {l : List Chan} {d : Chan} (h : l.foldl v.better none = some d) :
    d ∈ l ∧ v.dueCandidate d = true := by
  refine List.foldlRecOn (motive := fun best => ∀ d, best = some d → d ∈ l ∧ v.dueCandidate d = true) l _ (by simp)
    (fun best hb c hmem d hd => ?_) d h
  unfold ArbiterView.better at hd
  split at hd
  · rename_i hc
    split at hd
    · split at hd
      · cases hd; exact ⟨hmem, hc⟩
      · exact hb d hd
    · cases hd; exact ⟨hmem, hc⟩
  · exact hb d hd

/-- The candidate with the highest balance, the lowest of those, is the due choice. -/
theorem ArbiterView.due_eq_some (hc : v.dueCandidate c = true) (hbest : ∀ d : Chan, v.dueCandidate d = true →
    v.accounts[d].balance < v.accounts[c].balance ∨ (v.accounts[d].balance = v.accounts[c].balance ∧ c ≤ d)) :
    v.due = some c := by
  obtain ⟨before, after, hsplit, hbefore⟩ := finRange_split c
  rw [ArbiterView.due_eq_foldl, hsplit, List.foldl_append, List.foldl_cons, ArbiterView.better_taken hc fun d hd => ?_]
  · refine List.foldlRecOn (motive := (· = some c)) after _ rfl fun best hb d _ => ?_
    rw [hb]
    exact ArbiterView.better_kept fun hd => (hbest d hd).elim le_of_lt fun h => h.1.le
  · obtain ⟨hmem, hcand⟩ := ArbiterView.foldl_better_mem hd
    exact (hbest d hcand).resolve_right fun h => absurd ((hbefore d).mp hmem) (not_lt.mpr h.2)

theorem ArbiterView.due_eq_none (h : ∀ c, v.dueCandidate c ≠ true) : v.due = none :=
  Option.eq_none_iff_forall_ne_some.mpr fun c hc => h c (ArbiterView.due_candidate hc)

/-! ### The classes in order (R143) -/

theorem ArbiterView.forced_eq_some (hc : v.automatic c = true ∧ v.accounts[c].balance = 6)
    (hlt : ∀ d < c, ¬(v.automatic d = true ∧ v.accounts[d].balance = 6)) : v.forced = some c :=
  find?_finRange_eq_some (by simpa using hc) fun d hd => by
    rw [← Bool.not_eq_true]
    simpa using hlt d hd

theorem ArbiterView.forced_eq_none (h : ∀ c, ¬(v.automatic c = true ∧ v.accounts[c].balance = 6)) : v.forced = none :=
  List.find?_eq_none.mpr fun c _ => by simpa using h c

/-- An early candidate: in no debt, not yet at -3, and quiet for 60 seconds. -/
def ArbiterView.earlyCandidate (v : ArbiterView) (c : Chan) : Prop :=
  v.automatic c = true ∧ -3 < v.accounts[c].balance ∧ v.accounts[c].balance ≤ 0 ∧ v.accounts[c].quiet = 60

theorem ArbiterView.early_eq_some (hc : v.earlyCandidate c) (hlt : ∀ d < c, ¬v.earlyCandidate d) : v.early = some c :=
  find?_finRange_eq_some (by simpa [ArbiterView.earlyCandidate, and_assoc] using hc) fun d hd => by
    rw [← Bool.not_eq_true]
    simpa [ArbiterView.earlyCandidate, and_assoc] using hlt d hd

theorem ArbiterView.early_eq_none (h : ∀ c, ¬v.earlyCandidate c) : v.early = none :=
  List.find?_eq_none.mpr fun c _ => by simpa [ArbiterView.earlyCandidate, and_assoc] using h c

variable {k : CheckEngine}

/-- Outside IDLE or outside LOCKED the arbiter selects nothing. -/
theorem ArbiterView.select_inactive (h : k.stage ≠ .idle ∨ v.locked = false) :
    v.select k = { judged := [], chosen := none } := by
  have hoff : (k.busy || !v.locked) = true := by
    simpa [CheckEngine.busy] using h
  rw [ArbiterView.select, if_pos hoff]

variable (hs : k.stage = .idle) (hl : v.locked = true)
include hs hl

theorem ArbiterView.acts : ¬(k.busy || !v.locked) = true := by
  simp [CheckEngine.busy, hs, hl]

theorem ArbiterView.select_forced (h : v.forced = some c) : v.select k = { judged := [], chosen := some (c, .forced) } := by
  rw [ArbiterView.select, if_neg (ArbiterView.acts hs hl), h]

variable (hf : v.forced = none)
include hf

/-- The first channel of the sweep that is ready is chosen, and those of the sweep before it are judged. -/
theorem ArbiterView.select_manual (hc : k.sweep.getLsbD c.val = true ∧ v.ready c = true)
    (hlt : ∀ d < c, ¬(k.sweep.getLsbD d.val = true ∧ v.ready d = true)) :
    (v.select k).chosen = some (c, .manual)
      ∧ ∀ d, d ∈ (v.select k).judged ↔ k.sweep.getLsbD d.val = true ∧ d < c := by
  obtain ⟨before, after, hsplit, hbefore⟩ := finRange_split c
  let waiting (l : List Chan) : List Chan := l.filter fun d : Chan => k.sweep.getLsbD d.val
  have hturns : channelsOf k.sweep = waiting before ++ c :: waiting after := by
    rw [channelsOf, hsplit, List.filter_append, List.filter_cons, if_pos hc.1]
  have hunready : ∀ d ∈ waiting before, (!v.ready d) = true := fun d hd => by
    obtain ⟨hmem, hwaits⟩ := List.mem_filter.mp hd
    rw [Bool.not_eq_true']
    exact Bool.eq_false_iff.mpr fun hready => hlt d ((hbefore d).mp hmem) ⟨hwaits, hready⟩
  have hstop : ¬(!v.ready c) = true := by simp [hc.2]
  have hdrop : (channelsOf k.sweep).dropWhile (fun c => !v.ready c) = c :: waiting after := by
    rw [hturns, List.dropWhile_append_of_pos hunready, List.dropWhile_cons, if_neg hstop]
  have htake : (channelsOf k.sweep).takeWhile (fun c => !v.ready c) = waiting before := by
    rw [hturns, List.takeWhile_append_of_pos hunready, List.takeWhile_cons, if_neg hstop, List.append_nil]
  rw [ArbiterView.select, if_neg (ArbiterView.acts hs hl), hf]
  dsimp only
  rw [hdrop, htake]
  refine ⟨rfl, fun d => List.mem_filter.trans ?_⟩
  rw [hbefore d, and_comm]

/-- With no channel of the sweep ready, all of it is judged, and the classes due and early follow. -/
theorem ArbiterView.select_automatic (h : ∀ c : Chan, k.sweep.getLsbD c.val = true → ¬v.ready c = true) :
    v.select k = {
      judged := channelsOf k.sweep
      chosen := (v.due.map fun c => (c, CheckKind.due)).or (v.early.map fun c => (c, .early)) } := by
  have hunready : ∀ d ∈ channelsOf k.sweep, (!v.ready d) = true := fun d hd => by
    rw [Bool.not_eq_true']
    exact Bool.eq_false_iff.mpr (h d (mem_channelsOf.mp hd))
  rw [ArbiterView.select, if_neg (ArbiterView.acts hs hl), hf]
  dsimp only
  rw [List.dropWhile_eq_nil_iff.mpr hunready, List.takeWhile_eq_self_iff.mpr hunready]
  cases v.due <;> rfl

end

/-! ### What a selection does to the engine (R133, R143) -/

section
variable (k : CheckEngine) (m : ChannelMap) (x : Selection) (n : Nat)

/-- The judged channels leave the sweep, and no others. -/
theorem CheckEngine.judged_sweep_iff (l : List Chan) (d : Chan) :
    (l.foldl (fun k c => k.sweepResult c (CheckRecord.incomplete .state n .manual)) k).sweep.getLsbD d.val =
      (k.sweep.getLsbD d.val && decide (d ∉ l)) := by
  induction l generalizing k with
  | nil => simp
  | cons c l ih =>
    rw [List.foldl_cons, ih, CheckEngine.sweepResult_sweep]
    simp [CheckRecord.incomplete, Bool.and_assoc]

/-- A channel judged on the way has no deviation to enter in the summary. -/
theorem CheckEngine.judged_summary (l : List Chan) :
    (l.foldl (fun k c => k.sweepResult c (CheckRecord.incomplete .state n .manual)) k).summary = k.summary :=
  List.foldlRecOn (motive := fun u : CheckEngine => u.summary = k.summary) l _ rfl fun _ hu _ _ => hu

theorem CheckEngine.afterSelection_sweep_iff (d : Chan) : (k.afterSelection m x n).sweep.getLsbD d.val =
    (k.sweep.getLsbD d.val && decide (d ∉ x.judged)) := by
  rw [← CheckEngine.judged_sweep_iff k n x.judged d, CheckEngine.afterSelection]
  cases x.chosen <;> rfl

theorem CheckEngine.afterSelection_summary : (k.afterSelection m x n).summary = k.summary := by
  rw [← CheckEngine.judged_summary k n x.judged, CheckEngine.afterSelection]
  cases x.chosen <;> rfl

variable {x}

/-- Without a choice the engine keeps all but the sweep. -/
theorem CheckEngine.afterSelection_none (h : x.chosen = none) :
    k.afterSelection m x n = { k with sweep := (k.afterSelection m x n).sweep } := by
  have hjudged : k.afterSelection m x n =
      x.judged.foldl (fun k c => k.sweepResult c (CheckRecord.incomplete .state n .manual)) k := by
    rw [CheckEngine.afterSelection, h]
  rw [hjudged, CheckEngine.judged_frame, CheckEngine.judged_summary]

/-- A choice clears the engine into STARTING, with the sharers of its slot as companions. -/
theorem CheckEngine.afterSelection_some {c : Chan} {kind : CheckKind} (h : x.chosen = some (c, kind)) :
    k.afterSelection m x n = { k with
      stage := .starting, channel := some c, companions := sharers m c, kind := kind, phaseSlices := 0
      preSum := [], measureSum := [], preOverload := false, measureOverload := false, drive := none, decided := none
      sweep := (k.afterSelection m x n).sweep } := by
  have hstarted : k.afterSelection m x n =
      (x.judged.foldl (fun k c => k.sweepResult c (CheckRecord.incomplete .state n .manual)) k).start m c kind := by
    rw [CheckEngine.afterSelection, h]
  rw [hstarted, CheckEngine.judged_frame, CheckEngine.judged_summary]
  rfl

/-- The chosen channel and its companions are handed a start. -/
theorem Selection.starts_some {c : Chan} {kind : CheckKind} (h : x.chosen = some (c, kind)) (d : Chan) :
    x.starts m d = true ↔ d = c ∨ (sharers m c).getLsbD d.val = true := by
  rw [Selection.starts, h]
  simp [eq_comm (a := c)]

theorem Selection.starts_none (h : x.chosen = none) (d : Chan) : x.starts m d = false := by
  rw [Selection.starts, h]

/-- A channel judged on the way is INCOMPLETE, "state", with the retry delay, which a second boundary may count at once. -/
theorem Channel.afterSelection_judged (ch : Channel) (o : Order) (second : Bool) {c : Chan} (h : c ∈ x.judged) :
    ∃ retry, (ch.afterSelection o second m x n c).account = { ch.account with
        retry := retry, record := some (CheckRecord.incomplete .state n .manual) }
      ∧ (retry = 60 ∨ (second = true ∧ retry = 59)) := by
  unfold Channel.afterSelection
  dsimp only
  rw [if_pos h, CheckAccount.result_incomplete _ rfl]
  cases second with
  | false => exact ⟨60, rfl, .inl rfl⟩
  | true =>
    rw [if_pos rfl]
    rcases either_cases (o.yes (.resultBeforeTimers c))
      { ch.account with record := some (CheckRecord.incomplete .state n .manual), retry := 60 }.tickRetry
      { ch.account with record := some (CheckRecord.incomplete .state n .manual), retry := 60 } with hfirst | hlast
    · exact ⟨59, hfirst, .inr ⟨rfl, rfl⟩⟩
    · exact ⟨60, hlast, .inl rfl⟩

end

/-! ### The arbiter at a boundary (R143; log 41) -/

section
variable {s : State} {b : Bool}

theorem State.closing_idle (h : s.check.stage = .idle) : s.closing b = .quiet s.check := by
  rw [State.closing_eq, CheckEngine.atBoundary]
  split
  · rfl
  · rw [h]

/-- An idle engine meets the arbiter as the boundary found it, with no result decided. -/
theorem State.resolved_idle (h : s.check.stage = .idle) : s.resolved b = .quiet s.check := by
  have hstage : (s.closing b).engine.stage ≠ .starting := by
    rw [State.closing_idle h]
    change s.check.stage ≠ .starting
    rw [h]
    exact nofun
  rw [State.resolved_quiet hstage, State.closing_idle h]
  rfl

theorem State.decidedAt_idle (h : s.check.stage = .idle) : s.decidedAt b = none := by
  rw [State.decidedAt, State.closing_idle h, State.resolved_idle h]
  rfl

/-- What the arbiter reads at a boundary. -/
def State.viewAt (s : State) (b : Bool) : ArbiterView :=
  (s.started b).arbiterView (Config.order s.choices) (s.groups.map (·.holdCount))

theorem State.selection_idle (h : s.check.stage = .idle) : s.selection b = (s.viewAt b).select s.check := by
  rw [State.selection, State.started_check, State.resolved_idle h]
  rfl

/-- The arbiter and the records handed over leave time, maps, groups and modes as they were before it. -/
theorem State.boundary_started_fields : (s.boundary b).time = (s.started b).time
    ∧ (s.boundary b).router = (s.started b).router ∧ (s.boundary b).groups = (s.started b).groups
    ∧ (s.boundary b).control = (s.started b).control := by
  rw [State.boundary_eq]
  simp

theorem State.viewAt_run : (s.viewAt b).run = true ↔ (s.boundary b).control.mode = .run := by
  obtain ⟨-, -, -, hcontrol⟩ := s.boundary_started_fields (b := b)
  rw [hcontrol]
  exact decide_eq_true_iff

theorem State.viewAt_locked : (s.viewAt b).locked = true ↔ s.time.link = .locked := by
  obtain ⟨htime, -⟩ := s.boundary_started_fields (b := b)
  rw [← (State.boundary_time_fields (s := s) b).1, htime]
  exact decide_eq_true_iff

theorem State.viewAt_map : (s.viewAt b).map = (s.boundary b).router.active := by
  obtain ⟨-, hrouter, -⟩ := s.boundary_started_fields (b := b)
  rw [hrouter]
  rfl

theorem State.viewAt_live (c : Chan) : (s.viewAt b).live[c] = true ↔ (s.boundary b).channels[c].cond.state = .live := by
  rw [State.boundary_channel_state, ← State.started_channels]
  simp [State.viewAt, State.arbiterView]

theorem State.viewAt_account (c : Chan) : (s.viewAt b).accounts[c] = (s.turnedChannel b c).account := by
  rw [← State.started_channels]
  simp [State.viewAt, State.arbiterView]

/-- Inside a second, with no coefficients waiting, the accounts are those of the closing slice. -/
theorem State.viewAt_account_inside (h : s.check.stage = .idle) (hw : ∀ i : Fin 6, s.coefs[i].waiting = none) (c : Chan) :
    (s.viewAt false).accounts[c] = s.channels[c].account := by
  have hstands : s.Stands false := ⟨rfl, hw⟩
  obtain ⟨-, hempties, -⟩ := State.rowAt_undisturbed (hstands.undisturbed c)
  rw [State.viewAt_account, State.turnedChannel_account, hempties, State.accountAt_false, State.decidedAt_idle h]
  rfl

/-- A group defers its members while its alert stood ON at the last close, or while it is in impulse hold, before the
boundary's slice or after it as the order has it (R117). -/
theorem State.viewAt_deferring (g : Grp) :
    ((s.viewAt b).deferring[g] = true → (s.boundary b).router.active.groups[g].enabled = true
      ∧ ((s.boundary b).groups[g].alertAtClose = true ∨ 0 < s.groups[g].holdCount ∨ 0 < (s.boundary b).groups[g].holdCount))
    ∧ ((s.boundary b).router.active.groups[g].enabled = true → (s.boundary b).groups[g].alertAtClose = true
        ∨ (0 < s.groups[g].holdCount ∧ 0 < (s.boundary b).groups[g].holdCount) → (s.viewAt b).deferring[g] = true) := by
  obtain ⟨-, hrouter, hgroups, -⟩ := s.boundary_started_fields (b := b)
  rw [hrouter, hgroups]
  have hdefers : (s.viewAt b).deferring[g] = ((s.started b).router.active.groups[g].enabled
      && ((s.started b).groups[g].alertAtClose || either ((Config.order s.choices).yes (.selectionBeforeSlice g))
        (decide (0 < s.groups[g].holdCount)) (decide (0 < (s.started b).groups[g].holdCount)))) := by
    simp [State.viewAt, State.arbiterView]
  rw [hdefers, Bool.and_eq_true, Bool.or_eq_true]
  rcases either_cases ((Config.order s.choices).yes (.selectionBeforeSlice g)) (decide (0 < s.groups[g].holdCount))
    (decide (0 < (s.started b).groups[g].holdCount)) with hold | hold
  all_goals
    rw [hold, decide_eq_true_iff]
    tauto

/-- A slice inside a second leaves the alert that the arbiter reads. -/
theorem State.boundary_alertAtClose_inside (g : Grp) :
    (s.boundary false).groups[g].alertAtClose = s.groups[g].alertAtClose := by
  rw [State.boundary_group_inside]
  cases h : s.router.active.groups[g].enabled with
  | true =>
    change (s.slicedGroup g).1.alertAtClose = _
    rw [s.slicedGroup_enabled g h]
  | false =>
    change (s.slicedGroup g).1.alertAtClose = _
    rw [s.slicedGroup_disabled g h]

section
variable (h : s.check.stage = .idle)
include h

/-- The engine and the channels after a boundary that found no check in progress: the selection's work on what the arbiter
read, under the map and in the second that open. -/
theorem State.boundary_check_idle : (s.boundary b).check = s.check.afterSelection (s.boundary b).router.active
    ((s.viewAt b).select s.check) (s.boundary b).time.runningSecond := by
  rw [State.boundary_check, State.resolved_idle h, State.selection_idle h, State.boundary_router,
    State.boundary_runningSecond]
  rfl

theorem State.boundary_channel_idle (c : Chan) : (s.boundary b).channels[c] =
    (s.turnedChannel b c).afterSelection (Config.order s.choices) b (s.boundary b).router.active
      ((s.viewAt b).select s.check) (s.boundary b).time.runningSecond c := by
  rw [State.boundary_channel, State.selection_idle h, State.boundary_router, State.boundary_runningSecond]

end

/-- A boundary command leaves the boundary's state but for marks of control, and in its mode. -/
theorem exec_boundary_mode (h : if b then s.control.secondTaken = false else s.time.sliceIndex < 7) :
    ∃ k : Control, exec (if b then .secondBoundary else .sliceBoundary) s = .next { s.boundary b with control := k }
      ∧ k.mode = (s.boundary b).control.mode := by
  have hmark (k : Control) : { k with secondTaken := false }.mode = k.mode := rfl
  cases b with
  | true => exact ⟨(s.boundary true).control, exec_secondBoundary h, rfl⟩
  | false =>
    have h7 : decide (7 ≤ s.time.sliceIndex) = false := decide_eq_false (Nat.not_le.mpr h)
    refine ⟨_, ?_, hmark (s.boundary false).control⟩
    change execSliceBoundary s = _
    simp only [execSliceBoundary, h7]

end

/-- Settles O47: the classes in order, what a selection does, and the arbiter's place at either boundary. -/
theorem arbiterTakesFirstCandidate : Obligations.ArbiterTakesFirstCandidate := by
  refine ⟨fun v k => ?_, fun s o second hold => ?_, fun second s h hidle => ?_⟩
  · intro x shares ready automatic balance forced waits deferred due early first
    have hready (c : Chan) : v.ready c = true ↔ ready c := v.ready_iff c
    have hautomatic (c : Chan) : v.automatic c = true ↔ automatic c := by
      rw [v.automatic_iff c, hready c]
    have hforced (c : Chan) : (v.automatic c = true ∧ v.accounts[c].balance = 6) ↔ forced c := by
      rw [hautomatic c]
    have hdue (c : Chan) : v.dueCandidate c = true ↔ due c := by
      rw [v.dueCandidate_iff c, hautomatic c, ne_eq, v.deferred_iff c]
    have hearly (c : Chan) : v.earlyCandidate c ↔ early c := by
      rw [ArbiterView.earlyCandidate, hautomatic c]
    refine ⟨ArbiterView.select_inactive, fun hs hl => ⟨fun c hc => ?_, fun hno => ?_⟩⟩
    · exact ArbiterView.select_forced hs hl (ArbiterView.forced_eq_some ((hforced c).mpr hc.1) fun d hd =>
        mt (hforced d).mp (hc.2 d hd))
    have hf : v.forced = none := ArbiterView.forced_eq_none fun c => mt (hforced c).mp (hno c)
    refine ⟨fun c hc => ?_, fun hsweep => ?_⟩
    · exact ArbiterView.select_manual hs hl hf ⟨hc.1.1, (hready c).mpr hc.1.2⟩ fun d hd hwaits =>
        hc.2 d hd ⟨hwaits.1, (hready d).mp hwaits.2⟩
    have hx : x = _ := ArbiterView.select_automatic hs hl hf fun c hc => mt (hready c).mp (hsweep c hc)
    rw [hx]
    refine ⟨fun d => mem_channelsOf, fun c hc hbest => ?_, fun hnone => ⟨fun c hc => ?_, fun hlate => ?_⟩⟩
    · rw [ArbiterView.due_eq_some ((hdue c).mpr hc) fun d hd => hbest d ((hdue d).mp hd)]
      rfl
    · rw [ArbiterView.due_eq_none fun c => mt (hdue c).mp (hnone c),
        ArbiterView.early_eq_some ((hearly c).mpr hc.1) fun d hd => mt (hearly d).mp (hc.2 d hd)]
      rfl
    · rw [ArbiterView.due_eq_none fun c => mt (hdue c).mp (hnone c),
        ArbiterView.early_eq_none fun c => mt (hearly c).mp (hlate c)]
      rfl
  · intro x t m
    have hchannel (d : Chan) : t.channels[d] = s.channels[d].afterSelection o second m x s.time.runningSecond d := by
      simp [t, x, m, State.arbitrate]
    refine ⟨rfl, s.check.afterSelection_none m _, s.check.afterSelection_sweep_iff m x _,
      s.check.afterSelection_summary m x _, fun c kind hc => ?_, fun hc d => ?_, fun d => ?_⟩
    · have hcheck : t.check = _ := s.check.afterSelection_some m _ hc
      have hcompanions : t.check.companions = sharers m c := by rw [hcheck]
      refine ⟨hcompanions ▸ hcheck, fun d => ?_, fun d => ?_⟩
      · rw [hcompanions, Bool.eq_iff_iff, sharers_getLsbD, decide_eq_true_iff]
      · rw [hchannel, Channel.afterSelection_frame, hcompanions]
        simp only [Selection.starts_some m hc]
    · rw [hchannel, Channel.afterSelection_frame]
      simp only [Selection.starts_none m hc, Bool.false_eq_true, if_false]
    · rw [hchannel]
      exact ⟨rfl, fun hd => Channel.afterSelection_unjudged _ _ _ _ _ _ _ hd,
        fun hd => Channel.afterSelection_judged m _ _ o second hd⟩
  · obtain ⟨k, hexec, hmode⟩ := exec_boundary_mode h
    have hcheck := State.boundary_check_idle (b := second) hidle
    have hchannel := State.boundary_channel_idle (b := second) hidle
    have haccount (c : Chan) := State.viewAt_account (s := s) (b := second) c
    have hrun := State.viewAt_run (s := s) (b := second)
    have hlocked := State.viewAt_locked (s := s) (b := second)
    have hmap := State.viewAt_map (s := s) (b := second)
    have hlive := State.viewAt_live (s := s) (b := second)
    have hdeferring := State.viewAt_deferring (s := s) (b := second)
    have halert : second = false → ∀ g : Grp, (s.boundary second).groups[g].alertAtClose = s.groups[g].alertAtClose := by
      rintro rfl
      exact State.boundary_alertAtClose_inside
    have haccounts : second = false → (∀ i : Fin 6, s.coefs[i].waiting = none) →
        ∀ c : Chan, (s.viewAt second).accounts[c] = s.channels[c].account := by
      rintro rfl
      exact State.viewAt_account_inside hidle
    generalize s.boundary second = u at *
    generalize s.viewAt second = v at *
    refine ⟨{ u with control := k }, hexec, v, hrun.trans (by rw [hmode]), hlocked, hmap, hlive, haccounts,
      fun g => ⟨fun hb => halert hb g, hdeferring g⟩, ?_⟩
    intro x
    refine ⟨fun d => ?_, fun hc => ?_, fun c kind hc => ?_, fun d => ⟨fun hd => ?_, fun hd => ?_⟩⟩
    · exact hcheck ▸ s.check.afterSelection_sweep_iff u.router.active x _ d
    · exact hcheck ▸ s.check.afterSelection_none u.router.active _ hc
    · have hstarted : u.check = _ := hcheck.trans (s.check.afterSelection_some u.router.active _ hc)
      have hcompanions : u.check.companions = sharers u.router.active c := by rw [hstarted]
      refine ⟨by rw [hstarted], by rw [hstarted], by rw [hstarted], by rw [hstarted], fun d => ⟨?_, fun hd => ?_⟩⟩
      · exact hcompanions ▸ sharers_getLsbD u.router.active c d
      · change u.channels[d].cond.request = _
        rw [hchannel, Channel.afterSelection_frame]
        exact if_pos ((Selection.starts_some _ hc d).mpr (hcompanions ▸ hd))
    · change u.channels[d].account = _
      rw [hchannel, haccount]
      exact Channel.afterSelection_unjudged _ _ _ _ _ _ _ hd
    · change ∃ retry, u.channels[d].account = _ ∧ _
      rw [hchannel, haccount]
      exact Channel.afterSelection_judged _ _ _ _ _ hd

end Sys2Proof.Machine
end

section
/-! SUPPORT. What each command leaves of the check in progress, of the requests handed to channels and of the balances: what
a law of them has to be kept by, so that every step keeps it (R53, R54, R131 to R148). -/
namespace Sys2Proof.Machine

/-! ### What most commands leave -/

/-- Two states with the same check, its sweep apart, whose channels hold the same and are asked the same, no balance moved
but by a check owed. -/
structure SameCheck (s t : State) : Prop where
  held : SameHeld s t
  engine : ∃ w x, t.check = { s.check with sweep := w, summary := x }
  request : ∀ c : Chan, t.channels[c].cond.request = s.channels[c].cond.request
  balance : ∀ c : Chan, t.channels[c].account.balance = s.channels[c].account.balance
    ∨ t.channels[c].account.balance = raisedBalance s.channels[c].account.balance

/-- Where the check and the channels themselves stand. -/
theorem SameCheck.of_channels {s t : State} (ha : t.router.active = s.router.active)
    (hr : t.control.restarted = s.control.restarted) (hc : t.channels = s.channels) (hk : t.check = s.check) :
    SameCheck s t :=
  ⟨.of_channels ha hr hc, ⟨_, _, hk⟩, fun c => by rw [hc], fun c => .inl (by rw [hc])⟩

theorem State.emit_sameCheck (s : State) (n : Nat) (l : Chains) : SameCheck s (s.emit n l) :=
  .of_channels (by simp) (by simp) (by simp) (by simp)

theorem State.spoil_sameCheck (s : State) (bytes : List Byte) (f : CellFault) : SameCheck s (s.spoil bytes f) := by
  unfold State.spoil
  split
  · exact .of_channels rfl rfl rfl rfl
  · split <;> exact .of_channels rfl rfl rfl rfl

/-- The end of the load touches tables, time and mode alone (R190). -/
theorem State.endLoad_sameCheck (s : State) (m : MemoryRead) : SameCheck s (s.endLoad m) := by
  unfold State.endLoad
  dsimp only
  split
  · exact .of_channels rfl rfl rfl rfl
  · split <;> exact .of_channels rfl rfl rfl rfl

/-- Samples reach neither conditions nor accounts (R1, R30). -/
theorem State.carryGood_sameCheck (s : State) (f : Frame) : SameCheck s (s.carryGood f) := by
  have hkept (c : Chan) : (s.carryGood f).channels[c].cond = s.channels[c].cond
      ∧ (s.carryGood f).channels[c].account = s.channels[c].account := by
    simp only [State.carryGood, State.routeSamples, Fin.getElem_fin, Vector.getElem_ofFn]
    split
    · exact Channel.takeSample_kept ..
    · exact ⟨rfl, rfl⟩
  exact ⟨s.carryGood_sameHeld f, ⟨_, _, rfl⟩, fun c => by rw [(hkept c).1], fun c => .inl (by rw [(hkept c).2])⟩

/-- A declared loss, before it ends the check, marks the slices in progress (R31, R65). -/
theorem State.markHoldOver_sameCheck (s : State) :
    SameCheck s { s with time := s.time.lose, channels := s.channels.map Channel.markHoldOver } where
  held := ⟨rfl, rfl, fun c => by simpa using Channel.markHoldOver_sameHeld _⟩
  engine := ⟨_, _, rfl⟩
  request c := by simp [Channel.markHoldOver]
  balance c := .inl (by simp [Channel.markHoldOver])

/-- A declared restoration owes each channel one check at most (R66, R67, R140). -/
theorem State.regainLink_sameCheck (s : State) : SameCheck s s.regainLink where
  held := s.regainLink_sameHeld
  engine := ⟨_, _, s.regainLink_check⟩
  request c := by rw [Fin.getElem_fin, State.regainLink_channels]; rfl
  balance c := by
    rw [Fin.getElem_fin, State.regainLink_channels, Channel.regainLink]
    dsimp only
    split
    · exact .inr (raiseBalance_fst _)
    · exact .inl rfl

/-- The part with the timer of a channel run out: its balance one up, short of +6. -/
def State.timedOut (s : State) (c : Chan) : State :=
  { s with channels := s.channels.set c { s.channels[c] with account :=
      { s.channels[c].account with timer := 0, balance := (raiseBalance s.channels[c].account.balance).1 } } }

/-- The expiry of a timer owes its channel one check at most (R140, R141). -/
theorem State.timedOut_sameCheck (s : State) (c : Chan) : SameCheck s (s.timedOut c) where
  held := s.set_account_sameHeld c _
  engine := ⟨_, _, rfl⟩
  request d := by
    simp only [State.timedOut, Fin.getElem_fin, Vector.getElem_set]
    split
    · rename_i hcd
      obtain rfl : c = d := Fin.ext hcd
      rfl
    · rfl
  balance d := by
    simp only [State.timedOut, Fin.getElem_fin, Vector.getElem_set]
    split
    · rename_i hcd
      obtain rfl : c = d := Fin.ext hcd
      exact .inr (raiseBalance_fst _)
    · exact .inl rfl

/-! ### The laws of the check -/

/-- What a law of the check has to be kept by: besides what leaves the check as it is, the early end of a check, RESTART,
power-on and the boundaries. -/
structure KeptByChecks (Q : State → Prop) : Prop where
  congr : ∀ {s t : State}, Q s → SameCheck s t → Q t
  endCheck : ∀ {s : State} (why : CheckReason), Q s → Q (s.endCheck why)
  restart : ∀ s : State, Q s.restart
  reset : Q State.reset
  boundary : ∀ {s : State} (b : Bool), Q s → Q (s.boundary b)

section
variable {Q : State → Prop} (law : KeptByChecks Q) {s : State}
include law

/-- A request keeps such a law where its rule does. -/
theorem KeptByChecks.serve {code : Byte} {w b : Bool} {r : Request} {rule : State → Reply} (h : Q s)
    (hr : Q (rule s).state) : Q (s.serve code w b r rule) :=
  State.serve_keeps (fun u n l h => law.congr h (u.emit_sameCheck n l))
    (fun _ _ _ _ _ _ h => law.congr h (.of_channels rfl rfl rfl rfl))
    (fun _ _ h => law.congr h (.of_channels rfl rfl rfl rfl)) h hr

/-- Of the requests CHECK ABORT and RESTART alone touch the check in progress (R138, R145, R186). -/
theorem KeptByChecks.serveCode (code : Byte) (r : Request) (h : Q s) : Q (serveCode code r s) := by
  have kept {t : State} (ha : t.router.active = s.router.active) (hr : t.control.restarted = s.control.restarted)
      (hc : t.channels = s.channels) (hk : t.check = s.check) : Q t := law.congr h (.of_channels ha hr hc hk)
  unfold Machine.serveCode
  split
  case h_1 => exact law.serve h h
  case h_2 | h_3 => exact law.serve h (takeAlways_state h fun _ _ => h)
  case h_4 | h_6 | h_8 =>
    refine law.serve h (takeOutsideBoot_state h fun _ _ _ => ?_)
    split_ifs <;> exact kept rfl rfl rfl rfl
  case h_5 =>
    refine law.serve h (takeAlways_state h fun _ _ => ?_)
    split_ifs <;> exact kept rfl rfl rfl rfl
  case h_7 =>
    refine law.serve h (takeOutsideBoot_state h fun _ _ _ => ?_)
    split_ifs
    · exact h
    · exact law.restart s
  case h_9 | h_10 =>
    split
    · exact law.serve h (takeOutsideBoot_state h fun _ _ _ => kept (by simp [Reply.plain]) rfl rfl rfl)
    · exact law.serve h (takeOutsideBoot_state h fun _ _ _ => by split <;> exact h)
  case h_11 | h_15 | h_16 | h_19 =>
    refine law.serve h (takeOutsideBoot_state h fun _ _ _ => ?_)
    split
    · exact h
    · split <;> exact kept rfl rfl rfl rfl
  case h_12 =>
    split
    · refine law.serve h (takeAlways_state h fun _ _ => ?_)
      split_ifs <;> exact kept rfl rfl rfl rfl
    · exact law.serve h (takeOutsideBoot_state h fun _ _ _ => h)
  case h_13 | h_14 =>
    split
    · exact law.serve h (takeOutsideBoot_state h fun _ _ _ => kept rfl rfl rfl rfl)
    · exact law.serve h (takeOutsideBoot_state h fun _ _ _ => by split <;> exact h)
  case h_17 | h_18 =>
    exact law.serve h (takeOutsideBoot_state h fun _ _ _ => by split <;> exact kept rfl rfl rfl rfl)
  case h_20 =>
    refine law.serve h (takeOutsideBoot_state h fun _ _ _ => ?_)
    split
    · exact h
    · exact law.congr h ⟨.of_channels rfl rfl rfl, ⟨_, _, rfl⟩, fun _ => rfl, fun _ => .inl rfl⟩
  case h_21 =>
    refine law.serve h (takeOutsideBoot_state h fun _ _ _ => law.congr (law.endCheck .abort h) ?_)
    exact ⟨.of_channels rfl rfl rfl, ⟨_, _, rfl⟩, fun _ => rfl, fun _ => .inl rfl⟩
  case h_22 | h_23 | h_24 | h_25 => exact law.serve h (takeOutsideBoot_state h fun _ _ _ => h)
  case h_26 | h_27 => exact law.serve h (takeAlways_state h fun _ _ => by split <;> exact kept rfl rfl rfl rfl)

theorem KeptByChecks.takeCell (cell : Cell) (h : Q s) : Q (s.takeCell cell) := by
  have hup : Q { s with trunk := s.trunk.forwardUp cell } := law.congr h (.of_channels rfl rfl rfl rfl)
  unfold State.takeCell
  dsimp only
  split
  · split
    · exact law.serveCode _ _ h
    · exact law.congr h (.of_channels rfl rfl rfl rfl)
  · split
    · exact law.serveCode _ _ hup
    · exact law.congr hup (.of_channels rfl rfl rfl rfl)
  · exact hup

theorem KeptByChecks.receiveCell (bytes : List Byte) (h : Q s) : Q (s.receiveCell bytes) := by
  obtain ⟨u, hu, hr⟩ := s.receiveCell_cases bytes
  have hfirst : Q u := by
    rcases hu with rfl | ⟨arrived, rfl⟩
    · exact h
    · exact law.congr h (s.spoil_sameCheck _ _)
  rcases hr with hr | ⟨p, hr⟩ | ⟨cell, hr⟩ <;> rw [hr]
  · exact law.congr (law.congr hfirst (u.spoil_sameCheck _ _)) (.of_channels rfl rfl rfl rfl)
  · exact law.congr hfirst (.of_channels rfl rfl rfl rfl)
  · exact law.takeCell cell (law.congr hfirst (.of_channels rfl rfl rfl rfl))

/-! ### Frame periods and the link -/

theorem KeptByChecks.advance (h : Q s) : Q s.advance := by
  unfold State.advance
  dsimp only
  split
  · exact law.congr h (.of_channels rfl rfl rfl rfl)
  · exact law.boundary _ (law.congr h (.of_channels rfl rfl rfl rfl))

/-- A declared loss ends the check in progress (R138). -/
theorem KeptByChecks.loseLink (h : Q s) : Q s.loseLink := by
  unfold State.loseLink
  exact law.congr (law.endCheck .link (law.congr h s.markHoldOver_sameCheck)) (State.emit_sameCheck ..)

theorem KeptByChecks.countRuns (good : Bool) (h : Q s) : Q (s.countRuns good) := by
  have hcounted : Q { s with time := s.time.countPeriod good } := law.congr h (.of_channels rfl rfl rfl rfl)
  unfold State.countRuns
  dsimp only
  split_ifs
  · exact law.congr (law.loseLink h) (.of_channels rfl rfl rfl rfl)
  · exact law.congr hcounted (State.regainLink_sameCheck _)
  · exact hcounted

/-! ### The step -/

/-- Every command keeps such a law. -/
theorem KeptByChecks.exec {i : Instr} {t : State} (h : Q s) (hi : exec i s = .next t) : Q t := by
  cases hc : codedRequest i with
  | some x =>
    rw [exec_coded hc] at hi
    obtain rfl := Host.Outcome.next.inj hi
    exact law.serveCode _ _ h
  | none =>
    cases i with
    | powerOn n =>
      obtain rfl := Host.Outcome.next.inj hi
      exact law.congr law.reset (.of_channels rfl rfl rfl rfl)
    | bootLoadEnd m =>
      change execBootLoadEnd m s = _ at hi
      unfold execBootLoadEnd at hi
      split at hi <;> obtain rfl := Host.Outcome.next.inj hi
      · exact law.congr h (s.endLoad_sameCheck m)
      · exact h
    | sampleFrame f =>
      obtain rfl := Host.Outcome.next.inj hi
      have hcounted := law.countRuns (goodFrame f) (law.advance h)
      split
      · exact law.congr hcounted (State.carryGood_sameCheck ..)
      · exact law.congr hcounted (.of_channels rfl rfl rfl rfl)
    | framePeriod =>
      obtain rfl := Host.Outcome.next.inj hi
      exact law.congr (law.countRuns false (law.advance h)) (.of_channels rfl rfl rfl rfl)
    | linkLoss =>
      change execLinkLoss s = _ at hi
      unfold execLinkLoss at hi
      split at hi <;> obtain rfl := Host.Outcome.next.inj hi
      · exact law.loseLink h
      · exact h
    | linkRestoration =>
      change execLinkRestoration s = _ at hi
      unfold execLinkRestoration at hi
      split at hi <;> obtain rfl := Host.Outcome.next.inj hi
      · exact law.congr h s.regainLink_sameCheck
      · exact h
    | sliceBoundary =>
      obtain rfl := Host.Outcome.next.inj hi
      exact law.congr (law.boundary _ h) (.of_channels rfl rfl rfl rfl)
    | secondBoundary =>
      change execSecondBoundary s = _ at hi
      unfold execSecondBoundary at hi
      split at hi <;> obtain rfl := Host.Outcome.next.inj hi
      · exact law.congr h (.of_channels rfl rfl rfl rfl)
      · exact law.boundary true h
    | intervalTimerExpiry c =>
      change execIntervalTimerExpiry c s = _ at hi
      unfold execIntervalTimerExpiry at hi
      split at hi <;> obtain rfl := Host.Outcome.next.inj hi
      · exact law.congr (law.congr h (s.timedOut_sameCheck c)) (State.emit_sameCheck ..)
      · exact h
    | controlCell bytes => obtain rfl := Host.Outcome.next.inj hi; exact law.receiveCell bytes h
    | cellTimeout arrived mark =>
      obtain rfl := Host.Outcome.next.inj hi
      exact law.congr (law.congr h (s.spoil_sameCheck _ _)) (.of_channels rfl rfl rfl rfl)
    | cellLengthFault arrived =>
      obtain rfl := Host.Outcome.next.inj hi
      exact law.congr (law.congr h (s.spoil_sameCheck _ _)) (.of_channels rfl rfl rfl rfl)
    | passThroughCell cell => obtain rfl := Host.Outcome.next.inj hi; exact law.congr h (.of_channels rfl rfl rfl rfl)
    | forwardCellWindow => obtain rfl := Host.Outcome.next.inj hi; exact law.congr h (.of_channels rfl rfl rfl rfl)
    | returnLaneSend => obtain rfl := Host.Outcome.next.inj hi; exact law.congr h (.of_channels rfl rfl rfl rfl)
    | _ => cases hc

/-- Every step keeps such a law: a command does, and an idle step changes nothing. -/
theorem KeptByChecks.step {t : State} (h : Q s) (hs : step s = .next t) : Q t := by
  unfold Machine.step at hs
  split at hs
  · obtain rfl := Host.Outcome.next.inj hs
    exact h
  · rename_i rest _
    exact law.exec (s := { s with pending := rest }) (law.congr h (.of_channels rfl rfl rfl rfl)) hs

end

end Sys2Proof.Machine
end

section
/-! SUPPORT. The balances: every cause that meets an account keeps them, and O53 (R11, R13, R67, R137, R140, R141). -/
namespace Sys2Proof.Machine

/-! ### An account in its range -/

/-- The balance of an account lies between -3 and +6 (R140). -/
def CheckAccount.Bounded (a : CheckAccount) : Prop := -3 ≤ a.balance ∧ a.balance ≤ 6

theorem State.balanceLaw_iff (s : State) : s.balanceLaw ↔ ∀ c : Chan, s.channels[c].account.Bounded := Iff.rfl

section
variable {a : CheckAccount}

/-- The law of an account reads its balance alone. -/
theorem CheckAccount.Bounded.congr {d : CheckAccount} (h : a.Bounded) (e : d.balance = a.balance) : d.Bounded := by
  rwa [CheckAccount.Bounded, e]

/-- A check owed stops at +6. -/
theorem CheckAccount.Bounded.raised {d : CheckAccount} (h : a.Bounded) (e : d.balance = raisedBalance a.balance) :
    d.Bounded := by
  obtain ⟨hlow, hhigh⟩ := h
  rw [CheckAccount.Bounded, e, raisedBalance]
  split <;> omega

/-- A counted result stops at -3; any other leaves the balance. -/
theorem CheckAccount.Bounded.result (h : a.Bounded) (r : CheckRecord) : (a.result r).Bounded := by
  obtain ⟨hlow, hhigh⟩ := h
  by_cases hr : r.counts
  · rw [CheckAccount.result_counted hr, CheckAccount.Bounded, lowerBalance]
    dsimp only
    split <;> omega
  · rw [CheckAccount.result_uncounted hr]
    exact ⟨hlow, hhigh⟩

/-- An activation leaves the balance or starts it afresh at 0. -/
theorem CheckAccount.Bounded.activate (h : a.Bounded) (old new : ChannelEntry) : (a.activate old new).Bounded := by
  rw [CheckAccount.activate, CheckAccount.Bounded]
  dsimp only
  split
  · decide
  · exact h

/-- The count of a second boundary owes one check at most. -/
theorem CheckAccount.Bounded.countSecond (h : a.Bounded) (mode : Mode) (old now : ChannelEntry)
    (cs : Option ChannelSecond) : (a.countSecond mode old now cs).1.Bounded := by
  obtain ⟨hraised, hkept⟩ := a.countSecond_balance mode old now cs
  by_cases hx : a.expires mode now
  · exact h.raised (hraised hx)
  · exact h.congr (hkept hx)

/-- In whatever order its causes meet the account. -/
theorem CheckAccount.Bounded.secondInOrder (h : a.Bounded) (mode : Mode) (old new : ChannelEntry)
    (result : Option CheckRecord) (cs : Option ChannelSecond) (x y z : Bool) :
    (a.secondInOrder mode old new result cs x y z).1.Bounded := by
  have judged {d : CheckAccount} (hd : d.Bounded) : (match result with | some r => d.result r | none => d).Bounded := by
    cases result with
    | none => exact hd
    | some r => exact hd.result r
  have both {d : CheckAccount} (hd : d.Bounded) :
      (if z then (match result with | some r => (d.activate old new).result r | none => d.activate old new)
        else (match result with | some r => d.result r | none => d).activate old new).Bounded := by
    cases z with
    | true => exact judged (hd.activate old new)
    | false => exact (judged hd).activate old new
  cases x with
  | true =>
    cases y with
    | true => exact (both h).countSecond ..
    | false => exact judged ((h.activate old new).countSecond ..)
  | false =>
    cases y with
    | true => exact ((judged h).countSecond ..).activate ..
    | false => exact both (h.countSecond ..)

theorem CheckAccount.Bounded.atSecond (h : a.Bounded) (o : Order) (c : Chan) (mode : Mode) (old new : ChannelEntry)
    (result : Option CheckRecord) (cs : Option ChannelSecond) : (a.atSecond o c mode old new result cs).1.Bounded := by
  obtain ⟨x, y, z, he⟩ := a.atSecond_cases o c mode old new result cs
  rw [he]
  exact h.secondInOrder ..

end

/-! ### The step -/

/-- At a boundary a result, and at the end of a second an activation and the count too, meet the account; the arbiter moves
no balance. -/
theorem State.balanceLaw.boundary {s : State} (b : Bool) (h : s.balanceLaw) : (s.boundary b).balanceLaw := by
  rw [State.balanceLaw_iff]
  intro c
  have hturn : (s.accountAt b c).1.Bounded := by
    cases b with
    | true => rw [State.accountAt_true]; exact CheckAccount.Bounded.atSecond (h c) ..
    | false =>
      rw [State.accountAt_false]
      cases resultFor c (s.decidedAt false) with
      | none => exact h c
      | some r => exact CheckAccount.Bounded.result (h c) r
  refine hturn.congr ?_
  rw [State.boundary_channel_account, State.turnedChannel_account]
  split <;> rfl

/-- A check's step moves an account by its result alone (R137). -/
theorem Channel.checkStep_account (ch : Channel) (x : CheckClose) (c : Chan) :
    (ch.checkStep x c).account = (resultFor c x.decided).elim ch.account ch.account.result := by
  unfold Channel.checkStep resultFor
  dsimp only
  cases x.decided with
  | none => rfl
  | some p => dsimp only; split <;> rfl

theorem State.balanceLaw.endCheck {s : State} (why : CheckReason) (h : s.balanceLaw) : (s.endCheck why).balanceLaw := by
  rw [State.balanceLaw_iff]
  intro c
  unfold State.endCheck
  dsimp only
  split
  · exact h c
  · simp only [Fin.getElem_fin, Vector.getElem_ofFn, Channel.checkStep_account]
    cases resultFor c (s.check.endEarly why s.time.runningSecond).decided with
    | none => exact h c
    | some r => exact CheckAccount.Bounded.result (h c) r

theorem State.balanceLaw_restart (s : State) : s.restart.balanceLaw := fun c => by
  rw [State.restart_channel]
  exact (⟨by decide, by decide⟩ : Channel.reset.account.Bounded)

theorem State.balanceLaw.congr {s t : State} (h : s.balanceLaw) (e : SameCheck s t) : t.balanceLaw := fun c =>
  (e.balance c).elim (CheckAccount.Bounded.congr (h c)) (CheckAccount.Bounded.raised (h c))

theorem balanceLaw_keptByChecks : KeptByChecks State.balanceLaw where
  congr h e := State.balanceLaw.congr h e
  endCheck why h := State.balanceLaw.endCheck why h
  restart := State.balanceLaw_restart
  reset := State.reset_balanceLaw
  boundary b h := State.balanceLaw.boundary b h

/-- Settles O53: every cause that meets an account keeps its balance in range. -/
theorem balancesStayInRange : Obligations.BalancesStayInRange := fun _ _ h hs => balanceLaw_keptByChecks.step h hs

end Sys2Proof.Machine
end

section
/-! SUPPORT. The check in progress: what each part of a boundary leaves of the engine and of the channels it asks, and O54
(R53, R54, R131 to R134, R138, R139). -/
namespace Sys2Proof.Machine

/-! ### The law of the check, channel by channel -/

/-- A channel is under check exactly outside IDLE, and the drive on exactly in ESTABLISH and MEASURE (R131, R132, R134). -/
structure CheckEngine.Coherent (k : CheckEngine) : Prop where
  channel : k.channel.isSome = k.busy
  drive : k.drive.isSome = k.stage.driven

/-- What the engine allows of a channel's condition: CHECKING and a start held belong to the check in progress, each in its
stages (R53, R54, R133, R138). -/
structure CheckEngine.Admits (k : CheckEngine) (c : Chan) (q : Condition) : Prop where
  checking : q.state = .checking → k.involved c = true ∧ k.stage.quenching = true
    ∧ (k.stage = .ending → q.request = .endHeld)
  starting : q.request = .startHeld → k.involved c = true ∧ k.stage = .starting

theorem State.checkLaw_iff (s : State) :
    s.checkLaw ↔ s.check.Coherent ∧ ∀ c : Chan, s.check.Admits c s.channels[c].cond :=
  ⟨fun ⟨h1, h2, h3⟩ => ⟨⟨h1, h2⟩, fun c => ⟨(h3 c).1, (h3 c).2⟩⟩,
    fun ⟨⟨h1, h2⟩, h3⟩ => ⟨h1, h2, fun c => ⟨(h3 c).checking, (h3 c).starting⟩⟩⟩

section
variable {k : CheckEngine}

theorem CheckEngine.Coherent.busy (h : k.Coherent) {c : Chan} (hc : k.channel = some c) : k.stage ≠ .idle := by
  have hbusy := h.channel
  rw [hc] at hbusy
  exact of_decide_eq_true hbusy.symm

theorem CheckEngine.Coherent.idle (h : k.Coherent) (hc : k.channel = none) : k.stage = .idle := by
  have hbusy := h.channel
  rw [hc] at hbusy
  exact not_not.mp (of_decide_eq_false hbusy.symm)

/-- The engine in IDLE has no channel under check and no drive on. -/
theorem CheckEngine.Coherent.of_idle (hs : k.stage = .idle) (hc : k.channel = none) (hd : k.drive = none) : k.Coherent :=
  ⟨by rw [hc, CheckEngine.busy, hs]; rfl, by rw [hd, hs]; rfl⟩

/-- In a stage with the drive off. -/
theorem CheckEngine.Coherent.of_busy {c : Chan} (hs : k.stage = .starting ∨ k.stage = .pre ∨ k.stage = .ending)
    (hc : k.channel = some c) (hd : k.drive = none) : k.Coherent := by
  rcases hs with hs | hs | hs <;> exact ⟨by rw [hc, CheckEngine.busy, hs]; rfl, by rw [hd, hs]; rfl⟩

/-- The law reads neither the sweep nor its summary. -/
theorem CheckEngine.Coherent.congr {w : ChanSet} {x : SweepSummary} (h : k.Coherent) :
    ({ k with sweep := w, summary := x } : CheckEngine).Coherent := ⟨h.channel, h.drive⟩

theorem CheckEngine.Admits.congr {c : Chan} {q u : Condition} {w : ChanSet} {x : SweepSummary} (h : k.Admits c q)
    (hs : u.state = q.state) (hr : u.request = q.request) :
    ({ k with sweep := w, summary := x } : CheckEngine).Admits c u :=
  ⟨by rw [hs, hr]; exact h.checking, by rw [hr]; exact h.starting⟩

/-- A channel neither CHECKING nor asked to start is admitted in every stage. -/
theorem CheckEngine.Admits.of_free {c : Chan} {q : Condition} (hs : q.state ≠ .checking) (hr : q.request ≠ .startHeld) :
    k.Admits c q := ⟨fun h => absurd h hs, fun h => absurd h hr⟩

/-- An idle engine has every channel free. -/
theorem CheckEngine.Admits.idle {c : Chan} {q : Condition} (h : k.Admits c q) (hs : k.stage = .idle) :
    q.state ≠ .checking := fun hq => by
  obtain ⟨-, hquench, -⟩ := h.checking hq
  rw [hs] at hquench
  cases hquench

end

theorem State.checkLaw.congr {s t : State} (h : s.checkLaw) (e : SameCheck s t) : t.checkLaw := by
  rw [State.checkLaw_iff] at h ⊢
  obtain ⟨hengine, hadmits⟩ := h
  obtain ⟨w, x, hk⟩ := e.engine
  rw [hk]
  exact ⟨hengine.congr, fun c => (hadmits c).congr (e.held.channels c).state (e.request c)⟩

/-- A start is held after a check's step only where one was held and is not withdrawn. -/
theorem requestAfter_startHeld {ends withdrawn : ChanSet} {c : Chan} {q : CheckRequest}
    (h : requestAfter ends withdrawn c q = .startHeld) : withdrawn.getLsbD c.val = false ∧ q = .startHeld := by
  unfold requestAfter at h
  split at h
  · cases h
  · split at h
    · cases h
    · exact ⟨Bool.eq_false_iff.mpr ‹_›, h⟩

/-! ### The early end, and RESTART (R138, R148) -/

/-- Where the early end of a check leaves the engine: IDLE, or ENDING with the drive off. -/
theorem CheckEngine.endEarly_engine {k : CheckEngine} {c : Chan} (hc : k.channel = some c)
    (hq : ¬(k.stage = .idle ∨ k.stage = .ending)) (why : CheckReason) (n : Nat) : (k.endEarly why n).engine =
      (if k.stage = .starting then k.toIdle
        else { k with stage := .ending, drive := none, decided := some (.incomplete, why) }).sweepResult c
          (CheckRecord.incomplete why n k.kind) := by
  cases hs : k.stage with
  | idle => exact absurd (.inl hs) hq
  | ending => exact absurd (.inr hs) hq
  | _ => simp only [CheckEngine.endEarly, hs, hc]; rfl

/-- A check's early end withdraws the starts of a check in STARTING, and holds the end of every channel of a later one. -/
theorem State.checkLaw.endCheck {s : State} (why : CheckReason) (h : s.checkLaw) : (s.endCheck why).checkLaw := by
  obtain ⟨hengine, hadmits⟩ := s.checkLaw_iff.mp h
  by_cases hquiet : s.check.stage = .idle ∨ s.check.stage = .ending
  · rwa [State.endCheck_quiet hquiet]
  obtain ⟨c, hc⟩ : ∃ c, s.check.channel = some c :=
    Option.ne_none_iff_exists'.mp fun hn => hquiet (.inl (hengine.idle hn))
  have hended := s.check.endEarly_ended hc hquiet why s.time.runningSecond
  rw [State.endCheck_ended rfl hended, State.checkLaw_iff]
  dsimp only
  rw [CheckEngine.endEarly_engine hc hquiet, CheckEngine.sweepResult_frame]
  simp only [Fin.getElem_fin, Vector.getElem_ofFn]
  generalize hx : s.check.endEarly why s.time.runningSecond = x at hended
  have hunasked (d : Chan) : (s.channels[d].checkStep x d).cond.request ≠ .startHeld := fun hr => by
    change requestAfter x.ends x.withdrawn d s.channels[d].cond.request = _ at hr
    rw [hended.request] at hr
    split at hr
    · split at hr <;> cases hr
    · exact ‹¬_› ((hadmits d).starting hr).1
  by_cases hs : s.check.stage = .starting
  · rw [if_pos hs]
    refine ⟨.of_idle rfl rfl rfl, fun d => .of_free (fun hch => ?_) (hunasked d)⟩
    obtain ⟨-, hquench, -⟩ := (hadmits d).checking hch
    rw [hs] at hquench
    cases hquench
  · rw [if_neg hs]
    refine ⟨.of_busy (.inr (.inr rfl)) hc rfl, fun d => ⟨fun hch => ?_, fun hr => absurd hr (hunasked d)⟩⟩
    obtain ⟨hinvolved, -, -⟩ := (hadmits d).checking hch
    exact ⟨hinvolved, rfl, fun _ => (Channel.checkStep_involved hended _ hinvolved).trans (if_neg hs)⟩

/-- A RESTART leaves the engine as at power-on, and asks nothing of any channel. -/
theorem State.checkLaw_restart (s : State) : s.restart.checkLaw := by
  rw [State.checkLaw_iff]
  refine ⟨.of_idle rfl rfl rfl, fun c => ?_⟩
  rw [State.restart_channel]
  exact .of_free nofun nofun

/-! ### The engine before the states are decided (R134, R135, R139) -/

/-- The check goes on through the close of its slice: asked nothing, its channels as they were, in the stage it was in or
among those that take slices. -/
structure CheckClose.Goes (x : CheckClose) (k : CheckEngine) : Prop where
  ends : x.ends = 0
  withdrawn : x.withdrawn = 0
  channel : x.engine.channel = k.channel
  companions : x.engine.companions = k.companions
  coherent : x.engine.Coherent
  stage : x.engine.stage = k.stage ∨ (k.takes ∧ x.engine.takes)
  unended : k.stage ≠ .ending

/-- The check is over: the starts of a check in STARTING are withdrawn, and every channel of a later one is disturbed or has
its end held. -/
structure CheckClose.Over (x : CheckClose) (k : CheckEngine) (disturbed : Chan → Bool) : Prop where
  coherent : x.engine.Coherent
  idle : x.engine.stage = .idle
  withdrawn : k.stage = .starting → ∀ d, k.involved d = true → x.withdrawn.getLsbD d.val = true
  ended : k.takes → ∀ d, k.involved d = true → disturbed d = false → x.ends.getLsbD d.val = true
  kept : k.stage = .ending → x.ends = 0 ∧ x.withdrawn = 0

/-- The stages that take slices are none of the others. -/
theorem CheckEngine.takes_stage {k : CheckEngine} (h : k.takes) : k.stage.quenching = true ∧ k.stage ≠ .starting
    ∧ k.stage ≠ .ending ∧ k.stage ≠ .idle := by
  rcases h with h | h | h <;> rw [h] <;> exact ⟨rfl, nofun, nofun, nofun⟩

theorem CheckClose.Goes.quiet {k : CheckEngine} (h : k.Coherent) (hs : k.stage ≠ .ending) : (CheckClose.quiet k).Goes k :=
  ⟨rfl, rfl, rfl, rfl, h, .inl rfl, hs⟩

/-- A check with a result is over. -/
theorem CheckClose.Over.of_ended {k k' : CheckEngine} {c : Chan} {r : CheckRecord} {ends withdrawn : ChanSet}
    {disturbed : Chan → Bool} (he : k.stage ≠ .ending)
    (hw : k.stage = .starting → ∀ d, k.involved d = true → withdrawn.getLsbD d.val = true)
    (hends : k.takes → ∀ d, k.involved d = true → disturbed d = false → ends.getLsbD d.val = true) :
    (CheckClose.ended k' c r ends withdrawn).Over k disturbed := by
  refine ⟨?_, ?_, hw, hends, fun h => absurd h he⟩ <;> rw [CheckClose.ended, CheckEngine.sweepResult_frame]
  · exact .of_idle rfl rfl rfl
  · rfl

/-- A phase's slice leaves the check among the stages that take slices, the drive on in ESTABLISH and MEASURE (R134). -/
theorem CheckEngine.takePhase_coherent {k : CheckEngine} (h : k.Coherent) (hs : k.takes) (r : SliceRecord) (slot : Fin 64) :
    (k.takePhase r slot).1.takes ∧ (k.takePhase r slot).1.Coherent := by
  obtain ⟨hbusy, hdrive⟩ := h
  unfold CheckEngine.takePhase
  dsimp only
  rcases hs with hs | hs | hs <;> simp only [CheckEngine.busy, hs] at hbusy hdrive ⊢
  · split
    · exact ⟨.inr (.inl rfl), hbusy, rfl⟩
    · exact ⟨.inl rfl, hbusy, hdrive⟩
  · split
    · exact ⟨.inr (.inr rfl), hbusy, hdrive⟩
    · exact ⟨.inr (.inl rfl), hbusy, hdrive⟩
  · exact ⟨.inr (.inr rfl), hbusy, hdrive⟩

/-- Before the states are decided the check goes on or is over. -/
theorem CheckEngine.atBoundary_goes_or_over {k : CheckEngine} (h : k.Coherent) (record : Chan → Option SliceRecord)
    (old new : ChannelMap) (disturbed : Chan → Bool) (second : Nat) :
    (k.atBoundary record old new disturbed second).Goes k
      ∨ (k.atBoundary record old new disturbed second).Over k disturbed := by
  obtain hc | ⟨c, hc⟩ := Option.eq_none_or_eq_some k.channel
  · rw [CheckEngine.atBoundary_none _ _ _ _ _ _ hc]
    exact .inl (.quiet h (by rw [h.idle hc]; nofun))
  have hall (d : Chan) (hd : k.involved d = true) : (k.involvedSet fun _ => true).getLsbD d.val = true := by
    rw [involvedSet_getLsbD, hd]; rfl
  have hundisturbed (d : Chan) (hd : k.involved d = true) (hn : disturbed d = false) :
      (k.involvedSet fun d => !disturbed d).getLsbD d.val = true := by
    rw [involvedSet_getLsbD, hd, hn]; rfl
  have taken (hs : k.takes) : (k.atBoundary record old new disturbed second).Goes k
      ∨ (k.atBoundary record old new disturbed second).Over k disturbed := by
    obtain ⟨-, hnstart, hnend, -⟩ := CheckEngine.takes_stage hs
    cases hr : (record c).filter (fun r => decide (r.takenIn = .checking)) with
    | none =>
      rw [CheckEngine.atBoundary_unrecorded k record old new disturbed second hc hs hr]
      split
      · exact .inr (.of_ended hnend (fun h => absurd h hnstart) fun _ => hundisturbed)
      · exact .inl (.quiet h hnend)
    | some r =>
      obtain ⟨hrec, ht⟩ := Option.filter_eq_some_iff.mp hr
      rw [CheckEngine.atBoundary_recorded k record old new disturbed second hc hs hrec (of_decide_eq_true ht)]
      split
      · exact .inr (.of_ended hnend (fun h => absurd h hnstart) fun _ d hd _ => hall d hd)
      · split
        · exact .inr (.of_ended hnend (fun h => absurd h hnstart) fun _ => hundisturbed)
        · dsimp only
          split
          · exact .inr (.of_ended hnend (fun h => absurd h hnstart) fun _ d hd _ => hall d hd)
          · obtain ⟨htakes, hcoherent⟩ := CheckEngine.takePhase_coherent h hs r old.channels[c].sourceSlot
            have hframe := k.takePhase_frame r old.channels[c].sourceSlot
            have hchannel : (k.takePhase r old.channels[c].sourceSlot).1.channel = k.channel := by rw [hframe]
            have hcompanions : (k.takePhase r old.channels[c].sourceSlot).1.companions = k.companions := by rw [hframe]
            exact .inl ⟨rfl, rfl, hchannel, hcompanions, hcoherent, .inr ⟨hs, htakes⟩, hnend⟩
  cases hs : k.stage with
  | idle => exact absurd hs (h.busy hc)
  | starting =>
    rw [CheckEngine.atBoundary_starting k record old new disturbed second hc hs]
    split
    · refine .inr (.of_ended (by rw [hs]; nofun) (fun _ => hall) fun ht => ?_)
      exact absurd hs (CheckEngine.takes_stage ht).2.1
    · exact .inl (.quiet h (by rw [hs]; nofun))
  | ending =>
    rw [CheckEngine.atBoundary_ending k record old new disturbed second hc hs]
    refine .inr ⟨.of_idle rfl rfl rfl, rfl, fun h => ?_, fun ht => ?_, fun _ => ⟨rfl, rfl⟩⟩
    · rw [hs] at h; cases h
    · exact absurd hs (CheckEngine.takes_stage ht).2.2.1
  | pre => exact taken (.inl hs)
  | establish => exact taken (.inr (.inl hs))
  | measure => exact taken (.inr (.inr hs))

/-! ### The channels once the states are decided (R48, R53, R54) -/

section
variable {s : State} {b : Bool} {c : Chan}

/-- No row leaves a start held: it is decided either way (R53). -/
theorem Condition.apply_request_ne_startHeld (q : Condition) (r : Row) (t : Option ChannelState) (p : Nat × Nat) :
    (q.apply r t p).request ≠ .startHeld := by
  have hspent : spentRequest r t q.request ≠ .startHeld := by
    cases q.request with
    | endHeld => rw [spentRequest]; split <;> nofun
    | _ => exact nofun
  cases r with
  | disabled => exact nofun
  | _ => exact hspent

theorem State.turnedChannel_unstarted : (s.turnedChannel b c).cond.request ≠ .startHeld := fun h => by
  rw [State.turnedChannel_cond] at h
  exact Condition.apply_request_ne_startHeld _ _ _ _ (requestAfter_startHeld h).2

/-- A channel that is CHECKING once the states are decided has taken a start that was held and not withdrawn, or goes on in
CHECKING, undisturbed and without an end held. -/
theorem State.turnedChannel_checking (hchannel : s.channelLaw) (h : (s.turnedChannel b c).cond.state = .checking) :
    (s.rowAt b c = .checkStart ∧ (s.closing b).withdrawn.getLsbD c.val = false
        ∧ s.channels[c].cond.request = .startHeld)
      ∨ (s.channels[c].cond.state = .checking ∧ s.disturbed (s.opening b) c = none
        ∧ requestAfter (s.closing b).ends (s.closing b).withdrawn c s.channels[c].cond.request ≠ .endHeld) := by
  rw [State.turnedChannel_state] at h
  have hrow := Row.state_checking h
  have hundisturbed : s.disturbed (s.opening b) c = none := by
    by_contra hd
    obtain ⟨r, hr⟩ := Option.ne_none_iff_exists'.mp hd
    rw [State.rowAt_disturbed hr] at hrow
    rcases State.disturbed_settles hr with rfl | rfl | rfl | rfl <;> simp at hrow
  rcases hrow with hstart | ⟨hkept, hstate⟩
  · obtain ⟨-, hrequest, -, -⟩ := (State.rowAt_checkStart_iff hundisturbed).mp hstart
    rw [State.counted_request] at hrequest
    exact .inl ⟨hstart, requestAfter_startHeld hrequest⟩
  · refine .inr ⟨hstate, hundisturbed, fun hend => ?_⟩
    obtain ⟨-, -, hserved⟩ := hchannel c
    obtain ⟨sl, hslice, htaken⟩ := Option.map_eq_some_iff.mp (hserved (by rw [hstate]; nofun)).1
    have hrow := State.rowAt_checkEnd hundisturbed hslice (htaken.trans hstate)
      ((State.counted_request s b c).trans hend)
    rw [hkept] at hrow
    cases hrow

/-- A check that is over leaves no channel CHECKING. -/
theorem CheckClose.Over.unchecked (hchannel : s.channelLaw) (hadmits : s.check.Admits c s.channels[c].cond)
    (hover : (s.closing b).Over s.check fun d => (s.disturbed (s.opening b) d).isSome) :
    (s.turnedChannel b c).cond.state ≠ .checking := fun h => by
  rcases State.turnedChannel_checking hchannel h with ⟨-, hheld, hrequest⟩ | ⟨hstate, hundisturbed, hrequest⟩
  · obtain ⟨hinvolved, hs⟩ := hadmits.starting hrequest
    rw [hover.withdrawn hs c hinvolved] at hheld
    cases hheld
  · obtain ⟨hinvolved, hquench, hend⟩ := hadmits.checking hstate
    have ended (hs : s.check.takes) : False :=
      hrequest (requestAfter_ended (hover.ended hs c hinvolved (by rw [hundisturbed]; rfl)) _)
    cases hs : s.check.stage with
    | idle | starting => rw [hs] at hquench; cases hquench
    | pre => exact ended (.inl hs)
    | establish => exact ended (.inr (.inl hs))
    | measure => exact ended (.inr (.inr hs))
    | ending =>
      obtain ⟨hends, hwithdrawn⟩ := hover.kept hs
      rw [hends, hwithdrawn, requestAfter_none] at hrequest
      exact hrequest (hend hs)

section
variable {x : CheckClose} {k : CheckEngine} (h : x.Goes k)
include h

theorem CheckClose.Goes.involved (c : Chan) : x.engine.involved c = k.involved c := by
  rw [CheckEngine.involved, CheckEngine.involved, h.channel, h.companions]

theorem CheckClose.Goes.starting_iff : x.engine.stage = .starting ↔ k.stage = .starting := by
  rcases h.stage with he | ⟨hk, hx⟩
  · rw [he]
  · exact iff_of_false (CheckEngine.takes_stage hx).2.1 (CheckEngine.takes_stage hk).2.1

/-- A check that goes on with channels in CHECKING is not ENDING. -/
theorem CheckClose.Goes.quenching (hq : k.stage.quenching = true) :
    x.engine.stage.quenching = true ∧ x.engine.stage ≠ .ending := by
  rcases h.stage with he | ⟨-, hx⟩
  · rw [he]
    exact ⟨hq, h.unended⟩
  · obtain ⟨hquench, -, hend, -⟩ := CheckEngine.takes_stage hx
    exact ⟨hquench, hend⟩

end

section
variable (hadmits : ∀ c : Chan, s.check.Admits c s.channels[c].cond)
include hadmits

/-- While the check is in STARTING a CHECKING channel is one of it that has taken its start. -/
theorem State.turnedChannel_taken (hchannel : s.channelLaw) (hs : s.check.stage = .starting)
    (h : (s.turnedChannel b c).cond.state = .checking) : s.rowAt b c = .checkStart ∧ s.check.involved c = true := by
  rcases State.turnedChannel_checking hchannel h with ⟨hrow, -, hrequest⟩ | ⟨hstate, -, -⟩
  · exact ⟨hrow, ((hadmits c).starting hrequest).1⟩
  · obtain ⟨-, hquench, -⟩ := (hadmits c).checking hstate
    rw [hs] at hquench
    cases hquench

/-- A check in STARTING that no commit ends enters PRE, or ends with an end held for every start taken (R133). -/
theorem CheckClose.Goes.starts (hchannel : s.channelLaw) (hgoes : (s.closing b).Goes s.check)
    (hs : s.check.stage = .starting) : (s.resolved b).engine.Coherent
      ∧ ∀ c : Chan, (s.turnedChannel b c).cond.state = .checking → (s.resolved b).engine.involved c = true
        ∧ (s.resolved b).engine.stage.quenching = true
        ∧ ((s.resolved b).engine.stage = .ending → (s.turnedChannel b c).cond.request = .endHeld) := by
  have hstage := hgoes.starting_iff.mpr hs
  obtain ⟨hbusy, hdrive⟩ := hgoes.coherent
  rw [CheckEngine.busy, hstage] at hbusy
  rw [hstage] at hdrive
  obtain ⟨d, hd⟩ := Option.isSome_iff_exists.mp hbusy
  have hoff : (s.closing b).engine.drive = none := Option.not_isSome_iff_eq_none.mp (by rw [hdrive]; nofun)
  by_cases hall : ∀ c, (s.closing b).engine.involved c = true → s.rowAt b c = .checkStart
  · have hresolved : s.resolved b = .quiet { (s.closing b).engine with stage := .pre, phaseSlices := 0 } := by
      rw [State.resolved]
      exact CheckEngine.resolveStart_taken hstage hd fun c hc => decide_eq_true (hall c hc)
    rw [hresolved]
    refine ⟨.of_busy (.inr (.inl rfl)) hd hoff, fun c hc => ⟨?_, rfl, nofun⟩⟩
    exact (hgoes.involved c).trans (State.turnedChannel_taken hadmits hchannel hs hc).2
  · obtain ⟨e, he⟩ := not_forall.mp hall
    obtain ⟨hinvolved, hrefused⟩ := Classical.not_imp.mp he
    have hresolved := CheckEngine.resolveStart_refused (taken := fun c => decide (s.rowAt b c = .checkStart))
      (n := (s.opening b).time.runningSecond) hstage hd ⟨e, hinvolved, decide_eq_false hrefused⟩
    have hends : (s.resolved b).ends = (s.closing b).engine.involvedSet fun c => decide (s.rowAt b c = .checkStart) := by
      rw [State.resolved, hresolved]
    have hengine : (s.resolved b).engine = { (s.closing b).engine with
        stage := .ending, sweep := (s.resolved b).engine.sweep, summary := (s.resolved b).engine.summary } := by
      rw [State.resolved, hresolved]
      exact CheckEngine.sweepResult_frame ..
    rw [hengine]
    refine ⟨.of_busy (.inr (.inr rfl)) hd hoff, fun c hc => ?_⟩
    obtain ⟨hrow, htaken⟩ := State.turnedChannel_taken hadmits hchannel hs hc
    have hc' := (hgoes.involved c).trans htaken
    refine ⟨hc', rfl, fun _ => ?_⟩
    rw [State.turnedChannel_cond]
    refine requestAfter_ended ?_ _
    rw [hends, involvedSet_getLsbD, hc', hrow]
    rfl

end

/-- Once the states are decided the engine is in order, and admits every channel: those of a check in STARTING that took
their starts, those of a later one that go on. -/
theorem State.turn_admits (hchannel : s.channelLaw) (h : s.checkLaw) (b : Bool) : (s.resolved b).engine.Coherent
    ∧ ∀ c : Chan, (s.resolved b).engine.Admits c (s.turnedChannel b c).cond := by
  obtain ⟨hcoherent, hadmits⟩ := s.checkLaw_iff.mp h
  have hclosing := CheckEngine.atBoundary_goes_or_over hcoherent (fun c => s.closedSlices[c]) s.router.active
    (s.opening b).router.active (fun c => (s.disturbed (s.opening b) c).isSome) (s.opening b).time.runningSecond
  rw [← State.closing_eq] at hclosing
  suffices hturn : (s.resolved b).engine.Coherent
      ∧ ∀ c : Chan, (s.turnedChannel b c).cond.state = .checking → (s.resolved b).engine.involved c = true
        ∧ (s.resolved b).engine.stage.quenching = true
        ∧ ((s.resolved b).engine.stage = .ending → (s.turnedChannel b c).cond.request = .endHeld) from
    ⟨hturn.1, fun c => ⟨hturn.2 c, fun hr => absurd hr State.turnedChannel_unstarted⟩⟩
  rcases hclosing with hgoes | hover
  · by_cases hs : s.check.stage = .starting
    · exact hgoes.starts hadmits hchannel hs
    · have hquiet := State.resolved_quiet (mt hgoes.starting_iff.mp hs)
      rw [hquiet]
      refine ⟨hgoes.coherent, fun c hc => ?_⟩
      rcases State.turnedChannel_checking hchannel hc with ⟨-, -, hrequest⟩ | ⟨hstate, -, -⟩
      · exact absurd ((hadmits c).starting hrequest).2 hs
      · obtain ⟨hinvolved, hquench, -⟩ := (hadmits c).checking hstate
        obtain ⟨hquench, hend⟩ := hgoes.quenching hquench
        exact ⟨(hgoes.involved c).trans hinvolved, hquench, fun he => absurd he hend⟩
  · have hquiet := State.resolved_quiet (s := s) (b := b) (by rw [hover.idle]; nofun)
    rw [hquiet]
    exact ⟨hover.coherent, fun c hc => absurd hc (hover.unchecked hchannel (hadmits c))⟩

/-! ### The arbiter (R133, R143) -/

/-- Past the arbiter the check in progress stands; an idle engine stays idle, or starts the check of a channel, which with
its companions is handed a start. -/
theorem State.checkLaw.boundary (hchannel : s.channelLaw) (b : Bool) (h : s.checkLaw) : (s.boundary b).checkLaw := by
  obtain ⟨hcoherent, hadmits⟩ := State.turn_admits hchannel h b
  have hcond (c : Chan) : (s.boundary b).channels[c].cond = { (s.turnedChannel b c).cond with
      request := if (s.selection b).starts (s.opening b).router.active c then .startHeld
        else (s.turnedChannel b c).cond.request } := by
    rw [State.boundary_channel, Channel.afterSelection_frame]
  rw [State.checkLaw_iff, State.boundary_check]
  simp only [hcond]
  cases hchosen : (s.selection b).chosen with
  | none =>
    have hunchosen (c : Chan) : (s.selection b).starts (s.opening b).router.active c = false :=
      Selection.starts_none _ hchosen c
    rw [CheckEngine.afterSelection_none _ _ _ hchosen]
    simp only [hunchosen, Bool.false_eq_true, if_false]
    exact ⟨hcoherent.congr, fun c => (hadmits c).congr rfl rfl⟩
  | some p =>
    obtain ⟨c, kind⟩ := p
    have hidle : (s.resolved b).engine.stage = .idle := by
      by_contra hbusy
      rw [State.selection_busy (decide_eq_true hbusy)] at hchosen
      cases hchosen
    rw [CheckEngine.afterSelection_some _ _ _ hchosen]
    refine ⟨.of_busy (.inl rfl) rfl rfl, fun d => ⟨fun hd => absurd hd ((hadmits d).idle hidle), fun hr => ⟨?_, rfl⟩⟩⟩
    dsimp only at hr
    split at hr
    · rename_i hstarts
      rw [CheckEngine.involved, Bool.or_eq_true, decide_eq_true_iff]
      exact ((Selection.starts_some _ hchosen d).mp hstarts).imp (fun e => congrArg some e.symm) id
    · exact absurd hr State.turnedChannel_unstarted

end

/-! ### The step -/

/-- The laws of the channels and of the check together. -/
def State.checkedLaw (s : State) : Prop := s.channelLaw ∧ s.checkLaw

theorem checkedLaw_keptByChecks : KeptByChecks State.checkedLaw where
  congr h e := ⟨h.1.congr e.held, h.2.congr e⟩
  endCheck why h := ⟨h.1.congr (State.endCheck_sameHeld _ why), h.2.endCheck why⟩
  restart s := ⟨s.channelLaw_restart, s.checkLaw_restart⟩
  reset := ⟨State.reset_channelLaw, State.reset_checkLaw⟩
  boundary b h := ⟨h.1.boundary b, h.2.boundary h.1 b⟩

/-- Settles O54: the two laws are kept together, since a boundary reads the states that the closing slices were taken in. -/
theorem checksStayExclusive : Obligations.ChecksStayExclusive := fun _ _ hchannel hcheck hs =>
  (checkedLaw_keptByChecks.step ⟨hchannel, hcheck⟩ hs).2

end Sys2Proof.Machine
end

section
/-! SUPPORT. CHECK START and CHECK ABORT, the sweep they begin and empty, and the expiry of an interval timer; O23 and O42
(R132, R137, R138, R140, R141, R144, R145, R147). -/
namespace Sys2Proof.Machine

/-! ### CHECK START (R144) -/

/-- A channel mask in its two bytes is read back, but for the empty one. -/
theorem checkStartOf_bytes (mask : ChanSet) :
    checkStartOf (beBytes 2 mask.toNat) = if mask = 0 then none else some mask := by
  have hlength : ofLength (beBytes 2 mask.toNat) 2 = some () := ofLength_eq_some.mpr (beBytes_length ..)
  have hfield : field (beBytes 2 mask.toNat) 0 2 = mask.toNat := by
    rw [field_beBytes]
    exact Nat.mod_eq_of_lt mask.isLt
  have hzero : mask.toNat = 0 ↔ mask = 0 :=
    ⟨fun h => BitVec.eq_of_toNat_eq h, fun h => by rw [h]; rfl⟩
  rw [checkStartOf, hlength, hfield]
  change (if mask.toNat = 0 then none else some (BitVec.ofNat 16 mask.toNat)) = _
  simp only [hzero, BitVec.ofNat_toNat, BitVec.setWidth_eq]

/-- A sweep or a check in progress (R131). -/
theorem CheckEngine.busy_or_sweepPending (k : CheckEngine) :
    (k.busy || k.sweepPending) = true ↔ k.stage ≠ .idle ∨ k.sweep ≠ 0 := by
  simp only [CheckEngine.sweepPending, CheckEngine.busy, Bool.or_eq_true, Bool.and_eq_true, decide_eq_true_eq]
  tauto

section
variable {r : Request} {s : State} {mask : ChanSet} (hr : Addressed r s) (hp : r.payload = beBytes 2 mask.toNat)
include hr hp

theorem exec_checkStart_empty (h : mask = 0) :
    exec (.checkStart r) s = .next (s.answer r.write 40 r.tag .badArgument []) :=
  congrArg Host.Outcome.next (State.serve_refused hr (by rw [hp, checkStartOf_bytes, if_pos h]))

variable (hm : s.control.mode ≠ .boot) (h : mask ≠ 0)
include hm h

theorem exec_checkStart_busy (hb : s.check.stage ≠ .idle ∨ s.check.sweep ≠ 0) :
    exec (.checkStart r) s = .next (s.answer r.write 40 r.tag .busy []) :=
  congrArg Host.Outcome.next (State.serve_taken hr hm (by rw [hp, checkStartOf_bytes, if_neg h])
    (if_pos (s.check.busy_or_sweepPending.mpr hb)))

theorem exec_checkStart_taken (hs : s.check.stage = .idle) (hw : s.check.sweep = 0) :
    exec (.checkStart r) s = .next ((s.beginSweep mask).answer r.write 40 r.tag .ok
      (beBytes 2 (sweepOf s.router.active mask).toNat)) :=
  congrArg Host.Outcome.next (State.serve_taken hr hm (by rw [hp, checkStartOf_bytes, if_neg h])
    (if_neg fun hb => (s.check.busy_or_sweepPending.mp hb).elim (absurd hs) (absurd hw)))

end

/-! ### CHECK ABORT (R145) -/

theorem exec_checkAbort {r : Request} {s : State} (hr : Addressed r s) (hm : s.control.mode ≠ .boot) (hp : r.payload = []) :
    exec (.checkAbort r) s = .next (s.abortCheck.answer r.write 41 r.tag .ok
      [BitVec.ofNat 8 (channelCode s.check.abortable), BitVec.ofNat 8 (channelsOf s.check.sweep).length]) := by
  have hread : noPayload r.payload = some () := ofLength_eq_some.mpr (by rw [hp]; rfl)
  refine congrArg Host.Outcome.next (State.serve_taken (a := ()) hr hm hread ?_)
  simp only [beBytes_one]
  rfl

/-- An idle or ending check is no check to abort. -/
theorem CheckEngine.abortable_none {k : CheckEngine} (h : k.stage = .idle ∨ k.stage = .ending) : k.abortable = none := by
  rcases h with h | h <;> simp only [CheckEngine.abortable, h]

theorem CheckEngine.abortable_eq {k : CheckEngine} (h : ¬(k.stage = .idle ∨ k.stage = .ending)) :
    k.abortable = k.channel := by
  cases hs : k.stage with
  | idle => exact absurd (.inl hs) h
  | ending => exact absurd (.inr hs) h
  | _ => simp only [CheckEngine.abortable, hs]

/-- Where there is no check to end an abort empties the sweep alone. -/
theorem State.abortCheck_quiet {s : State} (h : s.check.stage = .idle ∨ s.check.stage = .ending) :
    s.abortCheck = { s with check := { s.check with sweep := 0 } } := by
  rw [State.abortCheck, State.endCheck_quiet h]

/-- A check that an abort ends: what it leaves of the engine, of the channels and of the hub queue (R137, R138). -/
theorem State.abortCheck_ended {s : State} {c : Chan} {x : CheckClose}
    (hx : s.check.endEarly .abort s.time.runningSecond = x) (h : s.check.EndedEarly c .abort s.time.runningSecond x) :
    s.abortCheck = { s with
      check := { x.engine with sweep := 0 }
      channels := Vector.ofFn fun d => s.channels[d].checkStep x d
      trunk := s.trunk.handHubAll s.check.driveOff } := by
  rw [State.abortCheck, State.endCheck_ended hx h]

/-- Into an empty hub queue goes DRIVE OFF, where the drive was on (R132, R166). -/
theorem Trunk.handHubAll_driveOff {t : Trunk} (h : t.hub = []) (k : CheckEngine) :
    (t.handHubAll k.driveOff).hub = k.driveOff := by
  unfold CheckEngine.driveOff
  split
  · simp [Trunk.handHubAll, Trunk.handHub, h]
  · exact h

/-- Settles O23: CHECK START by its tests in order, and CHECK ABORT with no check to end and with one. -/
theorem sweepsStartAndAbort : Obligations.SweepsStartAndAbort := by
  refine ⟨fun r s mask hr hm hp => ⟨exec_checkStart_empty hr hp, exec_checkStart_busy hr hp hm, fun h hs hw => ?_⟩,
    fun r s hr hm hp => ?_⟩
  · exact ⟨_, fun c => chanSetOf_getLsbD _ c, exec_checkStart_taken hr hp hm h hs hw⟩
  · intro count
    have habort := exec_checkAbort hr hm hp
    refine ⟨fun hq => ?_, fun c hc hidle hending => ⟨s.abortCheck, ?_⟩⟩
    · rw [habort, CheckEngine.abortable_none hq, State.abortCheck_quiet hq]
      rfl
    · have hq := not_or.mpr ⟨hidle, hending⟩
      have hended := s.check.endEarly_ended hc hq .abort s.time.runningSecond
      rw [CheckEngine.abortable_eq hq, hc] at habort
      generalize hx : s.check.endEarly .abort s.time.runningSecond = x at hended
      have hchannel (d : Chan) : s.abortCheck.channels[d] = s.channels[d].checkStep x d := by
        rw [State.abortCheck_ended hx hended]
        simp
      refine ⟨habort, ?_⟩
      simp only [hchannel]
      rw [State.abortCheck_ended hx hended]
      exact ⟨rfl, hended.drive, hended.stage, Channel.checkStep_checked hended _,
        fun d hd => Channel.checkStep_involved hended _ hd, fun d hd => Channel.checkStep_uninvolved hended hc _ hd,
        fun hhub => (Trunk.handHubAll_driveOff hhub _).trans s.check.driveOff_eq, rfl, rfl, rfl⟩

/-! ### The interval timer (R140, R141) -/

theorem exec_intervalTimerExpiry_runs {s : State} {c : Chan}
    (h : timerRuns s.control.mode s.router.active.channels[c] = true) : exec (.intervalTimerExpiry c) s =
      .next (if s.channels[c].account.balance = 5 then
          (s.timedOut c).storeEvent 0 (Event.plain s.time.runningSecond .checkOverdue (.channel c))
        else s.timedOut c) := by
  change execIntervalTimerExpiry c s = _
  rw [execIntervalTimerExpiry, if_pos h]
  dsimp only
  rw [State.emit_single, raiseBalance_snd]
  by_cases h5 : s.channels[c].account.balance = 5
  · rw [if_pos h5, if_pos (decide_eq_true h5)]; rfl
  · rw [if_neg h5, if_neg (by simpa using h5)]; rfl

/-- Settles O42: a running timer owes a check, and one that does not run does nothing. -/
theorem intervalTimerExpiryOwesCheck : Obligations.IntervalTimerExpiryOwesCheck := by
  intro s c e a runs owed event
  have howed : owed = s.timedOut c := by rw [State.timedOut, raiseBalance_fst]
  refine ⟨fun h => ?_, fun h => ?_⟩
  · rw [howed]
    exact exec_intervalTimerExpiry_runs ((timerRuns_iff ..).mpr h)
  · exact if_neg (mt (timerRuns_iff ..).mp h)

end Sys2Proof.Machine
end

section
/-! SUPPORT. The lanes: the forward cell windows by the table of R162, the hub cells of the return lane first; O29 (R132,
R162, R166). -/
namespace Sys2Proof.Machine

/-! ### A forward cell window (R162) -/

section
variable {t : Trunk}

theorem Trunk.window_empty (ht : t.through = []) (ho : t.out = []) : t.window = { t with cellOut := none } := by
  simp only [Trunk.window, ht, ho]

/-- A pass-through cell goes where it waits alone, or has the turn. -/
theorem Trunk.window_passThrough {c : Cell} {through : List Cell} (ht : t.through = c :: through)
    (h : t.out = [] ∨ t.turn = .passThrough) :
    t.window = { t with through := through, cellOut := some c, turn := .own } := by
  cases ho : t.out with
  | nil => simp only [Trunk.window, ht, ho]
  | cons d out =>
    have hturn : t.turn = .passThrough := h.resolve_left (by rw [ho]; nofun)
    simp only [Trunk.window, ht, ho, hturn]

/-- A cell of the outgoing queue goes where it waits alone, or has the turn. -/
theorem Trunk.window_own {d : OutCell} {out : List OutCell} (ho : t.out = d :: out) (h : t.through = [] ∨ t.turn = .own) :
    t.window = { t with out := out, cellOut := some d.bytes, turn := .passThrough } := by
  cases ht : t.through with
  | nil => simp only [Trunk.window, ht, ho]
  | cons c through =>
    have hturn : t.turn = .own := h.resolve_left (by rw [ht]; nofun)
    simp only [Trunk.window, ht, ho, hturn]

/-! ### The return lane (R166) -/

theorem Trunk.sendReturn_hub {c : Cell} {rest : List Cell} (h : t.hub = c :: rest) :
    t.sendReturn = { t with hub := rest, returnOut := some c } := by
  simp only [Trunk.sendReturn, h]

theorem Trunk.sendReturn_through {c : Cell} {rest : List Cell} (h : t.hub = []) (hr : t.retThrough = c :: rest) :
    t.sendReturn = { t with retThrough := rest, returnOut := some c } := by
  simp only [Trunk.sendReturn, h, hr]

theorem Trunk.sendReturn_empty (h : t.hub = []) (hr : t.retThrough = []) :
    t.sendReturn = { t with returnOut := none } := by
  simp only [Trunk.sendReturn, h, hr]

end

section
variable (s : State)

theorem exec_forwardCellWindow : exec .forwardCellWindow s = .next { s with trunk := s.trunk.window } := rfl

theorem exec_returnLaneSend : exec .returnLaneSend s = .next { s with trunk := s.trunk.sendReturn } := rfl

theorem State.restart_turn : s.restart.trunk.turn = .passThrough := by
  change (s.trunk.restart s.check.driveOff).turn = _
  rw [Trunk.restart_driveOff]

end

/-- Settles O29: the windows by what waits and whose turn it is, the turn at power-on and RESTART, and the return lane. -/
theorem lanesSendInTurn : Obligations.LanesSendInTurn := by
  refine ⟨⟨fun s => ⟨fun ht ho => ?_, fun c through ht h => ?_, fun c out ho h => ?_, fun cell => rfl⟩, fun n s t h => ?_,
    State.restart_turn⟩, fun s => ⟨fun c rest h => ?_, fun c rest h hr => ?_, fun h hr => ?_⟩, hubCell_eq⟩
  · rw [exec_forwardCellWindow, Trunk.window_empty ht ho]
  · rw [exec_forwardCellWindow, Trunk.window_passThrough ht h]
  · rw [exec_forwardCellWindow, Trunk.window_own ho h]
  · obtain rfl := Host.Outcome.next.inj h
    rfl
  · rw [exec_returnLaneSend, Trunk.sendReturn_hub h]
  · rw [exec_returnLaneSend, Trunk.sendReturn_through h hr]
  · rw [exec_returnLaneSend, Trunk.sendReturn_empty h hr]

end Sys2Proof.Machine
end

section
/-! SUPPORT. The judgment of a check by its table, the faults it raises, and what a manual result does to the sweep and its
summary; O46 (R136, R137, R147). -/
namespace Sys2Proof.Machine

/-! ### The table of R136 -/

section
variable {overload : Bool} {lpre lchk reference tolerance : Nat} {deviation : Int}

/-- Where neither overload, nor background, nor a silent drive decides, the deviation does. -/
theorem judgedCode_measured (ho : overload = false) (ha : ¬reference ≤ lpre + 1000) (hs : ¬lchk < lpre + 1000) :
    judgedCode overload lpre lchk reference tolerance deviation =
      if deviation < -(tolerance : Int) then .low else if (tolerance : Int) < deviation then .high else .pass := by
  have ha' : ¬(reference : Int) - 1000 ≤ lpre := by omega
  have hs' : ¬(lchk : Int) - lpre < 1000 := by omega
  rw [judgedCode, ho, if_neg Bool.false_ne_true, if_neg ha', if_neg hs']

theorem judgedCode_overload (ho : overload = true) :
    judgedCode overload lpre lchk reference tolerance deviation = .overload := if_pos ho

theorem judgedCode_ambient (ho : overload = false) (ha : reference ≤ lpre + 1000) :
    judgedCode overload lpre lchk reference tolerance deviation = .ambient := by
  have ha' : (reference : Int) - 1000 ≤ lpre := by omega
  rw [judgedCode, ho, if_neg Bool.false_ne_true, if_pos ha']

theorem judgedCode_noResponse (ho : overload = false) (ha : ¬reference ≤ lpre + 1000) (hs : lchk < lpre + 1000) :
    judgedCode overload lpre lchk reference tolerance deviation = .noResponse := by
  have ha' : ¬(reference : Int) - 1000 ≤ lpre := by omega
  have hs' : (lchk : Int) - lpre < 1000 := by omega
  rw [judgedCode, ho, if_neg Bool.false_ne_true, if_neg ha', if_pos hs']

/-- The results that carry the response and the deviation are those the deviation decides. -/
theorem judgedCode_measured_iff : (judgedCode overload lpre lchk reference tolerance deviation).measured = true ↔
    overload = false ∧ ¬reference ≤ lpre + 1000 ∧ ¬lchk < lpre + 1000 := by
  cases ho : overload with
  | true => rw [judgedCode_overload rfl]; simp [CheckCode.measured]
  | false =>
    by_cases ha : reference ≤ lpre + 1000
    · rw [judgedCode_ambient rfl ha]; simp [CheckCode.measured, ha]
    · by_cases hs : lchk < lpre + 1000
      · rw [judgedCode_noResponse rfl ha hs]; simp [CheckCode.measured, hs]
      · rw [judgedCode_measured rfl ha hs]
        refine iff_of_true ?_ ⟨rfl, ha, hs⟩
        split_ifs <;> rfl

end

/-! ### The sweep and its summary (R137, R147) -/

theorem CheckEngine.sweepResult_automatic {k : CheckEngine} {c : Chan} {r : CheckRecord} (h : r.kind ≠ .manual) :
    k.sweepResult c r = k := if_neg h

theorem CheckEngine.sweepResult_manual {k : CheckEngine} {c : Chan} {r : CheckRecord} (h : r.kind = .manual) :
    (k.sweepResult c r).summary = r.deviation.elim k.summary k.summary.enter := by
  rw [CheckEngine.sweepResult, if_pos h]
  cases r.deviation <;> rfl

/-- The first deviation since the clearing sets both extremes (log 45). -/
theorem SweepSummary.enter_eq (m : SweepSummary) (d : Int) : m.enter d = { m with
    count := m.count + 1
    minimum := if m.count = 0 then d else min m.minimum d
    maximum := if m.count = 0 then d else max m.maximum d } := by
  unfold SweepSummary.enter
  split
  · rename_i h
    rw [h]
  · rfl

/-- Settles O46: the judgment by the rows of R136, the faults by the code, and the sweep by the kind of the check. -/
theorem checkResultsFollowTheirTables : Obligations.CheckResultsFollowTheirTables := by
  refine ⟨?_, ?_, ?_⟩
  · intro k e second r lpre lchk response deviation overload ambient silent measured
    have hcode : r.code = judgedCode (k.preOverload || k.measureOverload) lpre lchk e.referenceResponse e.tolerance
      deviation := rfl
    have hover : overload ↔ (k.preOverload || k.measureOverload) = true := (Bool.or_eq_true_iff ..).symm
    have hclear (h : ¬overload) : (k.preOverload || k.measureOverload) = false := Bool.eq_false_iff.mpr (mt hover.mpr h)
    have hmeasured : r.code.measured = true ↔ measured := by
      rw [hcode, judgedCode_measured_iff, ← Bool.not_eq_true, ← hover]
    have decided (h : measured) := judgedCode_measured (tolerance := e.tolerance) (deviation := deviation) (hclear h.1)
      h.2.1 h.2.2
    refine ⟨rfl, rfl, rfl, rfl, rfl, fun h => judgedCode_overload (hover.mp h), fun h ha => judgedCode_ambient (hclear h) ha,
      fun h ha hs => judgedCode_noResponse (hclear h) ha hs, fun h hl => ?_, fun h hu => ?_, fun h hl hu => ?_, fun h => ?_,
      fun h => ?_⟩
    · rw [hcode, decided h, if_pos hl]
    · rw [hcode, decided h, if_neg (by omega), if_pos hu]
    · rw [hcode, decided h, if_neg (by omega), if_neg (by omega)]
    · exact ⟨if_pos (hmeasured.mpr h), if_pos (hmeasured.mpr h)⟩
    · exact ⟨if_neg (mt hmeasured.mp h), if_neg (mt hmeasured.mp h)⟩
  · intro c reference r fault
    refine ⟨fun h => ?_, fun h => ?_, fun hlow hhigh hnone => ?_⟩
    · rcases h with h | h <;> (simp only [faultEvents, fault, h]; rfl)
    · simp only [faultEvents, fault, h]; rfl
    · cases h : r.code with
      | low => exact absurd h hlow
      | high => exact absurd h hhigh
      | noResponse => exact absurd h hnone
      | _ => simp only [faultEvents, h]
  · intro k c r t
    refine ⟨CheckEngine.sweepResult_automatic, fun h => ⟨k.sweepResult_frame c r, fun d => ?_, fun hd => ?_, fun d hd => ?_⟩⟩
    · rw [show t = k.sweepResult c r from rfl, CheckEngine.sweepResult_sweep, h]
      simp
    · rw [show t = k.sweepResult c r from rfl, CheckEngine.sweepResult_manual h, hd]
      rfl
    · rw [show t = k.sweepResult c r from rfl, CheckEngine.sweepResult_manual h, hd]
      exact k.summary.enter_eq d

end Sys2Proof.Machine
end

section
/-! SUPPORT. The queues of the Trunk Interface, the Event Queue and the Result Store: what each command leaves of their places
and of the sequence numbers, and O52 (R150, R155, R162, R163, R166). -/
namespace Sys2Proof.Machine

/-! ### Consecutive sequence numbers (R150, R155) -/

/-- The sequence number at each place, counted back from the next one. -/
theorem consecutive_iff {next : Nat} {held : List Nat} : consecutive next held ↔
    next < 65536 ∧ ∀ i (h : i < held.length), held[i] = (next + 65536 - held.length + i) % 65536 := by
  refine and_congr_right fun _ => ⟨fun he i h => ?_, fun hi => ?_⟩
  · rw [List.getElem_of_eq he, List.getElem_map, List.getElem_range]
  · exact List.ext_getElem (by simp) fun i h _ => by simpa using hi i h

section
variable {next : Nat} {held : List Nat} (h : consecutive next held)
include h

/-- A record goes in at the end under the next sequence. -/
theorem consecutive.push (hl : held.length < 65536) : consecutive ((next + 1) % 65536) (held ++ [next]) := by
  obtain ⟨hnext, hheld⟩ := consecutive_iff.mp h
  refine consecutive_iff.mpr ⟨Nat.mod_lt _ (by decide), fun i hi => ?_⟩
  rw [List.length_append, List.length_singleton] at hi ⊢
  rcases Nat.lt_succ_iff_lt_or_eq.mp hi with hi | rfl
  · rw [List.getElem_append_left hi, hheld i hi]
    omega
  · rw [List.getElem_concat_length rfl]
    omega

/-- Records leave at the front. -/
theorem consecutive.drop (hl : held.length ≤ 65536) (k : Nat) : consecutive next (held.drop k) := by
  obtain ⟨hnext, hheld⟩ := consecutive_iff.mp h
  refine consecutive_iff.mpr ⟨hnext, fun i hi => ?_⟩
  rw [List.length_drop] at hi ⊢
  rw [List.getElem_drop, hheld]
  omega

/-- No two records held have the same sequence. -/
theorem consecutive.nodup (hl : held.length ≤ 65536) : held.Nodup := by
  obtain ⟨-, hheld⟩ := consecutive_iff.mp h
  refine List.nodup_iff_injective_getElem.mpr fun i j hij => Fin.ext ?_
  have hi := i.isLt
  have hj := j.isLt
  dsimp only at hij
  rw [hheld i hi, hheld j hj] at hij
  omega

end

/-! ### The places, and what a step leaves of them -/

/-- The queues of the Trunk Interface within their places, some of the outgoing queue's kept free (R162, R163, R166). -/
structure Trunk.Fits (reserve : Nat) (t : Trunk) : Prop where
  out : t.out.length + reserve ≤ 8
  notices : t.notices ≤ 6
  through : t.through.length ≤ 4
  hub : t.hub.length ≤ 2
  retThrough : t.retThrough.length ≤ 2

theorem State.queueLaw_iff (s : State) : s.queueLaw ↔ s.trunk.Fits 0 :=
  ⟨fun ⟨h1, h2, h3, h4, h5⟩ => ⟨h1, h2, h3, h4, h5⟩, fun ⟨h1, h2, h3, h4, h5⟩ => ⟨h1, h2, h3, h4, h5⟩⟩

/-- What leads from one state to another keeps the queues within their places, so many of the outgoing queue's kept free, and
the Event Queue and the Result Store within theirs, their sequence numbers consecutive. -/
structure KeepsBounds (reserve : Nat) (s t : State) : Prop where
  trunk : s.trunk.Fits reserve → t.trunk.Fits reserve
  events : s.eventLaw → t.eventLaw
  results : s.resultLaw → t.resultLaw

theorem KeepsBounds.trans {n : Nat} {s t u : State} (h : KeepsBounds n s t) (k : KeepsBounds n t u) : KeepsBounds n s u :=
  ⟨k.trunk ∘ h.trunk, k.events ∘ h.events, k.results ∘ h.results⟩

/-- Where the records stand and the Trunk Interface keeps its places. -/
theorem KeepsBounds.of_trunk {n : Nat} {s t : State} (ht : s.trunk.Fits n → t.trunk.Fits n) (he : t.events = s.events)
    (hr : t.results = s.results) : KeepsBounds n s t :=
  ⟨ht, fun h => by rwa [State.eventLaw, he], fun h => by rwa [State.resultLaw, hr]⟩

theorem KeepsBounds.of_eq {n : Nat} {s t : State} (ht : t.trunk = s.trunk) (he : t.events = s.events)
    (hr : t.results = s.results) : KeepsBounds n s t := .of_trunk (fun h => ht ▸ h) he hr

theorem KeepsBounds.refl (n : Nat) (s : State) : KeepsBounds n s s := .of_eq rfl rfl rfl

/-- The same however many places are kept free: it adds no cell to the outgoing queue. -/
def KeepsEveryPlace (s t : State) : Prop := ∀ n, KeepsBounds n s t

/-! ### The Trunk Interface (R162, R163, R166) -/

theorem Trunk.noticeRoom_iff (t : Trunk) (n : Nat) :
    t.noticeRoom n = true ↔ t.out.length + n < 8 ∧ t.out.countP (·.notice) < 6 := by
  rw [Trunk.noticeRoom, Bool.and_eq_true, decide_eq_true_eq, decide_eq_true_eq, Trunk.notices]

section
variable {n : Nat} {t : Trunk} (h : t.Fits n)
include h

/-- The places are those of the queues alone. -/
theorem Trunk.Fits.congr {u : Trunk} (ho : u.out = t.out) (ht : u.through = t.through) (hh : u.hub = t.hub)
    (hr : u.retThrough = t.retThrough) : u.Fits n := by
  obtain ⟨h1, h2, h3, h4, h5⟩ := h
  exact ⟨ho ▸ h1, by rwa [Trunk.notices, ho], ht ▸ h3, hh ▸ h4, hr ▸ h5⟩

/-- An answer takes the place kept for it. -/
theorem Trunk.Fits.enter {c : OutCell} {discard : Bool} {fault : Option CellFault} (hc : c.notice = false) {m : Nat}
    (hm : m < n) : ({ t with out := t.out ++ [c], lastFault := fault, discard := discard } : Trunk).Fits m :=
  { h with
    out := by have := h.out; simp only [List.length_append, List.length_singleton]; omega
    notices := by simpa [Trunk.notices, hc] using h.notices }

/-- A notice enters where the kept places stay free and fewer than 6 notices wait. -/
theorem Trunk.Fits.notice {c : OutCell} {discard : Bool} (hroom : t.noticeRoom n = true) :
    ({ t with out := t.out ++ [c], discard := discard } : Trunk).Fits n := by
  obtain ⟨hout, hnotices⟩ := (t.noticeRoom_iff n).mp hroom
  refine { h with out := ?_, notices := ?_ }
  · simp only [List.length_append, List.length_singleton]; omega
  · simp only [Trunk.notices, List.countP_append, List.countP_singleton]
    split <;> omega

/-- A third hub cell sends the oldest. -/
theorem Trunk.Fits.handHub (cell : Cell) : (t.handHub cell).Fits n := by
  have hhub := h.hub
  unfold Trunk.handHub
  split
  · rename_i he
    rw [he] at hhub
    exact { h with hub := by simpa using hhub }
  · rename_i hfew
    refine { h with hub := ?_ }
    rcases hl : t.hub with _ | ⟨a, _ | ⟨b, rest⟩⟩
    · simp
    · simp
    · exact absurd hl (hfew a b rest)

theorem Trunk.Fits.handHubAll (cells : List Cell) : (t.handHubAll cells).Fits n := by
  induction cells generalizing t with
  | nil => exact h
  | cons cell rest ih => exact ih (h.handHub cell)

theorem Trunk.Fits.forwardUp (cell : Cell) : (t.forwardUp cell).Fits n := by
  unfold Trunk.forwardUp
  split
  · exact { h with retThrough := by rwa [List.length_append] }
  · exact h.congr rfl rfl rfl rfl

theorem Trunk.Fits.passThrough (cell : Cell) : (t.passThrough cell).Fits n := by
  unfold Trunk.passThrough
  split
  · exact { h with through := by rwa [List.length_append] }
  · exact h.congr rfl rfl rfl rfl

/-- A forward cell window sends the head of one of two queues, or nothing. -/
theorem Trunk.Fits.window : t.window.Fits n := by
  have hthrough {c : Cell} {rest : List Cell} (e : t.through = c :: rest) : rest.length ≤ 4 :=
    (Nat.le_succ _).trans (by simpa [e] using h.through)
  have hout {c : OutCell} {rest : List OutCell} (e : t.out = c :: rest) :
      rest.length + n ≤ 8 ∧ rest.countP (·.notice) ≤ 6 := by
    obtain ⟨hlength, hnotices, -, -, -⟩ := h
    rw [e] at hlength
    rw [Trunk.notices, e, List.countP_cons] at hnotices
    rw [List.length_cons] at hlength
    omega
  unfold Trunk.window
  split
  case h_1 => exact h.congr rfl rfl rfl rfl
  case h_2 e _ => exact { h with through := hthrough e }
  case h_3 e => exact { h with out := (hout e).1, notices := (hout e).2 }
  case h_4 e₁ e₂ =>
    split
    · exact { h with through := hthrough e₁ }
    · exact { h with out := (hout e₂).1, notices := (hout e₂).2 }

/-- The return lane sends the head of one of two queues, or nothing. -/
theorem Trunk.Fits.sendReturn : t.sendReturn.Fits n := by
  have hhub := h.hub
  have hret := h.retThrough
  unfold Trunk.sendReturn
  split
  case h_1 e => exact { h with hub := by rw [e] at hhub; exact (Nat.le_succ _).trans hhub }
  case h_2 e => exact { h with retThrough := by rw [e] at hret; exact (Nat.le_succ _).trans hret }
  case h_3 => exact h.congr rfl rfl rfl rfl

/-- A RESTART empties the queues, and hands over DRIVE OFF (R186). -/
theorem Trunk.Fits.restart (cells : List Cell) : (t.restart cells).Fits n :=
  Trunk.Fits.handHubAll { h with
    out := by have := h.out; simp only [List.length_nil]; omega
    notices := Nat.zero_le _, through := Nat.zero_le _, hub := Nat.zero_le _, retThrough := Nat.zero_le _ } cells

end

/-! ### Records stored (R150, R155) -/

theorem raiseNewest_sequence (l : List EventRecord) : (raiseNewest l).map (·.sequence) = l.map (·.sequence) := by
  fun_induction raiseNewest l <;> simp_all

/-- An event enters a queue with a place under the next sequence; a full one keeps its records. -/
theorem State.eventLaw.storeEvent {s : State} (h : s.eventLaw) (n : Nat) (e : Event) : (s.storeEvent n e).eventLaw := by
  obtain ⟨hlength, hsequences⟩ := h
  rw [State.eventLaw, State.storeEvent_events]
  split
  · rename_i hroom
    refine ⟨by simpa using hroom, ?_⟩
    rw [List.map_append]
    exact hsequences.push (by rw [List.length_map]; omega)
  · dsimp only
    have hkept := raiseNewest_sequence s.events.queue
    refine ⟨?_, hkept ▸ hsequences⟩
    rwa [← List.length_map (·.sequence), hkept, List.length_map]

/-- The newest 511 results stay, and one is entered behind them under the next sequence. -/
theorem ResultStore.enter_eq (st : ResultStore) (r : WindowResult) : st.enter r =
    { ring := st.ring.drop (st.ring.length - 511) ++ [{ r with sequence := st.next }], next := (st.next + 1) % 65536 } := by
  unfold ResultStore.enter
  split
  · rfl
  · rw [show st.ring.length - 511 = 0 by omega, List.drop_zero]

theorem State.resultLaw.storeResult {s : State} (h : s.resultLaw) (n : Nat) (r : WindowResult) :
    (s.storeResult n r).resultLaw := by
  obtain ⟨hlength, hsequences⟩ := h
  rw [State.resultLaw, State.storeResult_results, ResultStore.enter_eq]
  refine ⟨by rw [List.length_append, List.length_drop, List.length_singleton]; omega, ?_⟩
  rw [List.map_append, List.map_drop]
  refine (hsequences.drop ?_ _).push ?_
  · rw [List.length_map]; omega
  · rw [List.length_drop, List.length_map]; omega

/-- The oldest event leaves (R156). -/
theorem State.eventLaw.dropEvent {s : State} (h : s.eventLaw) : s.dropEvent.eventLaw := by
  obtain ⟨hlength, hsequences⟩ := h
  refine ⟨?_, ?_⟩
  · exact (by rw [List.length_tail]; omega : s.events.queue.tail.length ≤ 64)
  · change consecutive s.events.next (s.events.queue.tail.map _)
    rw [← List.drop_one, List.map_drop]
    exact hsequences.drop (by rw [List.length_map]; omega) 1

/-! ### Records handed over -/

theorem State.notify_keepsBounds (s : State) (n : Nat) (code : Byte) (p : List Byte) :
    KeepsBounds n s (s.notify n code p) := by
  refine .of_trunk (fun h => ?_) (by simp) (by simp)
  rcases s.notify_cases n code p with ⟨hroom, he⟩ | ⟨-, he⟩ <;> rw [he]
  · exact h.notice hroom
  · exact h

theorem State.storeEvent_keepsBounds (s : State) (n : Nat) (e : Event) : KeepsBounds n s (s.storeEvent n e) where
  trunk h := by
    unfold State.storeEvent
    dsimp only
    split
    · exact (State.notify_keepsBounds ..).trunk h
    · exact h
  events h := h.storeEvent n e
  results h := by rwa [State.resultLaw, State.storeEvent_results]

theorem State.storeResult_keepsBounds (s : State) (n : Nat) (r : WindowResult) : KeepsBounds n s (s.storeResult n r) where
  trunk h := (State.notify_keepsBounds ..).trunk h
  events h := by rwa [State.eventLaw, State.storeResult_events]
  results h := h.storeResult n r

theorem State.emitAll_keepsBounds (s : State) (n : Nat) (l : List Emission) : KeepsBounds n s (s.emitAll n l) := by
  induction l generalizing s with
  | nil => exact .refl n s
  | cons e l ih =>
    refine KeepsBounds.trans ?_ (ih (State.emitOne n s e))
    cases e with
    | event x => exact s.storeEvent_keepsBounds n x
    | result r => exact s.storeResult_keepsBounds n r
    | exceeded g x => exact s.storeEvent_keepsBounds n _

/-- Handing over records keeps the places that are kept free for an answer. -/
theorem State.emit_keepsBounds (s : State) (n : Nat) (l : Chains) : KeepsBounds n s (s.emit n l) := by
  obtain ⟨es, k, h⟩ := s.emit_cases n l
  rw [h]
  exact (s.emitAll_keepsBounds n es).trans (.of_eq rfl rfl rfl)

/-! ### Requests -/

/-- A command may add no cell but its answer, for which the request has found a place: its rule leaves free what was free
(R163). -/
theorem State.serve_keepsBounds {s : State} {code : Byte} {w b : Bool} {r : Request} {rule : State → Reply}
    (h : KeepsEveryPlace s (rule s).state) : KeepsBounds 0 s (s.serve code w b r rule) := by
  have handed (n : Nat) : KeepsBounds n s ((rule s).state.emit n (rule s).chains) := (h n).trans (State.emit_keepsBounds ..)
  unfold State.serve
  split
  · split
    · exact handed 0
    · exact .refl 0 s
  · split
    · rename_i hroom
      have hroom : s.trunk.out.length < 8 := of_decide_eq_true hroom
      exact ⟨fun hs => ((handed 1).trunk { hs with out := hroom }).enter rfl Nat.one_pos, (handed 1).events,
        (handed 1).results⟩
    · exact .of_trunk (fun hs => hs.congr rfl rfl rfl rfl) rfl rfl

theorem State.restart_keepsEveryPlace (s : State) : KeepsEveryPlace s s.restart := fun _ =>
  ⟨fun h => h.restart s.check.driveOff, fun _ => State.reset_eventLaw, fun _ => State.reset_resultLaw⟩

theorem State.dropEvent_keepsEveryPlace (s : State) : KeepsEveryPlace s s.dropEvent := fun _ =>
  ⟨id, fun h => h.dropEvent, id⟩

theorem State.endCheck_keepsBounds (s : State) (n : Nat) (why : CheckReason) : KeepsBounds n s (s.endCheck why) := by
  refine .of_trunk (fun h => ?_) (by simp) (by simp)
  unfold State.endCheck
  dsimp only
  split
  · exact h
  · exact h.handHubAll _

/-- Every request keeps the bounds: RESTART, CHECK ABORT and EVENT TAKE alone touch a queue or a store before their records
and their answer (R145, R156, R186). -/
theorem serveCode_keepsBounds (code : Byte) (r : Request) (s : State) : KeepsBounds 0 s (serveCode code r s) := by
  have same {t : State} (ht : t.trunk = s.trunk) (he : t.events = s.events) (hr : t.results = s.results) :
      KeepsEveryPlace s t := fun _ => .of_eq ht he hr
  have stands : KeepsEveryPlace s s := fun n => .refl n s
  unfold Machine.serveCode
  split
  case h_1 => exact State.serve_keepsBounds stands
  case h_2 | h_3 => exact State.serve_keepsBounds (takeAlways_state stands fun _ _ => stands)
  case h_4 | h_6 | h_8 =>
    refine State.serve_keepsBounds (takeOutsideBoot_state stands fun _ _ _ => ?_)
    split_ifs <;> exact same rfl rfl rfl
  case h_5 =>
    refine State.serve_keepsBounds (takeAlways_state stands fun _ _ => ?_)
    split_ifs <;> exact same rfl rfl rfl
  case h_7 =>
    refine State.serve_keepsBounds (takeOutsideBoot_state stands fun _ _ _ => ?_)
    split_ifs
    · exact stands
    · exact s.restart_keepsEveryPlace
  case h_9 | h_10 | h_13 | h_14 =>
    split
    · exact State.serve_keepsBounds (takeOutsideBoot_state stands fun _ _ _ => same rfl rfl rfl)
    · exact State.serve_keepsBounds (takeOutsideBoot_state stands fun _ _ _ => by split <;> exact stands)
  case h_11 | h_15 | h_16 | h_19 =>
    refine State.serve_keepsBounds (takeOutsideBoot_state stands fun _ _ _ => ?_)
    split
    · exact stands
    · split <;> exact same rfl rfl rfl
  case h_12 =>
    split
    · refine State.serve_keepsBounds (takeAlways_state stands fun _ _ => ?_)
      split_ifs <;> exact same rfl rfl rfl
    · exact State.serve_keepsBounds (takeOutsideBoot_state stands fun _ _ _ => stands)
  case h_17 | h_18 | h_20 =>
    exact State.serve_keepsBounds (takeOutsideBoot_state stands fun _ _ _ => by split <;> exact same rfl rfl rfl)
  case h_21 =>
    exact State.serve_keepsBounds (takeOutsideBoot_state stands fun _ _ _ n =>
      (s.endCheck_keepsBounds n .abort).trans (.of_eq rfl rfl rfl))
  case h_22 | h_23 | h_24 | h_25 =>
    exact State.serve_keepsBounds (takeOutsideBoot_state stands fun _ _ _ => stands)
  case h_26 => exact State.serve_keepsBounds (takeAlways_state stands fun _ _ => by split <;> exact stands)
  case h_27 =>
    refine State.serve_keepsBounds (takeAlways_state stands fun _ _ => ?_)
    split
    · exact stands
    · exact s.dropEvent_keepsEveryPlace

/-! ### Boundaries, frame periods and the link -/

/-- A boundary hands over hub cells and then its records. -/
theorem State.boundary_keepsBounds (s : State) (b : Bool) : KeepsBounds 0 s (s.boundary b) := by
  have hturned : KeepsBounds 0 s (s.turnOver (Config.order s.choices) b).1 :=
    .of_trunk (fun h => h.handHubAll _) rfl rfl
  have hstarted : KeepsBounds 0 s (s.started b) := by
    unfold State.started
    dsimp only
    split
    · exact hturned.trans (.of_eq rfl rfl rfl)
    · exact hturned
  rw [State.boundary_eq]
  refine (hstarted.trans (.of_eq ?_ ?_ ?_)).trans ((State.emitAll_keepsBounds _ 0 _).trans (.of_eq rfl rfl rfl))
  all_goals rfl

theorem State.advance_keepsBounds (s : State) : KeepsBounds 0 s s.advance := by
  unfold State.advance
  dsimp only
  split
  · exact .of_eq rfl rfl rfl
  · refine KeepsBounds.trans ?_ (State.boundary_keepsBounds ..)
    exact .of_eq rfl rfl rfl

theorem State.loseLink_keepsBounds (s : State) : KeepsBounds 0 s s.loseLink := by
  unfold State.loseLink
  refine KeepsBounds.trans (KeepsBounds.trans ?_ (State.endCheck_keepsBounds _ 0 .link)) (State.emit_keepsBounds ..)
  exact .of_eq rfl rfl rfl

theorem State.regainLink_keepsBounds (s : State) : KeepsBounds 0 s s.regainLink := by
  unfold State.regainLink
  refine KeepsBounds.trans ?_ (State.emit_keepsBounds ..)
  exact .of_eq rfl rfl rfl

theorem State.countRuns_keepsBounds (s : State) (good : Bool) : KeepsBounds 0 s (s.countRuns good) := by
  unfold State.countRuns
  dsimp only
  split_ifs
  · exact s.loseLink_keepsBounds.trans (.of_eq rfl rfl rfl)
  · refine KeepsBounds.trans ?_ (State.regainLink_keepsBounds _)
    exact .of_eq rfl rfl rfl
  · exact .of_eq rfl rfl rfl

/-- What is sent on Trunk Out waits in no queue (R160). -/
theorem State.carryGood_keepsBounds (s : State) (f : Frame) : KeepsBounds 0 s (s.carryGood f) := by
  refine .of_trunk (fun h => ?_) (by simp) (by simp)
  simp only [State.carryGood, State.routeSamples]
  exact h.congr rfl rfl rfl rfl

theorem State.carryBad_keepsBounds (s : State) (f : Frame) : KeepsBounds 0 s (s.carryBad f) :=
  .of_trunk (fun h => h.congr rfl rfl rfl rfl) rfl rfl

theorem State.carryNone_keepsBounds (s : State) : KeepsBounds 0 s s.carryNone :=
  .of_trunk (fun h => h.congr rfl rfl rfl rfl) rfl rfl

/-! ### The boot image, and cells -/

theorem State.endLoad_keepsBounds (s : State) (m : MemoryRead) : KeepsBounds 0 s (s.endLoad m) := by
  unfold State.endLoad
  dsimp only
  split
  · exact .of_eq rfl rfl rfl
  · split <;> exact .of_eq rfl rfl rfl

/-- A faulted or dropped cell enters no queue (R164, R165). -/
theorem State.spoil_keepsBounds (s : State) (bytes : List Byte) (f : CellFault) : KeepsBounds 0 s (s.spoil bytes f) := by
  unfold State.spoil
  split
  · exact .refl 0 s
  · split
    · exact .of_trunk (fun h => h.congr rfl rfl rfl rfl) rfl rfl
    · exact .of_trunk (fun h => h.congr rfl rfl rfl rfl) rfl rfl
    · exact .refl 0 s

theorem State.withParser_keepsBounds (s : State) (p : Parser) : KeepsBounds 0 s (s.withParser p) :=
  .of_trunk (fun h => h.congr rfl rfl rfl rfl) rfl rfl

theorem State.takeCell_keepsBounds (s : State) (cell : Cell) : KeepsBounds 0 s (s.takeCell cell) := by
  have hup : KeepsBounds 0 s { s with trunk := s.trunk.forwardUp cell } := .of_trunk (fun h => h.forwardUp cell) rfl rfl
  unfold State.takeCell
  dsimp only
  split
  · split
    · exact serveCode_keepsBounds ..
    · exact .of_trunk (fun h => h.congr rfl rfl rfl rfl) rfl rfl
  · split
    · exact hup.trans (serveCode_keepsBounds ..)
    · exact hup.trans (.of_trunk (fun h => h.congr rfl rfl rfl rfl) rfl rfl)
  · exact hup

theorem State.receiveCell_keepsBounds (s : State) (bytes : List Byte) : KeepsBounds 0 s (s.receiveCell bytes) := by
  obtain ⟨u, hu, hr⟩ := s.receiveCell_cases bytes
  have hfirst : KeepsBounds 0 s u := by
    rcases hu with rfl | ⟨arrived, rfl⟩
    · exact .refl 0 u
    · exact s.spoil_keepsBounds _ _
  rcases hr with hr | ⟨p, hr⟩ | ⟨cell, hr⟩ <;> rw [hr]
  · exact (hfirst.trans (u.spoil_keepsBounds _ _)).trans (State.withParser_keepsBounds ..)
  · exact hfirst.trans (u.withParser_keepsBounds p)
  · exact (hfirst.trans (u.withParser_keepsBounds _)).trans (State.takeCell_keepsBounds ..)

/-! ### The step -/

/-- Every command keeps the bounds. -/
theorem exec_keepsBounds {i : Instr} {s t : State} (hi : exec i s = .next t) : KeepsBounds 0 s t := by
  cases hc : codedRequest i with
  | some x =>
    rw [exec_coded hc] at hi
    obtain rfl := Host.Outcome.next.inj hi
    exact serveCode_keepsBounds ..
  | none =>
    cases i with
    | powerOn n =>
      obtain rfl := Host.Outcome.next.inj hi
      exact ⟨fun _ => (State.queueLaw_iff _).mp State.reset_queueLaw, fun _ => State.reset_eventLaw,
        fun _ => State.reset_resultLaw⟩
    | bootLoadEnd m =>
      change execBootLoadEnd m s = _ at hi
      unfold execBootLoadEnd at hi
      split at hi <;> obtain rfl := Host.Outcome.next.inj hi
      · exact s.endLoad_keepsBounds m
      · exact .refl 0 s
    | sampleFrame f =>
      obtain rfl := Host.Outcome.next.inj hi
      have hcounted := s.advance_keepsBounds.trans (s.advance.countRuns_keepsBounds (goodFrame f))
      refine hcounted.trans ?_
      split
      · exact State.carryGood_keepsBounds ..
      · exact State.carryBad_keepsBounds ..
    | framePeriod =>
      obtain rfl := Host.Outcome.next.inj hi
      exact (s.advance_keepsBounds.trans (s.advance.countRuns_keepsBounds false)).trans (State.carryNone_keepsBounds _)
    | linkLoss =>
      change execLinkLoss s = _ at hi
      unfold execLinkLoss at hi
      split at hi <;> obtain rfl := Host.Outcome.next.inj hi
      · exact s.loseLink_keepsBounds
      · exact .refl 0 s
    | linkRestoration =>
      change execLinkRestoration s = _ at hi
      unfold execLinkRestoration at hi
      split at hi <;> obtain rfl := Host.Outcome.next.inj hi
      · exact s.regainLink_keepsBounds
      · exact .refl 0 s
    | sliceBoundary =>
      obtain rfl := Host.Outcome.next.inj hi
      exact (s.boundary_keepsBounds _).trans (.of_eq rfl rfl rfl)
    | secondBoundary =>
      change execSecondBoundary s = _ at hi
      unfold execSecondBoundary at hi
      split at hi <;> obtain rfl := Host.Outcome.next.inj hi
      · exact .of_eq rfl rfl rfl
      · exact s.boundary_keepsBounds true
    | intervalTimerExpiry c =>
      change execIntervalTimerExpiry c s = _ at hi
      unfold execIntervalTimerExpiry at hi
      split at hi <;> obtain rfl := Host.Outcome.next.inj hi
      · refine KeepsBounds.trans ?_ (State.emit_keepsBounds ..)
        exact .of_eq rfl rfl rfl
      · exact .refl 0 s
    | controlCell bytes => obtain rfl := Host.Outcome.next.inj hi; exact s.receiveCell_keepsBounds bytes
    | cellTimeout arrived mark =>
      obtain rfl := Host.Outcome.next.inj hi
      exact (s.spoil_keepsBounds _ _).trans (State.withParser_keepsBounds ..)
    | cellLengthFault arrived =>
      obtain rfl := Host.Outcome.next.inj hi
      exact (s.spoil_keepsBounds _ _).trans (State.withParser_keepsBounds ..)
    | passThroughCell cell => obtain rfl := Host.Outcome.next.inj hi; exact .of_trunk (fun h => h.passThrough cell) rfl rfl
    | forwardCellWindow => obtain rfl := Host.Outcome.next.inj hi; exact .of_trunk (fun h => h.window) rfl rfl
    | returnLaneSend => obtain rfl := Host.Outcome.next.inj hi; exact .of_trunk (fun h => h.sendReturn) rfl rfl
    | _ => cases hc

/-- Every step keeps the bounds: a command does, and an idle step changes nothing. -/
theorem step_keepsBounds {s t : State} (h : step s = .next t) : KeepsBounds 0 s t := by
  unfold step at h
  split at h
  · obtain rfl := Host.Outcome.next.inj h
    exact .refl 0 s
  · rename_i rest _
    exact KeepsBounds.trans (t := { s with pending := rest }) (.of_eq rfl rfl rfl) (exec_keepsBounds h)

/-- Settles O52: a step keeps the places of every queue and store, and the sequence numbers consecutive. -/
theorem queuesAndStoresKeepTheirBounds : Obligations.QueuesAndStoresKeepTheirBounds := by
  refine ⟨fun s t hs h => ?_, fun s t he hr h => ⟨(step_keepsBounds h).events he, (step_keepsBounds h).results hr⟩⟩
  rw [State.queueLaw_iff] at hs ⊢
  exact (step_keepsBounds h).trunk hs

end Sys2Proof.Machine
end

section
/-! SUPPORT. Records laid out field by field, RESULT READ and EVENT TAKE, and what stores an event; O25 and O26 (R149 to R151,
R153 to R156, R170, R176 to R178). -/
namespace Sys2Proof.Machine

/-! ### Fields laid end to end (R170) -/

section
variable {p : List Byte} {fields : List (List Byte)} {widths : List Nat} (hp : p = fields.flatten)
  (hw : fields.map List.length = widths)
include hp hw

/-- A field of a record is read off at the sum of the widths before it. -/
theorem part_of_fields (i : Nat) {bytes : List Byte} (h : fields[i]? = some bytes) :
    (p.drop (widths.take i).sum).take (widths[i]?.getD 0) = bytes := by
  obtain ⟨hi, rfl⟩ := List.getElem?_eq_some_iff.mp h
  have hsplit : p = (fields.take i).flatten ++ (fields[i] ++ (fields.drop (i + 1)).flatten) := by
    rw [hp, ← List.flatten_cons, ← List.flatten_append, ← List.drop_eq_getElem_cons hi, List.take_append_drop]
  have hwidth : widths[i]?.getD 0 = fields[i].length := by
    rw [← hw, List.getElem?_map, h]
    rfl
  rw [hsplit, hwidth, ← hw, ← List.map_take, List.drop_left' List.length_flatten, List.take_left]

/-- A record has the width of all its fields. -/
theorem length_of_fields : p.length = widths.sum := by
  rw [hp, List.length_flatten, hw]

end

/-- Codes that number the values of a list from `k` on. -/
theorem code_of_listed {α : Type} {l : List α} {code : α → Nat} {k : Nat} (hl : l.map code = List.range' k l.length)
    {n : Nat} {a : α} (h : l[n]? = some a) : code a = k + n := by
  obtain ⟨hn, rfl⟩ := List.getElem?_eq_some_iff.mp h
  have hcode := congrArg (·[n]?) hl
  simpa [List.getElem?_range' hn, hn] using hcode

/-! ### Result records (R149, R177) -/

/-- The fields of a result record in their order. -/
def resultFields (x : WindowResult) : List (List Byte) :=
  [beBytes 2 x.sequence, beBytes 1 x.group, beBytes 1 x.period, beBytes 1 x.day, beBytes 3 x.start, beBytes 3 x.expected,
    beBytes 3 x.data, beBytes 3 x.excluded, levelBytes x.leq, levelBytes x.l90, levelBytes x.site, levelBytes x.penalty,
    levelBytes x.rated, levelBytes x.limit, beBytes 1 (windowOutcomeCode x.outcome), levelBytes x.maxLevel,
    levelBytes x.maxPeak, beBytes 3 x.onsets, beBytes 3 x.overload, flagBytes 2 x.flags.list, beBytes 1 x.lockLevel]

theorem resultBytes_eq (x : WindowResult) : resultBytes x = (resultFields x).flatten := by
  unfold resultBytes resultFields
  simp only [List.flatten_cons, List.flatten_nil, List.append_nil, List.append_assoc]

theorem resultFields_widths (x : WindowResult) : (resultFields x).map List.length =
    [2, 1, 1, 1, 3, 3, 3, 3, 2, 2, 2, 2, 2, 2, 1, 2, 2, 3, 3, 2, 1] := by
  simp [resultFields]

/-- The flags as bits 0 to 9. -/
theorem flagBytes_windowFlags (f : WindowFlags) : flagBytes 2 f.list =
    beBytes 2 (f.lateStart.toNat + 2 * f.short.toNat + 4 * f.truncated.toNat + 8 * f.membership.toNat
        + 16 * f.suspect.toNat + 32 * f.maxExcluded.toNat + 64 * f.noBackground.toNat + 128 * f.trim.toNat
        + 256 * f.holdOver.toNat + 512 * f.underrange.toNat) := by
  refine congrArg (beBytes 2) ?_
  simp only [WindowFlags.list, List.reverse_cons, List.reverse_nil, List.nil_append, List.cons_append, List.foldl_cons,
    List.foldl_nil]
  ring

theorem windowOutcomes_numbered :
    [WindowOutcome.excluded, .unregulated, .insufficient, .indeterminate, .exceeded, .compliant].map windowOutcomeCode
      = List.range' 0 6 := rfl

/-! ### RESULT READ (R151) -/

theorem resultReadOf_beBytes {n : Nat} (h : n < 65536) : resultReadOf (beBytes 2 n) = some n := by
  simpa [resultReadOf, ofLength, field_beBytes] using h

theorem resultReadOf_misfit {p : List Byte} (h : p.length ≠ 2) : resultReadOf p = none := by
  simp [resultReadOf, ofLength, h]

/-- At most one record held has a sequence: the search finds it. -/
theorem State.resultLaw.find_sequence {s : State} (h : s.resultLaw) {x : WindowResult} (hx : x ∈ s.results.ring) :
    s.results.ring.find? (fun r => decide (r.sequence = x.sequence)) = some x := by
  obtain ⟨hlength, hsequences⟩ := h
  have hnodup := hsequences.nodup (by rw [List.length_map]; omega)
  have hsome : (s.results.ring.find? fun r => decide (r.sequence = x.sequence)).isSome = true :=
    List.find?_isSome.mpr ⟨x, hx, decide_eq_true rfl⟩
  obtain ⟨y, hy⟩ := Option.isSome_iff_exists.mp hsome
  have hsame : y.sequence = x.sequence := by simpa using List.find?_some hy
  rw [hy, List.inj_on_of_nodup_map hnodup (List.mem_of_find?_eq_some hy) hx hsame]

section
variable {r : Request} {s : State} (hr : Addressed r s)
include hr

/-- RESULT READ of a sequence held, and of one not held: nothing else happens. -/
theorem exec_resultRead_held {n : Nat} (hn : n < 65536) (hp : r.payload = beBytes 2 n) {x : WindowResult}
    (h : s.results.ring.find? (fun y => decide (y.sequence = n)) = some x) :
    exec (.resultRead r) s = .next (s.answer r.write 60 r.tag .ok (resultBytes x)) :=
  congrArg Host.Outcome.next (State.serve_plain hr ((takeAlways_some (hp ▸ resultReadOf_beBytes hn)).trans (by rw [h])))

theorem exec_resultRead_absent {n : Nat} (hn : n < 65536) (hp : r.payload = beBytes 2 n)
    (h : ∀ x ∈ s.results.ring, x.sequence ≠ n) :
    exec (.resultRead r) s = .next (s.answer r.write 60 r.tag .notAvailable
      (beOption 3 (s.results.ring.head?.map (·.sequence)) ++ beOption 3 (s.results.ring.getLast?.map (·.sequence)))) := by
  have hfind : s.results.ring.find? (fun y => decide (y.sequence = n)) = none :=
    List.find?_eq_none.mpr fun y hy => by simpa using h y hy
  exact congrArg Host.Outcome.next
    (State.serve_plain hr ((takeAlways_some (hp ▸ resultReadOf_beBytes hn)).trans (by rw [hfind])))

end

/-- Settles O25: the record of a sequence is the one the search finds, and its bytes are its fields laid end to end. -/
theorem resultReadFindsSequence : Obligations.ResultReadFindsSequence := by
  refine ⟨fun r s => ⟨fun hb => ?_, fun hr hp => ?_⟩, fun r s n hr hlaw hn hp => ⟨fun x hx hseq => ?_, fun hempty => ?_,
    fun oldest newest hold hnew hnone => ?_⟩, fun x => ?_⟩
  · exact congrArg Host.Outcome.next (State.serve_ignored _ _ _ _ _ hb)
  · exact congrArg Host.Outcome.next (State.serve_plain hr (takeAlways_none (resultReadOf_misfit hp)))
  · subst hseq
    exact exec_resultRead_held hr hn hp (hlaw.find_sequence hx)
  · rw [exec_resultRead_absent hr hn hp (by simp [hempty]), hempty]
    rfl
  · rw [exec_resultRead_absent hr hn hp hnone, hold, hnew]
    rfl
  · intro part level f
    have hlevel (l : Option Level) : levelBytes l = level l := by cases l <;> rfl
    have hpart := part_of_fields (resultBytes_eq x) (resultFields_widths x)
    simp only [← hlevel, ← beBytes_one]
    refine ⟨length_of_fields (resultBytes_eq x) (resultFields_widths x), hpart 0 rfl, hpart 1 rfl, hpart 2 rfl, hpart 3 rfl,
      hpart 4 rfl, hpart 5 rfl, hpart 6 rfl, hpart 7 rfl, hpart 8 rfl, hpart 9 rfl, hpart 10 rfl, hpart 11 rfl, hpart 12 rfl,
      hpart 13 rfl, fun n hn => ?_, hpart 15 rfl, hpart 16 rfl, hpart 17 rfl, hpart 18 rfl,
      (hpart 19 rfl).trans (flagBytes_windowFlags f), hpart 20 rfl⟩
    rw [← Nat.zero_add n, ← code_of_listed windowOutcomes_numbered hn]
    exact hpart 14 rfl

end Sys2Proof.Machine
end

section
/-! SUPPORT. Events stored, lost, taken, and their records in bytes; O26 (R153 to R156, R170, R176, R178; log 33). -/
namespace Sys2Proof.Machine

/-! ### Events stored and taken (R155, R156) -/

theorem raiseNewest_append (front : List EventRecord) (x : EventRecord) :
    raiseNewest (front ++ [x]) = front ++ [{ x with lostAfter := min 255 (x.lostAfter + 1) }] := by
  induction front with
  | nil => rfl
  | cons y front ih => cases front <;> simp_all [raiseNewest]

theorem noPayload_nil {p : List Byte} (h : p = []) : noPayload p = some () := ofLength_eq_some.mpr (by rw [h]; rfl)

/-- EVENT TAKE of an empty queue changes nothing; of another it removes the oldest record and answers it. -/
theorem eventTakeRule_empty {p : List Byte} {s : State} (hp : p = []) (h : s.events.queue = []) :
    eventTakeRule p s = .plain s .empty [] := by
  rw [eventTakeRule, takeAlways_some (noPayload_nil hp), h]

theorem eventTakeRule_cons {p : List Byte} {s : State} {e : EventRecord} {rest : List EventRecord} (hp : p = [])
    (h : s.events.queue = e :: rest) :
    eventTakeRule p s = .plain { s with events := { s.events with queue := rest } } .ok (eventBytes e) := by
  rw [eventTakeRule, takeAlways_some (noPayload_nil hp), State.dropEvent, h]
  rfl

/-! ### Event records (R153, R178) -/

/-- The fields of an event record in their order. -/
def eventFields (x : EventRecord) : List (List Byte) :=
  [beBytes 2 x.sequence, secondBytes x.event.second, beBytes 1 (eventKindCode x.event.kind),
    beBytes 1 (subjectByte x.event.subject), levelBytes x.event.level, levelBytes x.event.limit,
    beOption 1 (x.event.period.map (·.val)),
    flagBytes 1 [x.event.detail.isSome, x.event.discarded, x.event.manual, x.event.startUp],
    beOption 1 (x.event.value.map kindValueCode), beSignedOption 3 x.event.detail, beBytes 1 x.lostAfter]

theorem eventBytes_eq (x : EventRecord) : eventBytes x = (eventFields x).flatten := by
  unfold eventBytes eventFields
  simp only [List.flatten_cons, List.flatten_nil, List.append_nil, List.append_assoc]

theorem eventFields_widths (x : EventRecord) : (eventFields x).map List.length = [2, 4, 1, 1, 2, 2, 1, 1, 1, 3, 1] := by
  simp [eventFields, secondBytes]

theorem eventKinds_numbered :
    [EventKind.alertOn, .alertOff, .lmax, .peak, .windowExceeded, .signalAbsent, .signalRestored, .checkFault,
      .checkOverdue, .linkLost, .linkRestored, .scheduleChanged, .mapChanged, .lock, .clockSet, .clockTrim].map eventKindCode
      = List.range' 1 16 := rfl

/-- The marks of an event as bits 0 to 3 (R153). -/
theorem flagBytes_marks (detail discarded manual startUp : Bool) : flagBytes 1 [detail, discarded, manual, startUp] =
    [BitVec.ofNat 8 (detail.toNat + 2 * discarded.toNat + 4 * manual.toNat + 8 * startUp.toNat)] := by
  rw [flagBytes, beBytes_one]
  refine congrArg (fun n => [BitVec.ofNat 8 n]) ?_
  simp only [List.reverse_cons, List.reverse_nil, List.nil_append, List.cons_append, List.foldl_cons, List.foldl_nil]
  ring

/-- Settles O26: a full queue raises the lost-after count of its last record, EVENT TAKE removes its first, and the bytes of a
record are its fields laid end to end. -/
theorem eventQueueStoresAndTakes : Obligations.EventQueueStoresAndTakes := by
  refine ⟨fun s n e hroom => ?_, fun s n e front x hqueue hfull => ?_, fun r s => ⟨fun hb => ?_, fun hb hout => ?_⟩,
    fun r s hr hp => ⟨fun hempty => ?_, fun e rest hqueue => ?_⟩, fun x => ?_⟩
  · rw [State.storeEvent_events, if_pos hroom]
  · rw [State.storeEvent, if_neg (by omega), hqueue, raiseNewest_append]
  · exact congrArg Host.Outcome.next (State.serve_ignored _ _ _ _ _ hb)
  · exact congrArg Host.Outcome.next (State.serve_overrun _ _ _ _ _ _ hb hout)
  · exact congrArg Host.Outcome.next (State.serve_plain hr (eventTakeRule_empty hp hempty))
  · exact congrArg Host.Outcome.next (State.serve_plain hr (eventTakeRule_cons hp hqueue))
  · intro e part level
    have hlevel (l : Option Level) : levelBytes l = level l := by cases l <;> rfl
    have hpart := part_of_fields (eventBytes_eq x) (eventFields_widths x)
    simp only [← hlevel]
    refine ⟨length_of_fields (eventBytes_eq x) (eventFields_widths x), hpart 0 rfl, hpart 1 rfl, fun n hn => ?_,
      (hpart 3 rfl).trans ?_, hpart 4 rfl, hpart 5 rfl, (hpart 6 rfl).trans ?_, (hpart 7 rfl).trans (flagBytes_marks ..),
      (hpart 8 rfl).trans ?_, (hpart 9 rfl).trans ?_, (hpart 10 rfl).trans (beBytes_one _)⟩
    · rw [← beBytes_one, Nat.add_comm, ← code_of_listed eventKinds_numbered hn]
      exact hpart 2 rfl
    · rw [beBytes_one]
      cases x.event.subject <;> rfl
    · rw [beOption, beBytes_one]
      cases x.event.period <;> rfl
    · rw [beOption, beBytes_one]
      rcases x.event.value with _ | code | mode | bank
      · rfl
      · cases code <;> rfl
      · cases mode <;> rfl
      · cases bank <;> rfl
    · cases x.event.detail <;> rfl

end Sys2Proof.Machine
end

section
/-! SUPPORT. The status header, and the cells that answers and notices enter; O6 (R150, R152, R155, R157, R163, R165, R167,
R168, R172, R173). -/
namespace Sys2Proof.Machine

/-! ### The status header (R26, R173) -/

theorem weightingDefault_eq (coefs : Vector CoefSection 6) :
    weightingDefault coefs = decide (∃ i : Fin 6, coefs[i].written = false) := by
  have h : weightingDefault coefs = true ↔ ∃ i : Fin 6, coefs[i].written = false := by
    rw [weightingDefault, Bool.not_eq_true', List.all_eq_false]
    constructor
    · rintro ⟨c, hc, hw⟩
      obtain ⟨i, hi, rfl⟩ := Vector.mem_iff_getElem.mp (Vector.mem_toList_iff.mp hc)
      exact ⟨⟨i, hi⟩, Bool.eq_false_iff.mpr hw⟩
    · rintro ⟨i, hi⟩
      exact ⟨coefs[i], Vector.mem_toList_iff.mpr (Vector.getElem_mem _), by rw [hi]; exact Bool.false_ne_true⟩
  rw [Bool.eq_iff_iff, h, decide_eq_true_eq]

section
variable (s : State)

theorem headerByte0_toNat (h : s.control.lock ≤ 2) : (headerByte0 s).toNat =
    64 * modeCode s.control.mode + 32 * s.time.clockSet.toNat + 16 * linkCode s.time.link + 4 * s.control.lock := by
  have hmode : modeCode s.control.mode ≤ 2 := by cases s.control.mode <;> decide
  have hlink : linkCode s.time.link ≤ 1 := by cases s.time.link <;> decide
  have hclock := s.time.clockSet.toNat_le
  rw [headerByte0, BitVec.toNat_ofNat]
  omega

theorem headerByte1_toNat (fault : Option CellFault) : (headerByte1 s fault).toNat =
    32 * cellFaultCode fault + (16 * s.check.busy.toNat + 8 * s.check.sweepPending.toNat + 4 * s.trunk.discard.toNat
      + 2 * s.control.bootDefault.toNat + (weightingDefault s.coefs).toNat) := by
  have hfault : cellFaultCode fault ≤ 4 := by
    rcases fault with _ | f
    · decide
    · cases f <;> decide
  have h4 := s.check.busy.toNat_le
  have h3 := s.check.sweepPending.toNat_le
  have h2 := s.trunk.discard.toNat_le
  have h1 := s.control.bootDefault.toNat_le
  have h0 := (weightingDefault s.coefs).toNat_le
  rw [headerByte1, BitVec.toNat_ofNat]
  omega

/-! ### Notices (R150, R152, R155, R157, R163) -/

variable (reserve : Nat) (code : Byte) (p : List Byte)

theorem State.notify_refused (h : ¬(s.trunk.out.length + reserve < 8 ∧ s.trunk.out.countP (·.notice) < 6)) :
    s.notify reserve code p = s := by
  rcases s.notify_cases reserve code p with ⟨hroom, -⟩ | ⟨-, he⟩
  · exact absurd ((Trunk.noticeRoom_iff ..).mp hroom) h
  · exact he

theorem State.notify_entered (h : s.trunk.out.length + reserve < 8 ∧ s.trunk.out.countP (·.notice) < 6) :
    s.notify reserve code p = { s with trunk := { s.trunk with
      out := s.trunk.out ++ [{ notice := true, bytes := outBytes s.control.node false code 0 .ok (statusHeader s none) p }]
      discard := false } } := by
  rcases s.notify_cases reserve code p with ⟨-, he⟩ | ⟨hroom, -⟩
  · exact he
  · exact absurd ((Trunk.noticeRoom_iff ..).mpr h) (Bool.eq_false_iff.mp hroom)

end

/-- Settles O6: an answer and a notice carry the same header but for the fault, and the stores offer their records as
payloads. -/
theorem answersAndNoticesCarryHeader : Obligations.AnswersAndNoticesCarryHeader := by
  refine ⟨fun s p hlock hevents hp => ?_, fun s reserve e hroom => ?_, fun s reserve r => ?_⟩
  · refine ⟨headerByte0 s, BitVec.ofNat 8 s.events.queue.length, ?_⟩
    intro mode fault flags cell
    have hmode : modeCode s.control.mode = mode := by simp only [mode]; cases s.control.mode <;> rfl
    have hlink : linkCode s.time.link = (decide (s.time.link = .holdOver)).toNat := by cases s.time.link <;> rfl
    have hfault : cellFaultCode s.trunk.lastFault = fault := by
      simp only [fault]
      rcases s.trunk.lastFault with _ | f
      · rfl
      · cases f <;> rfl
    have hbyte1 (f : Option CellFault) : (headerByte1 s f).toNat = 32 * cellFaultCode f + flags := by
      rw [headerByte1_toNat, weightingDefault_eq]
      rfl
    refine ⟨?_, ?_, fun w code tag k => ⟨headerByte1 s s.trunk.lastFault, ?_, rfl⟩,
      fun reserve code => ⟨s.notify_refused reserve code p, fun h => ?_⟩⟩
    · rw [headerByte0_toNat s hlock, hmode, hlink]
    · rw [BitVec.toNat_ofNat]
      omega
    · rw [hbyte1, hfault]
    · refine ⟨headerByte1 s none, ?_, s.notify_entered reserve code p h⟩
      rw [hbyte1, cellFaultCode, Nat.mul_zero, Nat.zero_add]
  · exact if_pos hroom
  · rw [State.storeResult, ResultStore.enter_eq, beBytes_one, beBytes_one]
    rfl

end Sys2Proof.Machine
end

section
/-! SUPPORT. A request by its command: the one rule each command serves it by, what that rule tests first, and what it leaves
of the waiting commands and cells; O7 and O8 (R163, R165, R167, R175, R180). -/
namespace Sys2Proof.Machine

/-! ### The rule of each command (R174, R180) -/

/-- The rule a command's request is served by; the write flag tells its form. -/
def commandRule (k : Command) (r : Request) : State → Reply :=
  match k with
  | .identify => identifyRule r.payload
  | .status => statusRule r.payload
  | .setMode => setModeRule r.payload
  | .setTime => setTimeRule r.payload
  | .trimTime => trimTimeRule r.payload
  | .restart => restartRule r.payload
  | .lock => lockRule r.payload
  | .mapChannel => if r.write then mapChannelWriteRule r.payload else mapChannelReadRule r.payload
  | .mapGroup => if r.write then mapGroupWriteRule r.payload else mapGroupReadRule r.payload
  | .mapCommit => mapCommitRule r.payload
  | .coefSection => if r.write then coefWriteRule r.payload else coefReadRule r.payload
  | .periodEntry => if r.write then periodWriteRule r.payload else periodReadRule r.payload
  | .groupLimit => if r.write then limitWriteRule r.payload else limitReadRule r.payload
  | .scheduleCommit => scheduleCommitRule r.payload
  | .excludeAdd => excludeAddRule r.payload
  | .excludeEnd => excludeEndRule r.payload
  | .excludeClear => excludeClearRule r.payload
  | .excludeRead => excludeReadRule r.payload
  | .checkStart => checkStartRule r.payload
  | .checkAbort => checkAbortRule r.payload
  | .checkRead => checkReadRule r.payload
  | .checkSummary => checkSummaryRule r.payload
  | .levelRead => levelReadRule r.payload
  | .statsRead => statsReadRule r.payload
  | .resultRead => resultReadRule r.payload
  | .eventTake => eventTakeRule r.payload

/-- The commands that are acted on when broadcast (R180). -/
def Command.broadcastable (k : Command) : Bool := decide (k = .setTime ∨ k = .trimTime ∨ k = .excludeAdd)

theorem commandOf_code (k : Command) : commandOf (commandCode k) = some k := by cases k <;> rfl

/-- A request under a command's code is served by that command's rule, and answered with the code and the write flag it
came with. -/
theorem serveCode_eq_serve {code : Byte} {k : Command} (h : commandOf code = some k) (r : Request) (s : State) :
    serveCode code r s = s.serve (commandCode k) r.write k.broadcastable r (commandRule k r) := by
  unfold serveCode
  rw [h]
  cases k
  case mapChannel | mapGroup | coefSection | periodEntry | groupLimit =>
    cases hw : r.write <;> simp [hw, commandRule] <;> rfl
  all_goals rfl

theorem serveCode_unknown {code : Byte} (h : commandOf code = none) (r : Request) (s : State) :
    serveCode code r s = serveUnknown code r s := by
  unfold serveCode
  rw [h]

/-- The row of a command runs as the request under the command's code. -/
theorem exec_rowOf_eq_serveCode (k : Command) (r : Request) (s : State) :
    exec (rowOf r k) s = .next (serveCode (commandCode k) r s) := by
  have written (w : Bool) (hw : r.write = w) : { r with write := w } = r := by rw [← hw]
  apply exec_coded
  cases k
  case mapChannel | mapGroup | coefSection | periodEntry =>
    simp only [rowOf]
    split <;> simp_all [codedRequest, commandCode]
  case groupLimit =>
    simp only [rowOf]
    split_ifs <;> simp_all [codedRequest, commandCode]
  all_goals rfl

theorem exec_rowOf (k : Command) (r : Request) (s : State) :
    exec (rowOf r k) s = .next (s.serve (commandCode k) r.write k.broadcastable r (commandRule k r)) := by
  rw [exec_rowOf_eq_serveCode, serveCode_eq_serve (commandOf_code k)]

/-! ### What a rule tests first (R175, R180) -/

/-- A rule tests its operands first, and then, where BOOT does not take its command, the mode. -/
structure Reply.Gated (x : Reply) (s : State) (read inBoot : Bool) : Prop where
  unread : read = false → x = .plain s .badArgument []
  refused : read = true → inBoot = false → s.control.mode = .boot → x = .plain s .wrongMode [0]

theorem takeAlways_gated {α : Type} (s : State) (operands : Option α) (rule : α → Reply) :
    (takeAlways s operands rule).Gated s operands.isSome true where
  unread h := takeAlways_none (Option.isSome_eq_false_iff.mp h |> Option.isNone_iff_eq_none.mp)
  refused _ h := absurd h (by decide)

theorem takeOutsideBoot_gated {α : Type} (s : State) (operands : Option α) (rule : α → Reply) :
    (takeOutsideBoot s operands rule).Gated s operands.isSome false where
  unread h := takeOutsideBoot_none (Option.isSome_eq_false_iff.mp h |> Option.isNone_iff_eq_none.mp)
  refused h _ hm := by
    obtain ⟨a, ha⟩ := Option.isSome_iff_exists.mp h
    exact takeOutsideBoot_boot hm ha

/-- A COEF SECTION write is taken in CONFIG alone, so not in BOOT (R23). -/
theorem coefWriteRule_gated (p : List Byte) (s : State) : (coefWriteRule p s).Gated s (coefWriteOf p).isSome false where
  unread h := (takeAlways_gated ..).unread h
  refused h _ hm := by
    obtain ⟨a, ha⟩ := Option.isSome_iff_exists.mp h
    rw [coefWriteRule_read ha, if_pos (by rw [hm]; decide)]

/-- The commands that BOOT takes (R180). -/
def Command.inBoot (k : Command) : Bool :=
  decide (k = .identify ∨ k = .status ∨ k = .setTime ∨ k = .resultRead ∨ k = .eventTake)

/-- Every rule tests the operands of its command's form first. -/
theorem commandRule_gated (k : Command) (r : Request) (s : State) :
    (commandRule k r s).Gated s (readable k r s.time.runningSecond) k.inBoot := by
  cases k
  case identify | status | setTime | resultRead | eventTake => exact takeAlways_gated ..
  case mapChannel | mapGroup | periodEntry | groupLimit =>
    simp only [commandRule, readable]
    split <;> exact takeOutsideBoot_gated ..
  case coefSection =>
    simp only [commandRule, readable]
    split
    · exact coefWriteRule_gated ..
    · exact takeOutsideBoot_gated ..
  all_goals exact takeOutsideBoot_gated ..

/-! ### The lengths of payloads (R175) -/

/-- The lengths of payload that the forms of a command have; a STATUS may leave its part out (R175, R182). -/
def payloadLengths : Command → Bool → List Nat
  | .identify, _ | .restart, _ | .checkAbort, _ | .checkSummary, _ | .eventTake, _ => [0]
  | .status, _ => [0, 1]
  | .setMode, _ | .trimTime, _ | .lock, _ | .mapCommit, _ | .scheduleCommit, _ | .excludeEnd, _ | .excludeClear, _
  | .excludeRead, _ | .checkRead, _ | .levelRead, _ | .statsRead, _ => [1]
  | .setTime, _ => [4]
  | .checkStart, _ | .resultRead, _ => [2]
  | .excludeAdd, _ => [10]
  | .mapChannel, w => if w then [24] else [2]
  | .mapGroup, w => if w then [12] else [2]
  | .coefSection, w => if w then [22] else [2]
  | .periodEntry, w => if w then [9] else [2]
  | .groupLimit, w => if w then [16] else [4]

/-- A reader that first asks for a length reads no payload of another. -/
theorem length_of_read {α : Type} {p : List Byte} {n : Nat} {f : Unit → Option α}
    (h : (ofLength p n >>= f).isSome = true) : p.length = n := by
  by_contra hn
  simp [ofLength, hn] at h

theorem length_of_noPayload {p : List Byte} (h : (noPayload p).isSome = true) : p.length = 0 := by
  obtain ⟨u, hu⟩ := Option.isSome_iff_exists.mp h
  exact ofLength_eq_some.mp hu

theorem length_of_statusPart {p : List Byte} (h : (statusPartOf p).isSome = true) : p.length ∈ [0, 1] := by
  unfold statusPartOf at h
  split at h
  · rename_i h0
    simp [h0]
  · simp [length_of_read h]

/-- Only a payload of a length that its form has can be read. -/
theorem length_of_readable {k : Command} {r : Request} {now : Nat} (h : readable k r now = true) :
    r.payload.length ∈ payloadLengths k r.write := by
  cases k
  case identify | restart | checkAbort | checkSummary | eventTake => exact List.mem_singleton.mpr (length_of_noPayload h)
  case status => exact length_of_statusPart h
  case mapChannel | mapGroup | coefSection | periodEntry | groupLimit =>
    simp only [readable] at h
    simp only [payloadLengths]
    split at h <;> rename_i hw <;> simp only [hw, if_true] <;> exact List.mem_singleton.mpr (length_of_read h)
  case excludeAdd =>
    obtain ⟨x, hx⟩ := Option.isSome_iff_exists.mp h
    obtain ⟨q, hq, -⟩ := Option.bind_eq_some_iff.mp hx
    exact List.mem_singleton.mpr (length_of_read (Option.isSome_iff_exists.mpr ⟨q, hq⟩))
  all_goals exact List.mem_singleton.mpr (length_of_read h)

/-- Settles O8: the length first, then the other tests of the operands, then the mode. -/
theorem argumentsThenModeAreTested : Obligations.ArgumentsThenModeAreTested := by
  unfold Obligations.ArgumentsThenModeAreTested
  intro lengths k r s hr read
  have hlengths : lengths k r.write = payloadLengths k r.write := by cases k <;> rfl
  obtain ⟨hunread, hrefused⟩ := commandRule_gated k r s
  rw [exec_rowOf]
  refine ⟨fun hl => ?_, fun h => congrArg _ (State.serve_plain hr (hunread h)), fun h hm h1 h2 h3 h4 h5 => ?_⟩
  · rw [hlengths] at hl
    exact Bool.eq_false_iff.mpr fun h => hl (length_of_readable h)
  · have hboot : k.inBoot = false := by simp [Command.inBoot, h1, h2, h3, h4, h5]
    exact congrArg _ (State.serve_plain hr (hrefused h hboot hm))

/-! ### What a rule leaves of the waiting commands and cells -/

/-- Two states with the same waiting commands, the same cells in the outgoing queue and the same last cell fault. -/
structure SameWaiting (s t : State) : Prop where
  pending : t.pending = s.pending
  out : t.trunk.out = s.trunk.out
  lastFault : t.trunk.lastFault = s.trunk.lastFault

theorem SameWaiting.of_trunk {s t : State} (hp : t.pending = s.pending) (ht : t.trunk = s.trunk) : SameWaiting s t :=
  ⟨hp, congrArg _ ht, congrArg _ ht⟩

/-- Hub cells wait in a queue of their own. -/
theorem Trunk.handHubAll_outgoing (t : Trunk) (cells : List Cell) :
    (t.handHubAll cells).out = t.out ∧ (t.handHubAll cells).lastFault = t.lastFault := by
  unfold Trunk.handHubAll
  induction cells generalizing t with
  | nil => exact ⟨rfl, rfl⟩
  | cons cell rest ih =>
    rw [List.foldl_cons, (ih _).1, (ih _).2]
    unfold Trunk.handHub
    split <;> exact ⟨rfl, rfl⟩

theorem State.endCheck_sameWaiting (s : State) (why : CheckReason) : SameWaiting s (s.endCheck why) := by
  refine ⟨s.endCheck_pending why, ?_, ?_⟩ <;> unfold State.endCheck <;> dsimp only <;> split
  · rfl
  · exact (Trunk.handHubAll_outgoing ..).1
  · rfl
  · exact (Trunk.handHubAll_outgoing ..).2

/-- Every rule but RESTART's leaves the waiting commands and cells; CHECK ABORT's hands over a hub cell at most. -/
theorem commandRule_sameWaiting {k : Command} (hk : k ≠ .restart) (r : Request) (s : State) :
    SameWaiting s (commandRule k r s).state := by
  have stands : SameWaiting s s := ⟨rfl, rfl, rfl⟩
  cases k
  case restart => exact absurd rfl hk
  case identify | status => exact takeAlways_state stands fun _ _ => stands
  case setMode | trimTime | lock =>
    refine takeOutsideBoot_state stands fun _ _ _ => ?_
    split_ifs <;> exact .of_trunk rfl rfl
  case setTime =>
    refine takeAlways_state stands fun _ _ => ?_
    split_ifs <;> exact .of_trunk rfl rfl
  case mapChannel | mapGroup | periodEntry | groupLimit =>
    simp only [commandRule]
    split
    · exact takeOutsideBoot_state stands fun _ _ _ => .of_trunk rfl rfl
    · exact takeOutsideBoot_state stands fun _ _ _ => by split <;> exact stands
  case coefSection =>
    simp only [commandRule]
    split
    · refine takeAlways_state stands fun _ _ => ?_
      split_ifs <;> exact .of_trunk rfl rfl
    · exact takeOutsideBoot_state stands fun _ _ _ => stands
  case mapCommit | scheduleCommit | excludeAdd | excludeRead =>
    refine takeOutsideBoot_state stands fun _ _ _ => ?_
    split
    · exact stands
    · split <;> exact .of_trunk rfl rfl
  case excludeEnd | excludeClear | checkStart =>
    exact takeOutsideBoot_state stands fun _ _ _ => by split <;> exact .of_trunk rfl rfl
  case checkAbort =>
    refine takeOutsideBoot_state stands fun _ _ _ => ?_
    obtain ⟨hp, ho, hf⟩ := s.endCheck_sameWaiting .abort
    exact ⟨hp, ho, hf⟩
  case checkRead | checkSummary | levelRead | statsRead => exact takeOutsideBoot_state stands fun _ _ _ => stands
  case resultRead | eventTake => exact takeAlways_state stands fun _ _ => by split <;> exact .of_trunk rfl rfl

/-! ### What records handed over leave of the answers (R163, R165) -/

/-- The answers that wait, and the last cell fault, are the same: only notices have come. -/
structure SameAnswers (s t : State) : Prop where
  answers : t.trunk.out.filter (!·.notice) = s.trunk.out.filter (!·.notice)
  lastFault : t.trunk.lastFault = s.trunk.lastFault

theorem SameAnswers.trans {s t u : State} (h : SameAnswers s t) (k : SameAnswers t u) : SameAnswers s u :=
  ⟨k.answers.trans h.answers, k.lastFault.trans h.lastFault⟩

theorem SameAnswers.of_trunk {s t : State} (h : t.trunk = s.trunk) : SameAnswers s t := by
  constructor <;> rw [h]

theorem SameWaiting.answers {s t : State} (h : SameWaiting s t) : SameAnswers s t := ⟨by rw [h.out], h.lastFault⟩

theorem State.notify_sameAnswers (s : State) (n : Nat) (code : Byte) (p : List Byte) :
    SameAnswers s (s.notify n code p) := by
  rcases s.notify_cases n code p with ⟨-, h⟩ | ⟨-, h⟩ <;> rw [h]
  · exact ⟨by simp, rfl⟩
  · exact ⟨rfl, rfl⟩

theorem State.storeEvent_sameAnswers (s : State) (n : Nat) (e : Event) : SameAnswers s (s.storeEvent n e) := by
  unfold State.storeEvent
  dsimp only
  split
  · refine SameAnswers.trans ?_ (State.notify_sameAnswers ..)
    exact .of_trunk rfl
  · exact .of_trunk rfl

theorem State.storeResult_sameAnswers (s : State) (n : Nat) (r : WindowResult) : SameAnswers s (s.storeResult n r) := by
  refine SameAnswers.trans ?_ (State.notify_sameAnswers ..)
  exact .of_trunk rfl

theorem State.emitAll_sameAnswers (n : Nat) (l : List Emission) (s : State) : SameAnswers s (s.emitAll n l) := by
  induction l generalizing s with
  | nil => exact .of_trunk rfl
  | cons e l ih =>
    refine SameAnswers.trans ?_ (ih (State.emitOne n s e))
    cases e with
    | event x => exact s.storeEvent_sameAnswers n x
    | result r => exact s.storeResult_sameAnswers n r
    | exceeded g x => exact s.storeEvent_sameAnswers n _

theorem State.emit_sameAnswers (s : State) (n : Nat) (l : Chains) : SameAnswers s (s.emit n l) := by
  obtain ⟨es, k, h⟩ := s.emit_cases n l
  rw [h]
  exact (State.emitAll_sameAnswers n es s).trans (.of_trunk rfl)

theorem State.answer_out (s : State) (w : Bool) (code tag : Byte) (k : ResultCode) (p : List Byte) :
    (s.answer w code tag k p).trunk.out = s.trunk.out ++ [{
      notice := false, bytes := outBytes s.control.node w code tag k (statusHeader s s.trunk.lastFault) p }] := rfl

/-- An addressed request's answer is formed last, by the node number the part has throughout; what it enters behind are the
answers its rule left, and notices. -/
theorem exec_rowOf_answered {r : Request} {s : State} (hr : Addressed r s) (k : Command) :
    ∃ u code head payload,
      exec (rowOf r k) s = .next (u.answer r.write (commandCode k) r.tag code payload)
      ∧ SameAnswers (commandRule k r s).state u
      ∧ (u.answer r.write (commandCode k) r.tag code payload).trunk.out = u.trunk.out ++
          [{ notice := false, bytes := outBytes s.control.node r.write (commandCode k) r.tag code head payload }] := by
  have hexec := (exec_rowOf k r s).trans (congrArg _ (s.serve_addressed _ _ _ _ _ hr.1 hr.2))
  have hnode := serveCode_node (commandCode k) r s
  rw [serveCode_eq_serve (commandOf_code k), s.serve_addressed _ _ _ _ _ hr.1 hr.2, State.answer_control] at hnode
  have hkept := (commandRule k r s).state.emit_sameAnswers 1 (commandRule k r s).chains
  generalize (commandRule k r s).state.emit 1 (commandRule k r s).chains = u at *
  exact ⟨u, _, statusHeader u u.trunk.lastFault, _, hexec, hkept, by rw [State.answer_out, hnode]⟩

/-- Settles O7: the refusals of a request that is broadcast or finds no place, and its one answer otherwise. -/
theorem requestsAreAnsweredOnce : Obligations.RequestsAreAnsweredOnce := by
  refine ⟨?_, fun code r s hcode => ⟨fun hb => ?_, fun hr => ?_⟩⟩
  · intro k r s acted
    refine ⟨fun hb ha => ?_, fun hb ha => ?_, fun hb ho => ?_, fun hr => ?_⟩
    · have hk : k.broadcastable = false := decide_eq_false ha
      rw [exec_rowOf, hk, s.serve_ignored _ _ _ _ hb]
    · have hk : k.broadcastable = true := decide_eq_true ha
      have hrestart : k ≠ .restart := by rintro rfl; exact absurd hk (by decide)
      obtain ⟨hanswers, hfault⟩ := (commandRule_sameWaiting hrestart r s).answers.trans (State.emit_sameAnswers _ 0 _)
      rw [exec_rowOf, hk, s.serve_broadcast _ _ _ _ hb]
      exact ⟨_, rfl, hanswers, hfault⟩
    · rw [exec_rowOf, s.serve_overrun _ _ _ _ _ hb ho]
      rfl
    · obtain ⟨u, code, head, payload, hexec, hkept, hout⟩ := exec_rowOf_answered hr k
      exact ⟨_, u.trunk.out, code, head, payload, hexec, hout,
        fun hk => ((commandRule_sameWaiting hk r s).answers.trans hkept).answers, rfl, rfl⟩
  · exact congrArg _ ((serveCode_unknown hcode r s).trans (s.serve_ignored _ _ _ _ hb))
  · exact congrArg _ ((serveCode_unknown hcode r s).trans (State.serve_plain hr rfl))

end Sys2Proof.Machine
end

section
/-! SUPPORT. Cells on the Trunk Out return lane: whose a cell is by its node field, a whole cell taken, forwarded upward or
faulted, and a cell that ends early; O27 and O28 (R164, R165, R172, R174, R180; log 50, 55). -/
namespace Sys2Proof.Machine

/-! ### A cell that ends before its last byte (R164, R165) -/

/-- The fault is held where the cell is this node's or broadcast. -/
theorem State.spoil_cons (s : State) (b : Byte) (rest : List Byte) (f : CellFault) : s.spoil (b :: rest) f =
    { s with trunk := { s.trunk with
      lastFault := if b.toNat % 8 = s.control.node.val ∨ b.toNat % 8 = 7 then some f else s.trunk.lastFault } } := by
  unfold State.spoil State.addressee nodeField
  dsimp only
  by_cases hthis : b.toNat % 8 = s.control.node.val
  · rw [if_pos hthis, if_pos (.inl hthis)]
    rfl
  · rw [if_neg hthis]
    by_cases heveryone : b.toNat % 8 = 7
    · rw [if_pos heveryone, if_pos (.inr heveryone)]
      rfl
    · rw [if_neg heveryone, if_neg (by rintro (h | h) <;> contradiction)]

/-! ### The bytes of a whole cell (R172) -/

/-- The first byte of a cell: the write flag and the node field. -/
def firstByte (node : Nat) (write : Bool) : Byte := BitVec.ofNat 8 (128 * write.toNat + node)

/-- The bytes of a cell that its check byte covers. -/
def cellBody (node : Nat) (write : Bool) (code tag : Byte) (payload : List Byte) : List Byte :=
  [firstByte node write, code, tag, BitVec.ofNat 8 payload.length] ++ payload

theorem requestCell_eq (node : Nat) (w : Bool) (code tag : Byte) (p : List Byte) :
    requestCell node w code tag p = cellBody node w code tag p ++ [crc8 (cellBody node w code tag p)] := rfl

theorem requestCell_dropLast (node : Nat) (w : Bool) (code tag : Byte) (p : List Byte) :
    (requestCell node w code tag p).dropLast = cellBody node w code tag p := by
  rw [requestCell_eq, List.dropLast_concat]

theorem nodeField_firstByte {node : Nat} (h : node < 8) (w : Bool) : nodeField (firstByte node w) = node := by
  unfold nodeField firstByte
  rw [BitVec.toNat_ofNat]
  cases w <;> simp only [Bool.toNat_true, Bool.toNat_false] <;> omega

theorem msb_firstByte {node : Nat} (h : node < 8) (w : Bool) : (firstByte node w).msb = w := by
  unfold firstByte
  rw [BitVec.msb_eq_decide, BitVec.toNat_ofNat]
  cases w <;> simp only [Bool.toNat_true, Bool.toNat_false, decide_eq_true_eq, decide_eq_false_iff_not] <;> omega

theorem cellBody_length (node : Nat) (w : Bool) (code tag : Byte) (p : List Byte) :
    (cellBody node w code tag p).length = p.length + 4 := by simp [cellBody]

section
variable {node : Nat} {w : Bool} {code tag : Byte} {p : List Byte} {x : Byte}

/-- The request a cell carries, by its bytes. -/
theorem cellRequest_cellBody (h : node < 8) (b : Bool) : cellRequest b (cellBody node w code tag p ++ [x]) =
    { broadcast := b, write := w, tag := tag, payload := p } := by
  have hwrite : ((cellBody node w code tag p ++ [x])[0]?.getD 0).msb = w := msb_firstByte h w
  have hpayload : ((cellBody node w code tag p ++ [x]).drop 4).dropLast = p := List.dropLast_concat
  rw [cellRequest, hwrite, hpayload]
  rfl

theorem cellChecks_cellBody :
    cellChecks (cellBody node w code tag p ++ [x]) = decide (x = crc8 (cellBody node w code tag p)) := by
  rw [cellChecks, List.dropLast_concat, List.getLast?_concat]
  exact decide_eq_decide.mpr Option.some_inj

/-- A whole cell that the hunting parser meets is taken (R164). -/
theorem State.receiveCell_whole {s : State} (hs : s.trunk.parser = .hunting) (hp : p.length ≤ 48) :
    s.receiveCell (cellBody node w code tag p ++ [x]) = s.takeCell (cellBody node w code tag p ++ [x]) := by
  have hlength : (BitVec.ofNat 8 p.length).toNat = p.length := by rw [BitVec.toNat_ofNat]; omega
  have hwhole : (cellBody node w code tag p ++ [x]).length = p.length + 5 := by
    rw [List.length_append, cellBody_length, List.length_singleton]
  have hhunting : s.withParser .hunting = s := by rw [State.withParser, ← hs]
  have hreceive : s.receiveCell (cellBody node w code tag p ++ [x]) =
      if 48 < (BitVec.ofNat 8 p.length).toNat then (s.spoil (cellBody node w code tag p ++ [x]) .length).withParser .hunting
      else if (cellBody node w code tag p ++ [x]).length < (BitVec.ofNat 8 p.length).toNat + 5 then
        s.withParser (.inCell (cellBody node w code tag p ++ [x]))
      else (s.withParser .hunting).takeCell
        ((cellBody node w code tag p ++ [x]).take ((BitVec.ofNat 8 p.length).toNat + 5)) := by
    unfold State.receiveCell
    rw [hs]
    rfl
  rw [hreceive, hlength, if_neg (Nat.not_lt_of_le hp), if_neg (by rw [hwhole]; exact Nat.lt_irrefl _), hhunting, ← hwhole,
    List.take_length]

/-! ### A whole cell by its addressee (R164, R165) -/

theorem State.addressee_firstByte (s : State) (h : node < 8) (w : Bool) : s.addressee (firstByte node w) =
    if node = s.control.node.val then .this else if node = 7 then .everyone else .other := by
  rw [State.addressee, nodeField_firstByte h]

/-- What a whole cell does on the lane: this node's runs or is faulted CHECK, a broadcast one goes up first, and another
node's only goes up. -/
theorem exec_controlCell_cellBody {s : State} (hs : s.trunk.parser = .hunting) (hp : p.length ≤ 48) (h : node < 8) :
    exec (.controlCell (cellBody node w code tag p ++ [x])) s =
      let up := { s with trunk := s.trunk.forwardUp (cellBody node w code tag p ++ [x]) }
      let run (b : Bool) (u : State) : State :=
        if x = crc8 (cellBody node w code tag p) then
          serveCode code { broadcast := b, write := w, tag := tag, payload := p } u
        else u.cellFault .check
      .next (if node = s.control.node.val then run false s else if node = 7 then run true up else up) := by
  have haddressee : s.addressee ((cellBody node w code tag p ++ [x])[0]?.getD 0) = _ := s.addressee_firstByte h w
  have hcode : (cellBody node w code tag p ++ [x])[1]?.getD 0 = code := rfl
  refine congrArg Host.Outcome.next ((State.receiveCell_whole hs hp).trans ?_)
  unfold State.takeCell
  rw [haddressee, hcode, cellRequest_cellBody h, cellRequest_cellBody h, cellChecks_cellBody]
  simp only [decide_eq_true_eq]
  split_ifs <;> rfl

end

/-! ### The two statements -/

/-- A code runs the row of the command it names, and the row of unknown codes otherwise (R174, R180). -/
theorem next_serveCode (code : Byte) (r : Request) (s : State) : .next (serveCode code r s) =
    match commandOf code with
    | some k => exec (rowOf r k) s
    | none => exec (.unknownCommand code r) s := by
  split
  · rename_i hk
    rw [exec_rowOf_eq_serveCode, ← commandOf_eq_some hk]
  · rfl

/-- Settles O27: the check byte matches, so the addressee alone decides. -/
theorem controlCellsGoWhereAddressed : Obligations.ControlCellsGoWhereAddressed := by
  intro s w code tag p hs hp run up request
  have hnode := s.control.node.isLt
  have hrun (b : Bool) (u : State) : .next (serveCode code (request b) u) = run (request b) u := next_serveCode ..
  refine ⟨?_, ?_, fun n hn hother => ?_⟩
  · rw [requestCell_eq, exec_controlCell_cellBody hs hp (by omega), ← hrun]
    simp only [if_true]
    rfl
  · rw [requestCell_eq, exec_controlCell_cellBody hs hp (by omega), ← hrun]
    simp only [show 7 ≠ s.control.node.val by omega, if_true, if_false]
    rfl
  · rw [requestCell_eq, exec_controlCell_cellBody hs hp (by omega)]
    simp only [hother, show n ≠ 7 by omega, if_false]
    rfl

/-- Settles O28: the fault of a cell that ends early, and the check byte judged where the cell is this node's or
broadcast. -/
theorem faultyCellsAreHeldOrDropped : Obligations.FaultyCellsAreHeldOrDropped := by
  intro s b rest ours held
  have hended (f : CellFault) (parser : Parser) : (s.spoil (b :: rest) f).withParser parser = held f parser := by
    rw [State.spoil_cons]
    rfl
  refine ⟨fun mark => congrArg _ (hended ..), congrArg _ (hended ..), fun w code tag x p hp hs => ?_⟩
  intro spoilt up wrong
  have hnode := s.control.node.isLt
  have hspoilt (n : Nat) : spoilt n = cellBody n w code tag p ++ [x] :=
    congrArg (· ++ [x]) (requestCell_dropLast n w code tag p)
  have hwrong {n : Nat} (h : wrong n) : x ≠ crc8 (cellBody n w code tag p) := by
    rwa [← requestCell_dropLast]
  refine ⟨fun h => ?_, fun h => ?_, fun n hn hother => ?_⟩
  · rw [hspoilt, exec_controlCell_cellBody hs hp (by omega)]
    simp only [hwrong h, if_true, if_false]
    rfl
  · rw [hspoilt, exec_controlCell_cellBody hs hp (by omega)]
    simp only [hwrong h, show 7 ≠ s.control.node.val by omega, if_true, if_false]
    rfl
  · rw [hspoilt, exec_controlCell_cellBody hs hp (by omega)]
    simp only [hother, show n ≠ 7 by omega, if_false]
    rfl

end Sys2Proof.Machine
end

section
/-! SUPPORT. Fill on Trunk Out: which value a slot takes, the samples sent slot by slot, and the check over them; O31 (R63,
R159 to R161; log 2). -/
namespace Sys2Proof.Machine

/-! ### The value that fills a slot (R161) -/

/-- A quenched channel asks for fill in its source slot, unless its mode is pass. -/
theorem State.asksFill_iff (s : State) (slot : Nat) (c : Chan) : s.asksFill slot c = true ↔
    s.router.active.channels[c].sourceSlot.val = slot
      ∧ (s.channels[c].cond.state = .absent ∨ s.channels[c].cond.state = .checking)
      ∧ s.router.active.channels[c].fillMode ≠ .pass := by
  simp only [State.asksFill, Bool.and_eq_true, Bool.or_eq_true, decide_eq_true_eq, and_assoc]

/-- The channels that ask for fill in a slot, lowest first. -/
def State.askers (s : State) (slot : Nat) : List Chan := (List.finRange 16).filter (s.asksFill slot)

theorem State.mem_askers {s : State} {slot : Nat} {c : Chan} : c ∈ s.askers slot ↔ s.asksFill slot c = true := by
  simp [State.askers, List.mem_finRange]

theorem State.askers_sorted (s : State) (slot : Nat) : (s.askers slot).Pairwise (· < ·) :=
  (List.pairwise_lt_finRange 16).filter _

section
variable {s : State} {slot : Nat}

theorem State.fillValue_nil (h : s.askers slot = []) : s.fillValue slot = none := by
  unfold State.fillValue
  rw [← State.askers, h]

theorem State.fillValue_cons {c : Chan} {rest : List Chan} (h : s.askers slot = c :: rest) : s.fillValue slot =
    if (s.askers slot).any fun d => decide (s.router.active.channels[d].fillMode = .zero) then some 0
    else some s.channels[c].holdValue := by
  unfold State.fillValue
  rw [← State.askers, h]

theorem State.fillValue_unasked (h : ∀ c, s.asksFill slot c ≠ true) : s.fillValue slot = none :=
  State.fillValue_nil (List.eq_nil_iff_forall_not_mem.mpr fun c hc => h c (State.mem_askers.mp hc))

/-- Where one channel asks for zero, the slot carries 0. -/
theorem State.fillValue_zero {c : Chan} (h : s.asksFill slot c = true)
    (hz : s.router.active.channels[c].fillMode = .zero) : s.fillValue slot = some 0 := by
  have hc : c ∈ s.askers slot := State.mem_askers.mpr h
  obtain ⟨d, rest, hlist⟩ := List.exists_cons_of_ne_nil (List.ne_nil_of_mem hc)
  rw [State.fillValue_cons hlist, if_pos (List.any_eq_true.mpr ⟨c, hc, decide_eq_true hz⟩)]

/-- Where all ask for hold, it carries the hold value of the lowest. -/
theorem State.fillValue_hold {c : Chan} (h : s.asksFill slot c = true) (hlow : ∀ d, s.asksFill slot d = true → c ≤ d)
    (hhold : ∀ d, s.asksFill slot d = true → s.router.active.channels[d].fillMode = .hold) :
    s.fillValue slot = some s.channels[c].holdValue := by
  have hc : c ∈ s.askers slot := State.mem_askers.mpr h
  have hsorted := s.askers_sorted slot
  have hzero : ¬((s.askers slot).any fun d => decide (s.router.active.channels[d].fillMode = .zero)) = true := by
    intro hany
    obtain ⟨d, hd, hz⟩ := List.any_eq_true.mp hany
    exact absurd ((hhold d (State.mem_askers.mp hd)).symm.trans (of_decide_eq_true hz)) (by decide)
  obtain ⟨d, rest, hlist⟩ := List.exists_cons_of_ne_nil (List.ne_nil_of_mem hc)
  rw [State.fillValue_cons hlist, if_neg hzero]
  have hcd : c ≤ d := hlow d (State.mem_askers.mp (hlist ▸ List.mem_cons_self ..))
  have hdc : d ≤ c := by
    rw [hlist] at hc hsorted
    rcases List.mem_cons.mp hc with rfl | hrest
    · exact le_rfl
    · exact le_of_lt ((List.pairwise_cons.mp hsorted).1 c hrest)
  rw [le_antisymm hcd hdc]

end

/-! ### The samples sent (R160, R161) -/

theorem State.sentFrom_getElem? (s : State) (l : List Sample) (k i : Nat) :
    (s.sentFrom k l)[i]? = l[i]?.map (s.fillValue (k + i)).getD := by
  induction l generalizing k i with
  | nil => rfl
  | cons x rest ih =>
    cases i with
    | zero => rfl
    | succ i => simpa [State.sentFrom, Nat.add_assoc, Nat.add_comm 1] using ih (k + 1) i

theorem State.sentFrom_length (s : State) (l : List Sample) (k : Nat) : (s.sentFrom k l).length = l.length := by
  induction l generalizing k with
  | nil => rfl
  | cons x rest ih => exact congrArg (· + 1) (ih (k + 1))

/-- The frame sent has every slot of the frame that came, the filled ones replaced, whether or not one is. -/
theorem State.forwardedFrame_samples (s : State) (f : Frame) (i : Nat) :
    (s.forwardedFrame f).samples[i]? = f.samples[i]?.map (s.fillValue i).getD := by
  unfold State.forwardedFrame
  split
  · rw [s.sentFrom_getElem?, Nat.zero_add]
  · rename_i h
    cases hx : f.samples[i]? with
    | none => rfl
    | some x =>
      have hi : i < f.samples.length := (List.getElem?_eq_some_iff.mp hx).1
      have hunfilled : s.fillValue i = none := by
        by_contra hfill
        exact h (List.any_eq_true.mpr ⟨i, List.mem_range.mpr hi, Option.isSome_iff_ne_none.mpr hfill⟩)
      rw [hunfilled]
      rfl

/-- It keeps the header, and its check matches. -/
theorem State.forwardedFrame_good (s : State) {f : Frame} (hf : goodFrame f = true) :
    (s.forwardedFrame f).count = f.count ∧ (s.forwardedFrame f).status = f.status
      ∧ (s.forwardedFrame f).samples.length = f.samples.length ∧ goodFrame (s.forwardedFrame f) = true := by
  unfold State.forwardedFrame
  split
  · have hlength := s.sentFrom_length f.samples 0
    refine ⟨rfl, rfl, hlength, ?_⟩
    simp only [goodFrame, Bool.and_eq_true, decide_eq_true_eq] at hf ⊢
    obtain ⟨⟨hcount, hslots⟩, -⟩ := hf
    exact ⟨⟨hcount, hlength.trans hslots⟩, trivial⟩
  · exact ⟨rfl, rfl, rfl, hf⟩

theorem sentAfter_getElem (last : Vector Sample 64) (sent : List Sample) (slot : Fin 64) :
    (sentAfter last sent)[slot] = (sent[slot.val]?).getD last[slot] := by
  simp [sentAfter]

@[simp] theorem State.carryGood_frameOut (s : State) (f : Frame) :
    (s.carryGood f).trunk.frameOut = some (s.forwardedFrame f) := rfl

@[simp] theorem State.carryGood_lastSent (s : State) (f : Frame) :
    (s.carryGood f).trunk.lastSent = sentAfter s.trunk.lastSent (s.forwardedFrame f).samples := rfl

/-- A good frame that declares no restoration is carried on the part as it stands in its period. -/
theorem exec_sampleFrame_carried {s : State} {f : Frame} (hf : goodFrame f = true)
    (h : s.advance.time.link = .locked ∨ s.advance.time.goodRun < 47) :
    ∃ v : State, exec (.sampleFrame f) s = .next (v.carryGood f)
      ∧ v.router = s.advance.router ∧ v.channels = s.advance.channels := by
  have hreg : s.advance.time.regains true = false := by
    rcases h with h | h
    · simp [TimeBase.regains, h]
    · simp [TimeBase.regains, show ¬48 ≤ s.advance.time.goodRun + 1 by omega]
  exact ⟨{ s.advance with time := s.advance.time.countPeriod true },
    by rw [exec_sampleFrame_good hf, State.countRuns_good hreg], rfl, rfl⟩

/-- Settles O31: what is sent is formed on the part as the period's boundary, where one falls, leaves it. -/
theorem fillReplacesQuenchedSlots : Obligations.FillReplacesQuenchedSlots := by
  intro s f hf hrun asks sends
  have carried (u v : State) (hr : v.router = u.router) (hc : v.channels = u.channels) : sends u (v.carryGood f) := by
    have asks_iff (slot : Nat) (c : Chan) : v.asksFill slot c = true ↔ asks u slot c := by
      rw [State.asksFill_iff, hr, hc]
    obtain ⟨hcount, hstatus, hlength, hgood⟩ := v.forwardedFrame_good hf
    refine ⟨v.forwardedFrame f, v.carryGood_frameOut f, hcount, hstatus, hlength, hgood, fun slot x hx => ?_⟩
    have hsent : (v.forwardedFrame f).samples[slot.val]? = some ((v.fillValue slot.val).getD x) := by
      rw [v.forwardedFrame_samples, hx]
      rfl
    refine ⟨_, hsent, ?_, fun hnone => ?_, fun ⟨c, hask, hzero⟩ => ?_, fun c hask hlow hhold => ?_⟩
    · rw [State.carryGood_lastSent, sentAfter_getElem, hsent]
      rfl
    · rw [State.fillValue_unasked fun c hask => hnone c ((asks_iff ..).mp hask)]
      rfl
    · rw [State.fillValue_zero ((asks_iff ..).mpr hask) (hr ▸ hzero)]
      rfl
    · rw [State.fillValue_hold ((asks_iff ..).mpr hask) (fun d hd => hlow d ((asks_iff ..).mp hd))
        fun d hd => hr ▸ hhold d ((asks_iff ..).mp hd), hc]
      rfl
  refine ⟨fun hinside => ?_, fun hlast htaken => ?_⟩
  · have hadvance := State.advance_inside hinside
    obtain ⟨v, hexec, hr, hc⟩ := exec_sampleFrame_carried hf (by rw [hadvance]; exact hrun)
    exact ⟨_, hexec, carried s v (by rw [hr, hadvance]) (by rw [hc, hadvance])⟩
  · obtain ⟨hopens, -⟩ := State.advance_opens hlast htaken
    obtain ⟨v, hexec, hr, hc⟩ := exec_sampleFrame_carried hf (by rwa [hopens.link, hopens.goodRun])
    exact ⟨_, _, (State.advance_boundary hlast htaken).1, hexec, carried s.advance v hr hc⟩

end Sys2Proof.Machine
end

section
/-! SUPPORT. The waiting commands under every command; O2 (R164, R165, R180; log 37). -/
namespace Sys2Proof.Machine

/-! ### Requests and cells -/

/-- A request leaves the waiting commands where its rule does. -/
theorem State.serve_pending {s : State} {code : Byte} {w b : Bool} {r : Request} {rule : State → Reply}
    (h : (rule s).state.pending = s.pending) : (s.serve code w b r rule).pending = s.pending :=
  State.serve_keeps (Q := fun u => u.pending = s.pending) (fun _ _ _ hu => by simpa using hu) (fun _ _ _ _ _ _ hu => hu)
    (fun _ _ hu => hu) rfl h

/-- Every rule leaves the waiting commands, RESTART's too: they lie outside what it clears (R186). -/
theorem commandRule_pending (k : Command) (r : Request) (s : State) : (commandRule k r s).state.pending = s.pending := by
  by_cases hk : k = .restart
  · subst hk
    refine takeOutsideBoot_state (Q := fun u => u.pending = s.pending) rfl fun _ _ _ => ?_
    split_ifs <;> rfl
  · exact (commandRule_sameWaiting hk r s).pending

@[simp] theorem serveCode_pending (code : Byte) (r : Request) (s : State) : (serveCode code r s).pending = s.pending := by
  cases hk : commandOf code with
  | none => rw [serveCode_unknown hk]; exact State.serve_pending rfl
  | some k => rw [serveCode_eq_serve hk]; exact State.serve_pending (commandRule_pending k r s)

@[simp] theorem State.spoil_pending (s : State) (bytes : List Byte) (f : CellFault) :
    (s.spoil bytes f).pending = s.pending := by
  cases bytes with
  | nil => rfl
  | cons b rest => rw [State.spoil_cons]

@[simp] theorem State.takeCell_pending (s : State) (cell : Cell) : (s.takeCell cell).pending = s.pending := by
  unfold State.takeCell
  dsimp only
  split
  · split <;> simp
  · split <;> simp
  · rfl

@[simp] theorem State.receiveCell_pending (s : State) (bytes : List Byte) : (s.receiveCell bytes).pending = s.pending := by
  obtain ⟨u, hu, hr⟩ := s.receiveCell_cases bytes
  have hfirst : u.pending = s.pending := by
    rcases hu with rfl | ⟨arrived, rfl⟩
    · rfl
    · exact s.spoil_pending _ _
  rcases hr with hr | ⟨p, hr⟩ | ⟨cell, hr⟩ <;> rw [hr, ← hfirst] <;> simp

/-! ### Frame periods, the link and the boot image -/

@[simp] theorem State.advance_pending (s : State) : s.advance.pending = s.pending := by
  unfold State.advance
  dsimp only
  split
  · rfl
  · exact State.boundary_pending _ _

@[simp] theorem State.loseLink_pending (s : State) : s.loseLink.pending = s.pending := by simp [State.loseLink]

@[simp] theorem State.regainLink_pending (s : State) : s.regainLink.pending = s.pending := by simp [State.regainLink]

@[simp] theorem State.countRuns_pending (s : State) (good : Bool) : (s.countRuns good).pending = s.pending := by
  unfold State.countRuns
  dsimp only
  split_ifs <;> simp

@[simp] theorem State.endLoad_pending (s : State) (m : MemoryRead) : (s.endLoad m).pending = s.pending := by
  unfold State.endLoad
  dsimp only
  split
  · rfl
  · split <;> rfl

/-! ### Every command -/

/-- An outcome that is a next state with these commands waiting. -/
def CompletesWith (pending : List Instr) (o : Host.Outcome State Fault Refusal) : Prop :=
  ∃ t, o = .next t ∧ t.pending = pending

theorem CompletesWith.next {pending : List Instr} {t : State} (h : t.pending = pending) : CompletesWith pending (.next t) :=
  ⟨t, rfl, h⟩

/-- Settles O2: a request row by its rule, every other row by the operations it is made of. -/
theorem commandsNeverStopNorTouchQueue : Obligations.CommandsNeverStopNorTouchQueue := by
  intro c s
  change CompletesWith s.pending (exec c s)
  cases hc : codedRequest c with
  | some x =>
    rw [exec_coded hc]
    exact .next (serveCode_pending ..)
  | none =>
    cases c with
    | powerOn n => exact .next rfl
    | bootLoadEnd m =>
      change CompletesWith _ (execBootLoadEnd m s)
      unfold execBootLoadEnd
      split
      · exact .next (s.endLoad_pending m)
      · exact .next rfl
    | sampleFrame f =>
      refine .next ?_
      split <;> simp
    | framePeriod => exact .next (by simp)
    | linkLoss =>
      change CompletesWith _ (execLinkLoss s)
      unfold execLinkLoss
      split
      · exact .next s.loseLink_pending
      · exact .next rfl
    | linkRestoration =>
      change CompletesWith _ (execLinkRestoration s)
      unfold execLinkRestoration
      split
      · exact .next s.regainLink_pending
      · exact .next rfl
    | sliceBoundary => exact .next (s.boundary_pending _)
    | secondBoundary =>
      change CompletesWith _ (execSecondBoundary s)
      unfold execSecondBoundary
      split
      · exact .next rfl
      · exact .next (s.boundary_pending true)
    | intervalTimerExpiry c =>
      change CompletesWith _ (execIntervalTimerExpiry c s)
      unfold execIntervalTimerExpiry
      split
      · exact .next (State.emit_pending ..)
      · exact .next rfl
    | controlCell bytes => exact .next (s.receiveCell_pending bytes)
    | cellTimeout arrived mark => exact .next (s.spoil_pending arrived .timeout)
    | cellLengthFault arrived => exact .next (s.spoil_pending arrived .length)
    | passThroughCell | forwardCellWindow | returnLaneSend => exact .next rfl
    | _ => cases hc

end Sys2Proof.Machine
end

section
/-! SUPPORT. The step, SET MODE and LOCK: the front of the queue, the tests of R184 and R187 in their order, and the lock
level under every command; O1, O10 and O15 (R164, R180, R183, R184, R186, R187; log 1, 9, 13, 39). -/
namespace Sys2Proof.Machine

/-! ### The step -/

/-- Settles O1: the two branches of the step. -/
theorem stepRunsFrontCommand : Obligations.StepRunsFrontCommand := fun _ _ _ => ⟨rfl, rfl⟩

/-! ### SET MODE (R184) -/

/-- Only the payloads 1 and 2 name a mode (log 9). -/
theorem setModeOf_unnamed {p : List Byte} (hconfig : p ≠ [1]) (hrun : p ≠ [2]) : setModeOf p = none := by
  by_contra hread
  obtain ⟨b, rfl⟩ := List.length_eq_one_iff.mp (length_of_read (Option.isSome_iff_ne_none.mpr hread))
  simp only [setModeOf, ofLength, List.length_singleton, if_true, field_cons_zero, Option.bind_eq_bind, Option.bind_some]
    at hread
  split at hread
  · rename_i hb
    exact hconfig (congrArg ([·]) (BitVec.eq_of_toNat_eq hb))
  · rename_i hb
    exact hrun (congrArg ([·]) (BitVec.eq_of_toNat_eq hb))
  · exact hread rfl

section
variable {r : Request} {s : State} (hr : Addressed r s)
include hr

/-- SET MODE RUN: the clock is tested before the check, and the mode it stands in last. -/
theorem serveSetMode_run (hp : r.payload = [2]) : serveSetMode r s =
    if s.control.mode = .boot then s.answer r.write 3 r.tag .wrongMode [0]
    else if s.time.clockSet = false then s.answer r.write 3 r.tag .wrongMode [1]
    else if s.check.stage ≠ .idle then s.answer r.write 3 r.tag .busy []
    else if s.control.mode = .run then s.answer r.write 3 r.tag .ok []
    else s.enterRun.answer r.write 3 r.tag .ok [] := by
  have hread : setModeOf r.payload = some .run := by rw [hp]; rfl
  split_ifs with hboot hclock hcheck hrun
  · exact State.serve_plain hr (takeOutsideBoot_boot hboot hread)
  · exact State.serve_taken hr hboot hread (by simp [hclock, Reply.clockUnset])
  · exact State.serve_taken hr hboot hread (by simp [hclock, hcheck, CheckEngine.busy])
  · exact State.serve_taken hr hboot hread (by simp [hclock, hcheck, hrun, CheckEngine.busy])
  · exact State.serve_taken hr hboot hread (by simp [hclock, hcheck, Ne.symm hrun, CheckEngine.busy])

/-- SET MODE CONFIG: the lock is tested before the check; past the other tests the part is in RUN, and leaves it. -/
theorem serveSetMode_config (hp : r.payload = [1]) : serveSetMode r s =
    if s.control.mode = .boot then s.answer r.write 3 r.tag .wrongMode [0]
    else if 2 ≤ s.control.lock then s.answer r.write 3 r.tag .locked []
    else if s.check.stage ≠ .idle then s.answer r.write 3 r.tag .busy []
    else if s.control.mode = .config then s.answer r.write 3 r.tag .ok []
    else (s.leaveRun.emit 1 s.leaveRunChains).answer r.write 3 r.tag .ok [] := by
  have hread : setModeOf r.payload = some .config := by rw [hp]; rfl
  split_ifs with hboot hlock hcheck hconfig
  · exact State.serve_plain hr (takeOutsideBoot_boot hboot hread)
  · exact State.serve_taken hr hboot hread (by simp [hlock])
  · exact State.serve_taken hr hboot hread (by simp [hlock, hcheck, CheckEngine.busy])
  · exact State.serve_taken hr hboot hread (by simp [hlock, hcheck, hconfig, CheckEngine.busy])
  · have hrun : s.control.mode = .run := by
      cases hm : s.control.mode with
      | boot => exact absurd hm hboot
      | config => exact absurd hm hconfig
      | run => rfl
    exact Host.Outcome.next.inj (exec_setMode_leaves hr hp hrun (Nat.lt_of_not_le hlock) (not_not.mp hcheck))

end

/-- Settles O10: an unnamed mode, RUN by its tests, and CONFIG by its tests. -/
theorem setModeFollowsItsTable : Obligations.SetModeFollowsItsTable := fun _ _ hr =>
  ⟨fun hconfig hrun => congrArg _ (State.serve_refused hr (setModeOf_unnamed hconfig hrun)),
    fun hp => congrArg _ (serveSetMode_run hr hp), fun hp => congrArg _ (serveSetMode_config hr hp)⟩

/-! ### LOCK (R187) -/

/-- A byte names a level where it is 1 or 2. -/
theorem lockOf_byte (b : Byte) : lockOf [b] = if b ≠ 1 ∧ b ≠ 2 then none else some b.toNat := by
  by_cases h1 : b = 1
  · subst h1
    rfl
  · by_cases h2 : b = 2
    · subst h2
      rfl
    · rw [if_pos ⟨h1, h2⟩]
      simp only [lockOf, ofLength, List.length_singleton, if_true, field_cons_zero, Option.bind_eq_bind, Option.bind_some]
      split
      · rename_i hb
        exact absurd (BitVec.eq_of_toNat_eq hb) h1
      · rename_i hb
        exact absurd (BitVec.eq_of_toNat_eq hb) h2
      · rfl

/-- LOCK through its tests: the level, BOOT, the level it stands at, and RUN for level 2; a rise offers its event with one
place kept for the answer (log 13). -/
theorem serveLock_byte {r : Request} {s : State} {b : Byte} (hr : Addressed r s) (hp : r.payload = [b]) :
    serveLock r s =
      if b ≠ 1 ∧ b ≠ 2 then s.answer r.write 7 r.tag .badArgument []
      else if s.control.mode = .boot then s.answer r.write 7 r.tag .wrongMode [0]
      else if b.toNat ≤ s.control.lock then s.answer r.write 7 r.tag .ok [BitVec.ofNat 8 s.control.lock]
      else if b = 2 ∧ s.control.mode ≠ .run then s.answer r.write 7 r.tag .wrongMode [0]
      else ((s.raiseLock b.toNat).storeEvent 1 (lockEvent s.time.runningSecond b.toNat)).answer r.write 7 r.tag .ok [b] := by
  have hread := lockOf_byte b
  rw [← hp] at hread
  have htwo : b.toNat = 2 ∧ s.control.mode ≠ .run ↔ b = 2 ∧ s.control.mode ≠ .run :=
    and_congr_left' (BitVec.toNat_inj (y := 2))
  split_ifs at hread ⊢ with hbad hboot hheld hmode
  · exact State.serve_refused hr hread
  · exact State.serve_plain hr (takeOutsideBoot_boot hboot hread)
  · exact State.serve_taken hr hboot hread (by rw [if_pos hheld, beBytes_one])
  · exact State.serve_taken hr hboot hread (by rw [if_neg hheld, if_pos (htwo.mpr hmode), Reply.wrongMode])
  · have hrule : lockRule r.payload s = _ := takeOutsideBoot_some hboot hread
    rw [if_neg hheld, if_neg (mt htwo.mp hmode), beBytes_one, BitVec.ofNat_toNat, BitVec.setWidth_eq] at hrule
    rw [serveLock, State.serve_addressed s _ _ _ _ _ hr.1 hr.2, hrule, State.emit_single]
    rfl

/-! ### The lock level under a request -/

/-- LOCK lowers no level (R187). -/
theorem lockRule_lock_le (p : List Byte) (s : State) : s.control.lock ≤ (lockRule p s).state.control.lock := by
  refine takeOutsideBoot_state (Q := fun u => s.control.lock ≤ u.control.lock) le_rfl fun level _ _ => ?_
  split_ifs with hheld
  · exact le_rfl
  · exact le_rfl
  · exact Nat.le_of_not_le hheld

section
variable {α : Type} {s : State} {operands : Option α} {rule : α → Reply}
  (h : ∀ a, (rule a).state.control.lock = s.control.lock)
include h

/-- A rule leaves the lock level where it does so on the operands it reads. -/
theorem takeAlways_lock : (takeAlways s operands rule).state.control.lock = s.control.lock :=
  takeAlways_state (Q := fun u => u.control.lock = s.control.lock) rfl fun a _ => h a

/-- The same of a command that is not taken in BOOT. -/
theorem takeOutsideBoot_lock : (takeOutsideBoot s operands rule).state.control.lock = s.control.lock :=
  takeOutsideBoot_state (Q := fun u => u.control.lock = s.control.lock) rfl fun a _ _ => h a

end

/-- Every rule but LOCK's leaves the lock level, RESTART's too (R186, R187). -/
theorem commandRule_lock {k : Command} (hk : k ≠ .lock) (r : Request) (s : State) :
    (commandRule k r s).state.control.lock = s.control.lock := by
  cases k
  case lock => exact absurd rfl hk
  case identify | status => exact takeAlways_lock fun _ => rfl
  case setMode | trimTime | restart => exact takeOutsideBoot_lock fun _ => by split_ifs <;> rfl
  case setTime => exact takeAlways_lock fun _ => by split_ifs <;> rfl
  case mapChannel | mapGroup | periodEntry | groupLimit =>
    simp only [commandRule]
    split
    · exact takeOutsideBoot_lock fun _ => rfl
    · exact takeOutsideBoot_lock fun _ => by split <;> rfl
  case coefSection =>
    simp only [commandRule]
    split
    · exact takeAlways_lock fun _ => by split_ifs <;> rfl
    · exact takeOutsideBoot_lock fun _ => rfl
  case mapCommit | scheduleCommit | excludeAdd | excludeRead =>
    refine takeOutsideBoot_lock fun _ => ?_
    split
    · rfl
    · split <;> rfl
  case excludeEnd | excludeClear | checkStart => exact takeOutsideBoot_lock fun _ => by split <;> rfl
  case checkAbort => exact takeOutsideBoot_lock fun _ => by simp [Reply.plain, State.abortCheck]
  case checkRead | checkSummary | levelRead | statsRead => exact takeOutsideBoot_lock fun _ => rfl
  case resultRead | eventTake => exact takeAlways_lock fun _ => by split <;> rfl

/-- What holds of the lock level before a request and as its rule leaves it holds after the request. -/
theorem State.serve_lock {P : Nat → Prop} {s : State} {code : Byte} {w b : Bool} {r : Request} {rule : State → Reply}
    (hs : P s.control.lock) (h : P (rule s).state.control.lock) : P (s.serve code w b r rule).control.lock :=
  State.serve_keeps (Q := fun u => P u.control.lock) (fun _ _ _ hu => by simpa using hu) (fun _ _ _ _ _ _ hu => hu)
    (fun _ _ hu => hu) hs h

/-- A request under any code but LOCK's leaves the lock level. -/
theorem serveCode_lock {code : Byte} (hcode : commandOf code ≠ some .lock) (r : Request) (s : State) :
    (serveCode code r s).control.lock = s.control.lock := by
  cases hk : commandOf code with
  | none => rw [serveCode_unknown hk]; exact State.serve_lock (P := (· = _)) rfl rfl
  | some k =>
    have hne : k ≠ .lock := fun h => hcode (hk.trans (congrArg some h))
    rw [serveCode_eq_serve hk]
    exact State.serve_lock (P := (· = _)) rfl (commandRule_lock hne r s)

/-- No request lowers the lock level. -/
theorem serveCode_lock_le (code : Byte) (r : Request) (s : State) : s.control.lock ≤ (serveCode code r s).control.lock := by
  by_cases hcode : commandOf code = some .lock
  · rw [serveCode_eq_serve hcode]
    exact State.serve_lock (P := (_ ≤ ·)) le_rfl (lockRule_lock_le r.payload s)
  · exact (serveCode_lock hcode r s).ge

/-- Among the rows that a request carries, LOCK's and the one of any code alone can run a LOCK. -/
theorem codedRequest_ne_lock {i : Instr} {code : Byte} {r : Request} (h : codedRequest i = some (code, r))
    (hlock : ∀ r, i ≠ .lock r) (hany : ∀ code r, i ≠ .unknownCommand code r) : commandOf code ≠ some .lock := by
  cases i
  case lock r => exact absurd rfl (hlock r)
  case unknownCommand code r => exact absurd rfl (hany code r)
  all_goals cases h <;> decide

/-! ### The lock level under everything else -/

@[simp] theorem State.boundary_lock (s : State) (b : Bool) : (s.boundary b).control.lock = s.control.lock := by
  rw [State.boundary_control]
  split <;> rfl

@[simp] theorem State.advance_lock (s : State) : s.advance.control.lock = s.control.lock := by
  unfold State.advance
  dsimp only
  split
  · rfl
  · exact State.boundary_lock _ _

@[simp] theorem State.countRuns_lock (s : State) (good : Bool) : (s.countRuns good).control.lock = s.control.lock := by
  unfold State.countRuns
  dsimp only
  split_ifs <;> simp

/-- The end of the load leaves the lock level, whether the image is discarded or accepted, or starts RUN (R190). -/
theorem State.endLoad_lock (s : State) (m : MemoryRead) : (s.endLoad m).control.lock = s.control.lock := by
  unfold State.endLoad
  dsimp only
  split
  · rfl
  · split <;> rfl

theorem State.takeCell_lock_le (s : State) (cell : Cell) : s.control.lock ≤ (s.takeCell cell).control.lock := by
  unfold State.takeCell
  dsimp only
  split
  · split
    · exact serveCode_lock_le ..
    · exact le_rfl
  · split
    · exact serveCode_lock_le _ _ { s with trunk := s.trunk.forwardUp cell }
    · exact le_rfl
  · exact le_rfl

/-- Bytes on the lane lower no level: a cell they complete is the one thing of them that can move it. -/
theorem State.receiveCell_lock_le (s : State) (bytes : List Byte) :
    s.control.lock ≤ (s.receiveCell bytes).control.lock := by
  obtain ⟨u, hu, hr⟩ := s.receiveCell_cases bytes
  have hfirst : u.control.lock = s.control.lock := by
    rcases hu with rfl | ⟨arrived, rfl⟩
    · rfl
    · exact (s.spoil_sameClock _ _).lock
  rw [← hfirst]
  rcases hr with hr | ⟨p, hr⟩ | ⟨cell, hr⟩ <;> rw [hr]
  · exact (u.spoil_sameClock bytes .length).lock.ge
  · exact le_rfl
  · exact (u.withParser .hunting).takeCell_lock_le cell

/-- The rows that no request carries leave the lock level, but for POWER_ON and CONTROL_CELL. -/
theorem exec_uncoded_lock {i : Instr} {s t : State} (hc : codedRequest i = none) (hp : ∀ n, i ≠ .powerOn n)
    (hcell : ∀ bytes, i ≠ .controlCell bytes) (hi : exec i s = .next t) : t.control.lock = s.control.lock := by
  cases i with
  | powerOn n => exact absurd rfl (hp n)
  | controlCell bytes => exact absurd rfl (hcell bytes)
  | bootLoadEnd m =>
    change execBootLoadEnd m s = _ at hi
    unfold execBootLoadEnd at hi
    split at hi <;> obtain rfl := Host.Outcome.next.inj hi
    · exact s.endLoad_lock m
    · rfl
  | sampleFrame f =>
    obtain rfl := Host.Outcome.next.inj hi
    split <;> simp
  | framePeriod => obtain rfl := Host.Outcome.next.inj hi; simp
  | linkLoss =>
    change execLinkLoss s = _ at hi
    unfold execLinkLoss at hi
    split at hi <;> obtain rfl := Host.Outcome.next.inj hi <;> simp
  | linkRestoration =>
    change execLinkRestoration s = _ at hi
    unfold execLinkRestoration at hi
    split at hi <;> obtain rfl := Host.Outcome.next.inj hi <;> simp
  | sliceBoundary => obtain rfl := Host.Outcome.next.inj hi; exact s.boundary_lock _
  | secondBoundary =>
    change execSecondBoundary s = _ at hi
    unfold execSecondBoundary at hi
    split at hi <;> obtain rfl := Host.Outcome.next.inj hi
    · rfl
    · exact s.boundary_lock true
  | intervalTimerExpiry c =>
    change execIntervalTimerExpiry c s = _ at hi
    unfold execIntervalTimerExpiry at hi
    split at hi <;> obtain rfl := Host.Outcome.next.inj hi <;> simp
  | cellTimeout arrived mark => obtain rfl := Host.Outcome.next.inj hi; exact (s.spoil_sameClock _ _).lock
  | cellLengthFault arrived => obtain rfl := Host.Outcome.next.inj hi; exact (s.spoil_sameClock _ _).lock
  | passThroughCell | forwardCellWindow | returnLaneSend => obtain rfl := Host.Outcome.next.inj hi; rfl
  | _ => cases hc

/-- Settles O15: LOCK by its tests; then every row but POWER_ON, as a request under its code, as bytes that may complete a
cell, or as a row that runs no request. -/
theorem lockFollowsItsTable : Obligations.LockFollowsItsTable := by
  refine ⟨fun r s b hr hp => congrArg _ (serveLock_byte hr hp), fun n s t h => ?_, fun i s t hp hi => ?_⟩
  · obtain rfl := Host.Outcome.next.inj h
    rfl
  · cases hc : codedRequest i with
    | some x =>
      rw [exec_coded hc] at hi
      obtain rfl := Host.Outcome.next.inj hi
      exact ⟨serveCode_lock_le .., fun hlock _ hany => serveCode_lock (codedRequest_ne_lock hc hlock hany) ..⟩
    | none =>
      by_cases hcell : ∃ bytes, i = .controlCell bytes
      · obtain ⟨bytes, rfl⟩ := hcell
        obtain rfl := Host.Outcome.next.inj hi
        exact ⟨s.receiveCell_lock_le bytes, fun _ hother _ => absurd rfl (hother bytes)⟩
      · have hkept := exec_uncoded_lock hc hp (not_exists.mp hcell) hi
        exact ⟨hkept.ge, fun _ _ _ => hkept⟩

end Sys2Proof.Machine
end
